-- ==== Sys2Proof/Word.lean ====
section
/-!
DEFINITION. The word and byte types, and sparse tables as plain data.
-/
namespace Sys2Proof

/-- A 32-bit register word (R24). -/
abbrev Word := BitVec 32

/-- A byte. -/
abbrev Byte := BitVec 8

/-- A sparse table: pairs of a key and a value, keys strictly rising, no pair equal to what an unlisted key reads as. -/
abbrev Tbl (α : Type) := List (Nat × α)

end Sys2Proof
end

