-- ==== Sys2Proof/Syntax.lean ====
section
/-!
DEFINITION. The commands of the block: one constructor per row of spec/opcode_table.json, with the operands the rule of the row names.
A command is what reaches the part from outside (an access over a PCIe port, a message of a head, a target, a host or a clock)
or an event of the part's own machinery; the operands of an event carry the facts about the outside world that its rule uses.
-/
namespace Sys2Proof

/-- An access of a PCIe port to BAR0 (R23, R24): port, requester id, byte address, length, for a write the bytes, and the bytes of the
range, counted from its first, that are not enabled. -/
structure Access where
  port : Nat
  rid  : Nat
  addr : Nat
  len  : Nat
  wr   : Bool
  data : List (BitVec 8)
  holes : List Nat := []
  deriving DecidableEq, Repr

/-- An aligned 32-bit access to one register (R24), for the rows that name a single register. -/
structure WAcc where
  port : Nat
  rid  : Nat
  addr : Nat
  val  : BitVec 32
  deriving DecidableEq, Repr

/-- What a background calibration phase does (R89): a step at a permitted gap, a step that finds no gap, or the range's end. -/
inductive CalStep where
  | inGap | noGap | rangeEnd
  deriving DecidableEq, Repr

/-- A received codeword as the lane delivers it (R101, R103): its place in its superframe (0 to 119) and its 544 ten-bit symbols, still
scrambled. -/
structure RxWord where
  pos  : Nat
  syms : List Nat
  deriving DecidableEq, Repr

/-- A lane and the words, of symbols as levels, that its receiver sees on it (R87, R88). -/
structure LaneRx where
  lane  : Nat
  words : List (List Int)
  deriving DecidableEq, Repr

/-- A hand-off packet as it arrives: the die that sent it, its group, and its bytes (R218). -/
structure HandoffRx where
  src   : Nat
  group : Nat
  bytes : List (BitVec 8)
  deriving DecidableEq, Repr

/-- A rail of a die and its voltage in 0.1 mV (R361, R363). -/
structure RailLevel where
  rail  : Nat
  level : Nat
  deriving DecidableEq, Repr

/-- The sampled levels of an encoder unit's pins, how long they held in TIME cycles, and the timestamp in 1/64 ns (R130). -/
structure EncPins where
  a    : Bool
  b    : Bool
  z    : Bool
  held : Nat
  te   : Nat
  deriving DecidableEq, Repr

/-- The end-of-line check of a slice (R168): passed, failed, or passed with an uncorrectable word of the delay store, which holds `n`
values from `first` of a segment `back` lines ago (R187). -/
inductive LineCheck where
  | pass
  | fail
  | storeUncorr (back seg first n : Nat)
  deriving DecidableEq, Repr

/-- The three delivery paths (R231). -/
inductive PathKind where
  | pcie | eth | coil
  deriving DecidableEq, Repr

/-- A descriptor as read from host memory (R259). -/
structure Desc where
  addr   : Nat
  bufLen : Nat
  own    : Bool
  deriving DecidableEq, Repr

/-- A bus error of a read of a ring (R267): its KIND and whether the read was a flush read. -/
structure BusErr where
  kind  : Nat
  flush : Bool
  deriving DecidableEq, Repr

/-- A UDP message that a MAC receives (R274): the sender's address and port, the checksum field, and the payload. -/
structure UdpRx where
  sip   : Nat
  sport : Nat
  sum   : Nat
  bytes : List (BitVec 8)
  deriving DecidableEq, Repr

/-- A received PTP message (R287, R288): its type, the timestamp of the mark in 1/64 ns, and what the servo takes from it. -/
inductive PtpRx where
  | sync (mark : Nat) (offset : Int)
  | delayResp (mark : Nat)
  | announce (mark : Nat) (portState : Nat)
  | other (mark : Nat)
  deriving DecidableEq, Repr

/-- A PTP message sent (R289), with the transmit mark in 1/64 ns. -/
inductive PtpTx where
  | sync (mark : Nat)
  | delayReq (mark : Nat)
  | other (mark : Nat)
  deriving DecidableEq, Repr

/-- A message of a Coil target (R302): the MAC that receives it, the target that sends it, and the message. -/
structure CoilRx where
  die : Nat
  mac : Nat
  tgt : Nat
  udp : UdpRx
  deriving DecidableEq, Repr

/-- What a target answered to the PROBE of a set-up command (R313): the target and its capacity. -/
structure ProbeAns where
  tgt    : Nat
  capMiB : Nat
  deriving DecidableEq, Repr

/-- A CAN frame (R337): identifier, format, flags, DLC, data, and the kernel count at its start of frame. -/
structure CanFrame where
  id    : Nat
  ide   : Bool
  fdf   : Bool
  brs   : Bool
  esi   : Bool
  rtr   : Bool
  dlc   : Nat
  data  : List (BitVec 8)
  own   : Bool
  sof   : Nat
  deriving DecidableEq, Repr

/-- How a transmit attempt ended (R344 to R347). Of an error: its LEC; `quiet` that ISO 11898-1 excepts it from raising TEC (an
acknowledgement error with no dominant bit in the passive error flag, a stuff error of arbitration read dominant), and the further
rises by 8 that the standard counts while the error is signalled. -/
inductive CanTxEnd where
  | sent (sof : Nat)
  | lostArb
  | error (lec : Nat) (quiet : Bool) (extra : Nat)
  | ramUncorr
  deriving DecidableEq, Repr

/-- What wakes a sleeping controller (R355). -/
inductive CanWake where
  | edge (cycles : Nat)
  | frame (f : CanFrame)
  deriving DecidableEq, Repr

/-- A receive error under ISO 11898-1 (R346): an error detected, or a further dominant bit or run of dominant bits while it is signalled. -/
inductive CanRxErr where
  | plain | more
  deriving DecidableEq, Repr

/-- What starts a warm reset (R370). -/
inductive WarmCause where
  | rstn | command | jtagCe
  deriving DecidableEq, Repr

/-- The package TAP, or the TAP of a die (R378). -/
inductive Tap where
  | package
  | die (d : Nat)
  deriving DecidableEq, Repr

/-- What a host's configuration of a port changes (R253, R254): Bus Master Enable, max payload size code, relaxed ordering, No Snoop, the
completion timeout code and the MSI-X function mask; the address of BAR0/1 (pair 0) or BAR2/3 (pair 1); an entry of the MSI-X table; or the
link's power state, L1 or L0. -/
inductive PciCfgWrite where
  | control (bme : Bool) (mps : Nat) (roEn nsEn : Bool) (cto : Nat) (msixFm : Bool)
  | bar (pair addr : Nat)
  | vector (n addr data : Nat) (masked : Bool)
  | linkPower (l1 : Bool)
  deriving DecidableEq, Repr

/-- The commands: one constructor per row of the table of operations and events. -/
inductive Instr where
  /-- REGISTER_WRITE (R37). A write to a register that has no row of its own acts on all its fields in one CORE cycle, each field by its access type. -/
  | registerWrite (a : Access)
  /-- ALIAS_WRITE (R27). A write to a set, clear or toggle alias changes the written RW and RWD bits of the register within one CORE cycle. -/
  | aliasWrite (a : WAcc)
  /-- SEQ_CLEAR (R40). A write to a SEQ register clears the flags written as 1 only if the sequence number matches and no set event falls in the same cycle. -/
  | seqClear (a : WAcc)
  /-- BLOCK_ENABLE_WRITE (R44). A write to xxx_CTRL.EN; clearing it is refused and recorded in BOUND_REJ while BOUND is 1. -/
  | blockEnableWrite (a : WAcc)
  /-- BLOCK_QUIESCE (R42). A block whose EN was cleared finishes its work in hand and sets QUIESCED within 2.0 µs. -/
  | blockQuiesce (base : Nat)
  /-- COUNTER_SNAPSHOT (R45). A write of 1 to xxx_SNAP copies all counters of the block to their holding registers and increments SNAPNO. -/
  | counterSnapshot (a : WAcc)
  /-- IND_DATA_READ (R48). A read of IND_DATA queues behind earlier indirect writes, returns the word at IND_ADDR once it has arrived, and advances ADDR. -/
  | indDataRead (a : WAcc)
  /-- IND_DATA_WRITE (R47). A write of IND_DATA is posted into the block's indirect write queue, waiting while the queue is full, and advances ADDR. -/
  | indDataWrite (a : WAcc)
  /-- IND_WRITE_APPLY (R48). A queued indirect write reaches its clock domain and is applied to the addressed word, in order. -/
  | indWriteApply (base : Nat)
  /-- IND_ACCESS_TIMEOUT (R49). An indirect access to a domain without a running clock completes after 2.0 µs with all ones or a discard and sets IND_STAT.TIMEOUT. -/
  | indAccessTimeout (base : Nat)
  /-- TMR_SCRUB (R51). Periodic scrub of TMR bits that rewrites a disagreeing copy from the majority and sets TMRERR.MISMATCH. -/
  | tmrScrub (die : Nat)
  /-- PRT_COMMIT (R57). A write of PRT_COMMIT.COMMIT copies the staged protection table and starts its distribution to every port checker, unless the lock-out rule refuses it. -/
  | prtCommit (a : WAcc)
  /-- PRT_COMMIT_COMPLETE (R57). Every checker has switched to the committed table and PRT_GEN is incremented. -/
  | prtCommitComplete
  /-- MBX_DOORBELL (R68). A doorbell write makes each rung FREE slot POSTED with its latched TAG, level and consumer range, or sets RING_BUSY. -/
  | mbxDoorbell (a : WAcc)
  /-- MBX_RELEASE (R70). A release write returns each DONE slot to FREE, or sets REL_EARLY for a slot that is not DONE. -/
  | mbxRelease (a : WAcc)
  /-- COMMAND_AREA_WRITE (R66). A write to a slot's command area is stored while the slot is FREE and otherwise discarded with WRITE_LOCKED. -/
  | commandAreaWrite (a : Access)
  /-- COMMAND_START (R71). The leader starts a posted command that no longer waits, checks it, and runs it or returns its journalled result. -/
  | commandStart (w slot : Nat)
  /-- DEV_NOP (R77). Returns its first 240 parameter bytes. -/
  | devNop (w slot : Nat)
  /-- DEV_INFO (R77). Returns part, die health, leader, cluster, epoch, uptime and firmware information. -/
  | devInfo (w slot : Nat)
  /-- DEV_SET_WINDOW_LEVEL (R77). Sets the privilege level of a mailbox window for accesses that arrive after its commit point. -/
  | devSetWindowLevel (w slot : Nat)
  /-- DEV_WARM_RESET (R77). Returns OK and schedules a warm reset of the package 1.0 ms later. -/
  | devWarmReset (w slot : Nat)
  /-- FW_QUERY (R77). Returns the state of both image slots, the SVN floor and the key states. -/
  | fwQuery (w slot : Nat)
  /-- FW_STAGE (R80). Reads an image from host memory, writes it into a flash slot and verifies it. -/
  | fwStage (w slot : Nat) (image : List (BitVec 8))
  /-- FW_VERIFY (R79). Runs the image checks on a flash slot and reports the first failure. -/
  | fwVerify (w slot : Nat)
  /-- FW_ACTIVATE (R81). Activates an image at the next warm reset or live, restarting the clusters one at a time, optionally raising the SVN floor. -/
  | fwActivate (w slot : Nat)
  /-- FW_SET_BOOT (R373). Writes the preferred image slot into the older boot record copy. -/
  | fwSetBoot (w slot : Nat)
  /-- FW_REVOKE_KEY (R82). Irreversibly sets the revocation bit of a signing key index. -/
  | fwRevokeKey (w slot : Nat)
  /-- CLUSTER_RESTART (R59). A restarting cluster has verified its image copy again and runs it. -/
  | clusterRestart (die : Nat)
  /-- CLUSTER_DECLARED_FAILED (R61). A cluster that does not run again within 25 ms, or that has had three fault reactions within 10 s, is declared failed. -/
  | clusterDeclaredFailed (die : Nat)
  /-- LEADER_TAKEOVER (R62). A new leader takes over the mailboxes from its mirrored state within 25 ms and STATE reads running. -/
  | leaderTakeover
  /-- KNOT_BOOK_REWRITE (R31). Firmware sets GEN odd, rewrites the body, LEN and CRC, and sets GEN to the next even value after a change of state. -/
  | knotBookRewrite
  /-- LANE_CAL_DONE (R86). A lane's full calibration ends with the synthesiser locked, or with the result out of range; held transmit requests are released. -/
  | laneCalDone (die lane : Nat) (inRange : Bool)
  /-- LANE_ALIGNED (R88). Three comma matches at one offset set the word boundary and make the lane ACTIVE. -/
  | laneAligned (die : Nat) (x : LaneRx)
  /-- ALIGN_LOSS (R88). Four consecutive missed comma positions set ALIGN_LOSS and return the lane to the alignment step. -/
  | alignLoss (die : Nat) (x : LaneRx)
  /-- BACKGROUND_CAL_STEP (R89). A background calibration phase step is applied at a permitted word boundary. -/
  | backgroundCalStep (die lane : Nat) (step : CalStep)
  /-- TRANSMIT_REQUEST (R90). A transmit request is sent, held in the hold queue while the lane is in CAL, or begins an exit from a low-power state. -/
  | transmitRequest (die lane unit : Nat)
  /-- HEAD_WAKE (R93). At least 1.0 µs of toggling on a low-power lane's receive pad begins an exit or joins the exit in progress. -/
  | headWake (die lane : Nat)
  /-- LANE_EXIT_DONE (R91). A lane leaving IDLE or DEEP completes its resume sequence and reaches ACTIVE. -/
  | laneExitDone (die lane : Nat)
  /-- LNQ_LP_WRITE (R92). A write of LNQ_LP sets lane power targets, refusing low power on trigger-duty lanes with LP_REFUSED. -/
  | lnqLpWrite (a : WAcc)
  /-- LNQ_PRBS_INJECT (R94). A write of 1 to LNQ_PRBS.INJ inverts one bit of the generator's next word. -/
  | lnqPrbsInject (a : WAcc)
  /-- HOLDMAX_CLEAR (R90). A write of 1 to LNQ_HOLDMAX.CLR clears the recorded longest hold. -/
  | holdmaxClear (a : WAcc)
  /-- CDR_LOSS (R96). A CDR loss of lock starts the lane's self-check. -/
  | cdrLoss (die lane : Nat)
  /-- SELF_CHECK_DONE (R96). The lane self-check ends, raising RX_CORE when it fails or LINK_LOSS when it passes. -/
  | selfCheckDone (die lane : Nat) (pass : Bool)
  /-- SYNTH_UNLOCK (R315). A synthesiser out of lock for more than 100 ns raises SYNTH_UNLOCK. -/
  | synthUnlock (die lane : Nat)
  /-- SPARE_TX_ALIGNED (R98). The spare synthesiser has aligned its phase, and the transmit output switches in a gap between hitch slots. -/
  | spareTxAligned (die group : Nat)
  /-- SWAP_RX_ACTIVE (R98). The spare's receive path reaches ACTIVE, SWAP_DONE is set in both quads, and traffic resumes. -/
  | swapRxActive (die group : Nat)
  /-- LANE_QUERY (R100). Returns the mapping, state and flags of a lane group's lanes and spare. -/
  | laneQuery (w slot : Nat)
  /-- LANE_SET_MODE (R100). Sets the mode of disabled quads of a lane group. -/
  | laneSetMode (w slot : Nat)
  /-- LANE_SET_POWER (R100). Sets lane power targets and completes when the lanes reach them. -/
  | laneSetPower (w slot : Nat)
  /-- LANE_PRBS (R100). Runs pattern generation and checking on a free lane for a duration and returns the counts. -/
  | lanePrbs (w slot bits errs relocks : Nat)
  /-- LANE_SWAP (R100). Moves a logical lane onto its group's spare by command. -/
  | laneSwap (w slot : Nat)
  /-- LANE_RESTORE (R98). Checks the reset original core and returns traffic from the spare to it without losing a word. -/
  | laneRestore (w slot : Nat) (loopOk : Bool)
  /-- LANE_SET_EQ (R100). Sets a lane's transmit equaliser. -/
  | laneSetEq (w slot : Nat)
  /-- LANE_RECAL (R100). Runs a full calibration on a lane without trigger duty. -/
  | laneRecal (w slot : Nat) (inRange : Bool)
  /-- CODEWORD_RX (R106). A received Strand codeword is accepted, discarded as a duplicate, or discarded with a NAK. -/
  | codewordRx (die lane : Nat) (r : RxWord)
  /-- NAK_REPEAT (R106). An outstanding NAK is repeated after 10 µs without acceptance of the expected codeword. -/
  | nakRepeat (die lane : Nat)
  /-- ACK_SEND (R106). The part sends a LINK flit acknowledging accepted codewords at least once per 1.0 µs. -/
  | ackSend (die lane : Nat)
  /-- LINK_FLIT_RX (R109). A received LINK flit delivers acknowledgement, NAK, credit, HELLO or sleep fields. `body` is the body of the flit that is
  taken, the oldest that the lane has received. -/
  | linkFlitRx (die lane : Nat) (body : List (BitVec 8))
  /-- TUNNEL_RSP_RX (R115). A tunnel response completes its register access request and its credit returns. The operands are those of the oldest
  response that the channel has received. -/
  | tunnelRspRx (ch tag status len : Nat) (data : List (BitVec 8))
  /-- TUNNEL_TIMEOUT (R115). A tunnel request unanswered after 1.0 ms completes with DETAIL 0x0001 and its credit is restored. -/
  | tunnelTimeout (ch tag : Nat)
  /-- EVENT_FLIT_RX (R116). A head event is latched in STR_HEVT, sets HEAD_EVENT and is passed to firmware. CODE and VALUE are those of the oldest
  event that the channel has received. -/
  | eventFlitRx (ch code value : Nat)
  /-- CSI2_PACKET_RX (R122). A CSI-2 packet accepted in order is checked and matched to its trigger, frame unit and line. `bytes` are those of the
  next packet of the channel's stream. -/
  | csi2PacketRx (ch : Nat) (bytes : List (BitVec 8))
  /-- LINE_DEADLINE (R123). A line or area frame not complete at its deadline is closed with filled pixels and LATE. -/
  | lineDeadline (ch : Nat)
  /-- LINK_DOWN (R124). LINK_LOSS, 1.0 ms without acceptance while data is owed, or a refused HELLO declares LINK_DOWN. -/
  | linkDown (ch : Nat)
  /-- STREAM_REMOVAL (R128). A removal takes effect at the channel's FE or deadline, BOUND clears and the lanes take their target state. -/
  | streamRemoval (ch : Nat)
  /-- STR_DEADLINE_WRITE (R123). A write of STR_DEADLINE is clamped between STR_DEADMIN and STR_DEADMAX with the matching event flag. -/
  | strDeadlineWrite (a : WAcc)
  /-- STR_SET_OPEN (R129). Opens a stream set and returns its id. -/
  | strSetOpen (w slot : Nat)
  /-- STR_SET_ADD (R129). Adds a channel with its lanes, trigger kind, latency, deadline and streams to an open set. -/
  | strSetAdd (w slot : Nat)
  /-- STR_SET_COMMIT (R127). Admits a stream set as one under the admission checks; its channels start at their next frame-unit start. -/
  | strSetCommit (w slot : Nat)
  /-- STR_SET_DISCARD (R129). Discards an open stream set. -/
  | strSetDiscard (w slot : Nat)
  /-- STR_REMOVE (R128). Schedules the removal of the named channels at the end of their open frame units. -/
  | strRemove (w slot : Nat)
  /-- STR_TUNNEL (R115). Performs a tunnelled register access on a head. -/
  | strTunnel (w slot : Nat)
  /-- STR_QUERY (R129). Returns a channel's link state, head buffer, head id and last 16 head events. -/
  | strQuery (w slot : Nat)
  /-- ENCODER_EDGE (R130). A counted encoder edge updates the coordinate and speed history, timestamped to 1/64 ns. -/
  | encoderEdge (die unit : Nat) (pins : EncPins)
  /-- WEB_LOAD_GO (R133). A write of WEB_LOAD_CTRL.GO arms a coordinate load. -/
  | webLoadGo (a : WAcc)
  /-- ENCODER_STALL (R137). No counted edge within WEB_STALL sets STALL, clears the history and cancels unarmed fires. -/
  | encoderStall (die unit : Nat)
  /-- REPLICA_EDGE_UPDATE (R138). A sideband edge message updates a source replica 12.0 ns after the edge. -/
  | replicaEdgeUpdate (die src : Nat)
  /-- SRC_LOST (R151). A replica that sees no sideband update while its home source counts, or whose home die is isolated, raises SRC_LOST. -/
  | srcLost (die src : Nat)
  /-- TIME_ALIGN_LOSS (R18). A die whose time unit loses alignment raises TIME_ALIGN and keeps firing on its compensated schedule. -/
  | timeAlignLoss (die : Nat)
  /-- TRIGGER_FIRE (R141). A distance generator's trigger reaches its instant and fires its outputs, hitches and tag entries. -/
  | triggerFire (gen : Nat)
  /-- TIME_TRIGGER (R140). A time generator's trigger fires at T0 + n × TPER. -/
  | timeTrigger (gen : Nat)
  /-- TRG_ARM (R147). A write of TRG_GEN_CTRL.ARM schedules the staged pitch values for a coming frame-unit start. -/
  | trgArm (a : WAcc)
  /-- OUTPUT_WINDOW_START (R143). A trigger output's window begins DELAY after the fire time and drives the active level. -/
  | outputWindowStart (die out : Nat)
  /-- OUTPUT_WINDOW_END (R143). A trigger output's window ends WIDTH after it began. -/
  | outputWindowEnd (die out : Nat)
  /-- DELAY_LINE_EXCHANGE (R17). A fire path's calibrated delay line is exchanged with the serving one in a TIME cycle with no armed trigger. -/
  | delayLineExchange (die out : Nat)
  /-- WEB_SET_ENCODER (R152). Configures an encoder unit's mode, direction, filter and stall time. -/
  | webSetEncoder (w slot : Nat)
  /-- WEB_LOAD (R133). Arms a coordinate load for a source. -/
  | webLoad (w slot : Nat)
  /-- WEB_QUERY (R152). Returns a source's coordinate, period, history, edges and reversals. -/
  | webQuery (w slot : Nat)
  /-- TRG_SET_GEN (R152). Configures a trigger generator and returns its MINGAP. -/
  | trgSetGen (w slot : Nat)
  /-- TRG_ATTACH (R149). Attaches channels of a stream set to a generator, subject to the tag-queue check. -/
  | trgAttach (w slot : Nat)
  /-- TRG_START (R148). Starts a generator that is not running. -/
  | trgStart (w slot : Nat)
  /-- TRG_STOP (R148). Stops a generator at the end of its frame unit or at once. -/
  | trgStop (w slot : Nat)
  /-- TRG_SET_PITCH (R147). Stages new pitch, remainder and period values and arms them. -/
  | trgSetPitch (w slot : Nat)
  /-- TRG_SET_OUTPUT (R152). Configures a trigger output's generator, polarity, delay and width. -/
  | trgSetOutput (w slot : Nat)
  /-- TRG_QUERY (R152). Returns a generator's frame, line, run state, next grid point, trigger count and last applied frame. -/
  | trgQuery (w slot : Nat)
  /-- SLICE_LINE_READ (R155). A correction slice reads a completed line from the burst store and corrects it through its stages. -/
  | sliceLineRead (die slice : Nat) (bad : List (Nat × Nat))
  /-- LINE_RELEASE (R168). A corrected line that has its lookahead and passes the end-of-line checks is released to splice and the consumer stage. -/
  | lineRelease (ch : Nat) (check : LineCheck)
  /-- TAKEOVER_DONE (R172). The spare has replayed logs and rebuilt the raw ring, and it releases the unreleased lines with SPARED. -/
  | takeoverDone (die slice : Nat) (tenNs : Nat) (ringBad : List (Nat × Nat))
  /-- STAGED_SET_APPLY (R166). A channel's staged correction and colour changes apply at its first frame-unit start after COR_APPLY. -/
  | stagedSetApply (ch : Nat)
  /-- COR_SET_CHANNEL (R166). Stages a channel's correction context. -/
  | corSetChannel (w slot : Nat)
  /-- COR_LOAD_TABLE (R166). Loads and checks a column-offset, gain or defect table into the staging pool. -/
  | corLoadTable (w slot : Nat) (data : List (BitVec 8))
  /-- COR_APPLY (R166). Schedules a channel's staged set and returns the frame at which it applies. -/
  | corApply (w slot : Nat)
  /-- COR_DISCARD (R176). Discards a channel's staged changes. -/
  | corDiscard (w slot : Nat)
  /-- COR_QUERY (R176). Returns a channel's slice, context and tracker state. -/
  | corQuery (w slot : Nat)
  /-- COR_SLICE_SWAP (R176). Runs a slice takeover by command as if SLICE_CHECK had reached SPARE. -/
  | corSliceSwap (w slot : Nat)
  /-- DMS_SET_CHANNEL (R193). Stages a channel's colour mode, tie band, segment colours and offsets and returns D. -/
  | dmsSetChannel (w slot : Nat)
  /-- DMS_SET_TAPS (R193). Stages a channel's raw taps, subject to slice-load and budget checks. -/
  | dmsSetTaps (w slot : Nat)
  /-- DMS_QUERY (R195). Returns a channel's colour settings and alignment clamps. -/
  | dmsQuery (w slot : Nat)
  /-- STA_RECORD_DRAIN (R201). The collector drains one statistics record through its port to the consumer stage. -/
  | staRecordDrain (die : Nat) (bad : List (Nat × Nat))
  /-- STA_CONFIG_APPLY (R209). A staged statistics configuration applies at the channel's first frame-unit start after its commit. -/
  | staConfigApply (ch : Nat)
  /-- QMAX_CLEAR (R204). A write of 1 to STA_QMAX.CLR clears the recorded deepest queue occupancy. -/
  | qmaxClear (a : WAcc)
  /-- STA_SET_CHANNEL (R209). Stages a channel's statistics configuration and returns the frame at which it applies. -/
  | staSetChannel (w slot : Nat)
  /-- STA_QUERY (R211). Returns a channel's statistics configuration and counts. -/
  | staQuery (w slot : Nat)
  /-- STA_QUERY_DIE (R211). Returns a die's round time, deepest queue and statistics counters. -/
  | staQueryDie (w slot : Nat)
  /-- HANDOFF_PACKET_RX (R218). A hand-off packet arrives at a die, is checked by CRC, and delivers a span, burst or composed piece. -/
  | handoffPacketRx (die : Nat) (p : HandoffRx)
  /-- SPL_LINE_DEADLINE (R219). At a spliced line's deadline every die completes its parts with bubbles filled and sends them. -/
  | splLineDeadline (grp : Nat)
  /-- SPL_CLOSE_TIMEOUT (R219). At the deadline plus 10.0 µs the home die closes the line, filling missing parts. -/
  | splCloseTimeout (grp : Nat)
  /-- COMPOSE_WAIT_EXPIRY (R224). SPL_GRP_WAIT after the frame boundary closes a composed frame with the absent pattern and LAYER_ABSENT. -/
  | composeWaitExpiry (grp : Nat)
  /-- SPL_GROUP_APPLY (R227). A group's staged set applies at the group's first frame-unit start after SPL_APPLY. -/
  | splGroupApply (grp : Nat)
  /-- SPL_DEADLINE_WRITE (R219). A write of SPL_GRP_DEADLINE below DEADMIN stores DEADMIN and sets DEADLINE_RAISED. -/
  | splDeadlineWrite (a : WAcc)
  /-- SPL_SET_GROUP (R227). Stages a splice group's kind, generator, size, deadline, wait and fill values. -/
  | splSetGroup (w slot : Nat)
  /-- SPL_SET_MEMBER (R227). Stages a member's placement, seam and ownership and returns its DS. -/
  | splSetMember (w slot : Nat)
  /-- SPL_APPLY (R226). Checks a group's resources and schedules its staged set. -/
  | splApply (w slot : Nat)
  /-- SPL_DISCARD (R229). Discards a group's staged set. -/
  | splDiscard (w slot : Nat)
  /-- SPL_REMOVE (R227). Ends a group after its open frame unit closes and releases its reserves. -/
  | splRemove (w slot : Nat)
  /-- SPL_QUERY (R229). Returns a group's state and counts. -/
  | splQuery (w slot : Nat)
  /-- SCHEDULER_GRANT (R246). A delivery scheduler grants one burst of a record to the next eligible context by priority and round robin. -/
  | schedulerGrant (path : PathKind) (die unit : Nat)
  /-- RECORD_EXPIRE (R243). A record reaching its member's hold limit becomes EXPIRED and is released or never sent. -/
  | recordExpire (cons seq : Nat)
  /-- CSM_ACK_WRITE (R242). An acknowledgement word moves records of the member up to SEQ into ACKED, or is ignored as duplicate or ahead. -/
  | csmAckWrite (a : WAcc)
  /-- CONTEXT_FREE (R245). An unbound context is freed once its last record is released. -/
  | contextFree (cons : Nat)
  /-- BINDING_EFFECT (R252). A binding takes effect at the source's first frame-unit start after its commit point. -/
  | bindingEffect (cons : Nat)
  /-- CSM_BIND (R252). Binds a consumer context to a source, bight, format and path after the admission checks. -/
  | csmBind (w slot : Nat)
  /-- CSM_UNBIND (R245). Stops a context at the end of its source's frame unit, draining or dropping its records. -/
  | csmUnbind (w slot : Nat)
  /-- CSM_SET_PRIORITY (R247). Changes a context's delivery priority from the next arbitration. -/
  | csmSetPriority (w slot : Nat)
  /-- CSM_SET_HOLD (R252). Changes a context's hold limit, growing its ring if needed. -/
  | csmSetHold (w slot : Nat)
  /-- CSM_QUERY (R252). Returns a context's state, priority, sequences and counts. -/
  | csmQuery (w slot : Nat)
  /-- HLD_QUERY (R252). Returns a die's holding-store capacity, allocation, reserved rates and open records. -/
  | hldQuery (w slot : Nat)
  /-- DMA_DOORBELL (R260). A write of DMA_DB[r] posts a new producer index, or sets DB_BAD if it is out of range. -/
  | dmaDoorbell (a : WAcc)
  /-- DESCRIPTOR_FETCH (R261). A descriptor read completes; descriptors with OWN set are taken and one with OWN clear stops the read. -/
  | descriptorFetch (die ring : Nat) (ds : List Desc)
  /-- OWN_CLEAR_REFETCH (R261). A descriptor that read with OWN clear is read again after a doubling interval. -/
  | ownClearRefetch (die ring : Nat) (ds : List Desc)
  /-- FLUSH_READ_ISSUE (R264). After FLUSH_N write-backs or FLUSH_T the engine issues a flush read. -/
  | flushReadIssue (die ring : Nat)
  /-- FLUSH_READ_COMPLETE (R264). A completed flush read completes every record whose writes preceded it, in sequence order. -/
  | flushReadComplete (die ring : Nat)
  /-- BUS_ERROR (R267). A descriptor or flush read fails on PCIe and is retried or halts the ring. -/
  | busError (die ring : Nat) (e : BusErr)
  /-- RING_INTERRUPT (R266). After IRQ_N completions or IRQ_T the ring's MSI-X vector is sent. -/
  | ringInterrupt (die ring : Nat)
  /-- DMA_RING_CTL_RESTART (R269). A write of DMA_RING_CTL.RESTART restarts a halted ring. -/
  | dmaRingCtlRestart (a : WAcc)
  /-- DMA_RING_CTL_HALT (R269). A write of DMA_RING_CTL.HALT halts a running ring with KIND 0. -/
  | dmaRingCtlHalt (a : WAcc)
  /-- TRACKER_ENTRY_GRANT (R270). A request that waited for a tracker entry receives one and proceeds. -/
  | trackerEntryGrant (die : Nat)
  /-- PCIE_LINK_DOWN (R255). The PCIe data link layer goes down and every ring of the port halts. -/
  | pcieLinkDown (die : Nat)
  /-- BUS_MASTER_DISABLE (R255). Bus Master Enable is cleared and every ring of the port halts. -/
  | busMasterDisable (die : Nat)
  /-- FUNCTION_LEVEL_RESET (R255). A function level reset clears BME, halts the rings and resets the configuration header and MSI-X table. -/
  | functionLevelReset (die : Nat)
  /-- PCIE_LINK_DEGRADED (R256). A link below full rate or payload raises PCI_DEGRADED. -/
  | pcieLinkDegraded (die speed width : Nat)
  /-- DMA_RING_SETUP (R273). Configures a descriptor ring. -/
  | dmaRingSetup (w slot : Nat)
  /-- DMA_RING_FREE (R273). Frees an unbound ring. -/
  | dmaRingFree (w slot : Nat)
  /-- DMA_RING_RESTART (R269). Restarts a halted ring by command. -/
  | dmaRingRestart (w slot : Nat)
  /-- DMA_RING_QUERY (R273). Returns a ring's state, indices and halt information. -/
  | dmaRingQuery (w slot : Nat)
  /-- PCI_QUERY (R273). Returns a port's link, configuration and counters. -/
  | pciQuery (w slot : Nat)
  /-- PCI_SET_PORT (R273). Enables or disables a die's PCIe port with its speed and width limits. -/
  | pciSetPort (w slot : Nat)
  /-- ETH_STATUS_RX (R280). A STATUS message is checked and its NAK, RCVD and ACK fields are applied in order. -/
  | ethStatusRx (die mac flow : Nat) (m : UdpRx)
  /-- ETH_RECEIPT_TIMEOUT (R281). An attempt with no RCVD within RTO fails, and eight consecutive failures stall the flow. -/
  | ethReceiptTimeout (die mac flow : Nat)
  /-- STALLED_RESEND (R281). A stalled flow resends its oldest READY record once every 10 × RTO. -/
  | stalledResend (die mac flow : Nat)
  /-- ETH_LINK_DOWN (R276). A MAC's link goes down, its flows' attempts fail and ETH_LINK_DOWN is raised. -/
  | ethLinkDown (die mac : Nat)
  /-- ETH_LINK_UP (R276). A MAC's link comes up again and its flows resume. -/
  | ethLinkUp (die mac : Nat)
  /-- ARP_REQUEST_RX (R274). An ARP request or IPv6 solicitation for the MAC's own address is answered in hardware. -/
  | arpRequestRx (die mac : Nat) (v6 : Bool) (target : Nat)
  /-- LAUNCH_DUE (R291). A launch-queue frame reaches its launch time and is sent, or is handled as past. -/
  | launchDue (die mac queue : Nat)
  /-- PTP_MESSAGE_RX (R287). A received PTP message is timestamped and used by the servo, which declares or loses LOCKED. -/
  | ptpMessageRx (m : PtpRx)
  /-- PTP_MESSAGE_TX (R289). A PTP message is sent with its transmit timestamp inserted one-step or reported two-step. -/
  | ptpMessageTx (m : PtpTx)
  /-- SECONDS_ROLLOVER (R284). The time counter's nanoseconds reach 10⁹ and the seconds advance. -/
  | secondsRollover
  /-- CALENDAR_SET_APPLY (R294). A calendar set applies at the next rollover as a step of the counter. -/
  | calendarSetApply
  /-- TIME_CHANGE_APPLY (R285). An INC write, step or calendar set applies on every die 12.0 ns after it entered the writer's TIME domain. -/
  | timeChangeApply
  /-- TIME_INC_WRITE (R284). A write of TIME_INC_HI sends a new INC to every die, or sets INC_REJECTED. -/
  | timeIncWrite (a : WAcc)
  /-- TIME_STEP_GO (R286). A write of TIME_STEP_CTRL.GO requests a step of the time counter. -/
  | timeStepGo (a : WAcc)
  /-- CAL_GO (R294). A write of CAL_CTRL.GO requests a calendar set, or sets CAL_REJECTED for an impossible date. -/
  | calGo (a : WAcc)
  /-- PPS_IN_EDGE (R290). A PPS input edge is timestamped into PTP_PPSIN and sets PPS_IN. -/
  | ppsInEdge (die : Nat)
  /-- ETH_SET_PORT (R275). Configures and enables or disables a MAC and trains its lanes. -/
  | ethSetPort (w slot : Nat)
  /-- ETH_SET_FLOW (R297). Configures a flow's destination and receipt timeout. -/
  | ethSetFlow (w slot : Nat)
  /-- ETH_FLOW_FREE (R297). Frees an unbound flow. -/
  | ethFlowFree (w slot : Nat)
  /-- ETH_QUERY (R297). Returns a MAC's configuration, link, corrections and counters. -/
  | ethQuery (w slot : Nat)
  /-- ETH_SEND (R291). Places a host frame in a launch queue with its launch time. -/
  | ethSend (w slot : Nat) (frame : List (BitVec 8))
  /-- PTP_SET (R287). Configures the package's PTP clock and time source. -/
  | ptpSet (w slot : Nat)
  /-- PTP_QUERY (R297). Returns PTP state, offset, UTC settings, time and calendar. -/
  | ptpQuery (w slot : Nat)
  /-- TIME_STEP (R286). Steps the time counter by command while free-running. -/
  | timeStep (w slot : Nat)
  /-- TIME_SET_INC (R284). Sets the time counter's increment by command. -/
  | timeSetInc (w slot : Nat)
  /-- CAL_SET (R294). Sets the UTC calendar and completes at the rollover at which it applies. -/
  | calSet (w slot : Nat)
  /-- PTP_SET_UTC (R295). Sets UTC_OFFSET and the leap flags. -/
  | ptpSetUtc (w slot : Nat)
  /-- STRIPE_SEAL_TIMEOUT (R301). STRIPE_T without further data seals a stripe padded with zeros. -/
  | stripeSealTimeout (vol : Nat)
  /-- COIL_RESPONSE_RX (R305). A WRITE_RSP or PROBE_RSP updates shard state, record completion and acknowledgement, or fails the target. -/
  | coilResponseRx (vol : Nat) (r : CoilRx)
  /-- SHARD_TIMEOUT (R306). A shard write with no answer within CTO is retried, or fails its target when retries are exhausted. -/
  | shardTimeout (vol stripe shard : Nat)
  /-- DURABLE_TIMEOUT (R306). DURABLE missing at DTO declares the target failed. -/
  | durableTimeout (vol stripe shard : Nat)
  /-- TARGET_PROBE (R306). Every slot target and spare is probed once per 1.0 ms; three unanswered probes fail the target. -/
  | targetProbe (vol tgt : Nat)
  /-- REBUILD_STRIPE (R309). The background rebuild decodes one stripe from surviving shards and writes the slot's shard to the new target. -/
  | rebuildStripe (vol : Nat)
  /-- REPLACE_COPY_STRIPE (R311). A replacement copies one stripe's shard from the old target to the new one, and frees the old target at the end. -/
  | replaceCopyStripe (vol : Nat)
  /-- COIL_TARGET_SET (R313). Defines a Coil target's address and port. -/
  | coilTargetSet (w slot : Nat)
  /-- COIL_TARGET_FREE (R313). Frees an unused target definition. -/
  | coilTargetFree (w slot : Nat)
  /-- COIL_VOL_SETUP (R298). Configures a volume's code, shard size, range, timeouts, targets and ports after probing its targets. -/
  | coilVolSetup (w slot : Nat) (probes : List ProbeAns)
  /-- COIL_VOL_FREE (R313). Frees an unbound volume. -/
  | coilVolFree (w slot : Nat)
  /-- COIL_ADD_SPARE (R310). Adds a spare target, filling the oldest absent slot and starting its rebuild. -/
  | coilAddSpare (w slot : Nat) (probe : Option Nat)
  /-- COIL_REPLACE (R311). Retires a healthy slot target onto a spare and starts the copy. -/
  | coilReplace (w slot : Nat)
  /-- COIL_QUERY (R313). Returns a volume's state, pointers, rebuild state and lost stripes. -/
  | coilQuery (w slot : Nat)
  /-- COIL_TARGET_QUERY (R313). Returns a target's state, volume, slot, missed probes and capacity. -/
  | coilTargetQuery (w slot : Nat)
  /-- FAULT_EVENT (R316). A fault source's event sets PEND and takes the reaction of its severity within 1.0 µs. -/
  | faultEvent (die src inst info : Nat)
  /-- HBM_SWEEP_DONE (R325). The conversion sweep, or the reverse sweep after a channel reset, reaches the end of the stack. -/
  | hbmSweepDone (die : Nat)
  /-- SRAM_SCRUB (R327). Every SRAM word is scrubbed at least once every 10 ms. -/
  | sramScrub (die mno row bit : Nat) (uncorr : Bool)
  /-- FAULT_ESCALATION (R319). An ATTEND event still pending at its deadline is handled at SPARE. -/
  | faultEscalation (die src inst : Nat)
  /-- FAULT_IRQ_HOLDOFF_END (R321). At the end of a 1.0 µs hold-off interval one fault interrupt reports every held call. -/
  | faultIrqHoldoffEnd
  /-- FLT_SEV_WRITE (R320). A write of FLT_SRC_SEV or FLT_SRC_ESC sets the field for the next event or sets VALUE_REFUSED. -/
  | fltSevWrite (a : WAcc)
  /-- FLT_SRC_INJ_GO (R332). A write of FLT_SRC_INJ.GO feeds the selected checker inverted check bits, or sets INJ_REFUSED. -/
  | fltSrcInjGo (a : WAcc)
  /-- FLT_TMR_INJ_GO (R333). A write of FLT_TMR_INJ_CTRL.GO inverts one bit of one copy of a TMR register. -/
  | fltTmrInjGo (a : WAcc)
  /-- HEARTBEAT_MISS (R315). A die's fault block missing three watchdog heartbeats raises HEARTBEAT. -/
  | heartbeatMiss (die : Nat)
  /-- TEMP_THRESHOLD (R315). A junction or stack sensor crossing its threshold raises TEMP_HIGH, TEMP_CRIT or HBM_TEMP. -/
  | tempThreshold (die : Nat) (stack : Bool) (temp : Int)
  /-- SUPPLY_EXCURSION (R363). A die rail leaving its window raises SUPPLY, and VDD_AON or VDD_IO acts as PORn. -/
  | supplyExcursion (die : Nat) (r : RailLevel)
  /-- REFERENCE_LOSS (R334). Loss of the 25 MHz system reference stops ALIVE. -/
  | referenceLoss
  /-- FLT_QUERY (R336). Returns a fault source instance's state. -/
  | fltQuery (w slot : Nat)
  /-- FLT_SET_SEVERITY (R336). Sets the severity and escalation time of sources on one die or every die. -/
  | fltSetSeverity (w slot : Nat)
  /-- FLT_ACK (R336). Clears a source's PEND under the sequence rule. -/
  | fltAck (w slot : Nat)
  /-- FLT_LIST (R336). Returns a die's pending list. -/
  | fltList (w slot : Nat)
  /-- FLT_INJECT (R332). Injects a check-value error into a source by command. -/
  | fltInject (w slot : Nat)
  /-- FLT_UNIT_RESET (R330). Resets and tests an isolated, failed or retired unit and returns it to service or standby. -/
  | fltUnitReset (w slot : Nat) (pass : Bool)
  /-- FLT_DIE_RESET (R331). Resets one die, which retrains, verifies firmware, realigns time and takes back the admission plan. -/
  | fltDieReset (w slot : Nat)
  /-- CAN_FRAME_RX (R349). A valid received frame is acknowledged and stored in an object or queue by the filters, or discarded. -/
  | canFrameRx (ch : Nat) (f : CanFrame)
  /-- CAN_DETECT_DWELL_EXPIRY (R341). A candidate that is not accepted within DWELL fails, and after four rounds detection fails. -/
  | canDetectDwellExpiry (ch : Nat)
  /-- CAN_ARBITRATION_START (R343). At the start of arbitration the controller picks one pending transmit buffer. -/
  | canArbitrationStart (ch : Nat)
  /-- CAN_TX_ATTEMPT_END (R344). A transmit attempt ends sent, retried, failed or aborted, updating the error counters. -/
  | canTxAttemptEnd (ch : Nat) (r : CanTxEnd)
  /-- CAN_RECOVERY_DONE (R348). After 128 occurrences of 11 recessive bits, bus-off recovery ends with TEC and REC at 0. -/
  | canRecoveryDone (ch : Nat)
  /-- CAN_SLEEP_ENTRY (R354). A requested sleep takes effect at the next bus idle. -/
  | canSleepEntry (ch : Nat) (wake : Bool)
  /-- CAN_WAKE_EVENT (R355). A dominant phase or matching wake frame wakes a sleeping controller into bus integration. -/
  | canWakeEvent (ch : Nat) (k : CanWake)
  /-- CAN_INTEGRATION_DONE (R355). After 11 consecutive recessive bits the controller takes part in the bus. -/
  | canIntegrationDone (ch : Nat)
  /-- TXB_REQUEST (R343). A write of 1 to TXB_CTL.REQ makes a transmit buffer pending and wakes a sleeping controller. -/
  | txbRequest (a : WAcc)
  /-- TXB_ABORT (R345). A write of TXB_CTL.ABORT ends a pending buffer at once or after its current attempt. -/
  | txbAbort (a : WAcc)
  /-- CAN_OPCTL_SLEEP (R354). A write of CAN_OPCTL.SLEEP requests sleep, or sets SLEEP_REFUSED while a buffer is pending. -/
  | canOpctlSleep (a : WAcc)
  /-- CAN_OPCTL_WAKE (R355). A write of CAN_OPCTL.WAKE wakes the controller. -/
  | canOpctlWake (a : WAcc)
  /-- CAN_OPCTL_RECOVER (R348). A write of CAN_OPCTL.RECOVER starts bus-off recovery. -/
  | canOpctlRecover (a : WAcc)
  /-- CAN_OPCTL_DETECT (R341). A write of CAN_OPCTL.DETECT starts rate detection with the loaded candidates. -/
  | canOpctlDetect (a : WAcc)
  /-- Q_GET_WRITE (R352). A write of Q_GET acknowledges queue entries, or sets Q_BAD if it passes the put index. -/
  | qGetWrite (a : WAcc)
  /-- OBJ_CFG_WRITE (R350). A write of OBJ_CFG configures a receive object and clears NEW and LOST. -/
  | objCfgWrite (a : WAcc)
  /-- CAN_TIMING_WRITE (R339). A write of CAN_NBT or CAN_DBT outside the timing ranges is refused with TIMING_BAD. -/
  | canTimingWrite (a : WAcc)
  /-- CAN_SET_PORT (R358). Configures and enables or disables a CAN controller. -/
  | canSetPort (w slot : Nat)
  /-- CAN_SET_FILTER (R358). Configures a receive object or filter pair. -/
  | canSetFilter (w slot : Nat)
  /-- CAN_SEND (R343). Loads a transmit buffer and requests it. -/
  | canSend (w slot : Nat)
  /-- CAN_RECV (R358). Returns a stored object or the oldest queue entries, clearing or acknowledging them. -/
  | canRecv (w slot : Nat)
  /-- CAN_QUERY (R358). Returns a controller's status, detection state, buffer states and counters. -/
  | canQuery (w slot : Nat)
  /-- CAN_DETECT (R341). Loads rate candidates and runs detection, returning the accepted index. -/
  | canDetect (w slot : Nat)
  /-- CAN_SET_WAKE (R355). Configures the controller's wake conditions. -/
  | canSetWake (w slot : Nat)
  /-- CAN_SLEEP (R354). Puts a controller to sleep or wakes it by command. -/
  | canSleep (w slot : Nat)
  /-- CAN_RECOVER (R348). Starts bus-off recovery by command. -/
  | canRecover (w slot : Nat)
  /-- MFP_CFG_WRITE (R366). A write of MFP_CFG assigns a pin function, or is refused with CONFLICT or FUNC_BAD. -/
  | mfpCfgWrite (a : WAcc)
  /-- MFP_FUNCTION_SWITCH (R367). A pin function change takes effect at the first MFP clock edge after the write reaches TIME. -/
  | mfpFunctionSwitch (die pin : Nat) (level : Bool)
  /-- MFP_SET (R367). Sets a pin's function, index, drive and pull by command. -/
  | mfpSet (w slot : Nat)
  /-- MFP_QUERY (R384). Returns a die's pin configuration and levels. -/
  | mfpQuery (w slot : Nat)
  /-- BOOT_SET_PLAN (R373). Writes a new lane plan into the older boot record copy for the next reset. -/
  | bootSetPlan (w slot : Nat)
  /-- BOOT_QUERY (R384). Returns both boot record copies, the flash mode and the plan in force. -/
  | bootQuery (w slot : Nat)
  /-- COLD_RESET (R370). PORn held low resets the whole package. -/
  | coldReset
  /-- WARM_RESET (R370). RSTn, DEV_WARM_RESET or JTAG_CE resets the package, keeping OTP, flash and SRAM remaps. -/
  | warmReset (cause : WarmCause)
  /-- PORT_RESET (R370). Dd_PERSTn low resets one PCIe port and halts its rings. -/
  | portReset (die : Nat) (low : Bool)
  /-- RESET_RELEASE (R374). On release of reset, the dies lock, train and take the lane plan, and die 0 verifies and distributes the firmware image. -/
  | resetRelease (flashModes flashRate : Nat) (failed : List Nat)
  /-- BOOT_READY (R377). Firmware has started and built the Knot Book, and READY is set on every healthy die. -/
  | bootReady
  /-- LANES_READY_TIMEOUT (R376). LANES_READY is set when every planned lane is ACTIVE or 40 ms after release. -/
  | lanesReadyTimeout (die : Nat)
  /-- TEST_LOGIC_RESET (R379). The TAPs enter Test-Logic-Reset and select IDCODE. -/
  | testLogicReset
  /-- JTAG_BYPASS (R379). The BYPASS instruction, also taken by undecoded codes. -/
  | jtagBypass (tap : Tap) (ir : Nat)
  /-- JTAG_IDCODE (R378). The IDCODE instruction selects the TAP's identification register. -/
  | jtagIdcode (tap : Tap)
  /-- JTAG_SAMPLE_PRELOAD (R379). The SAMPLE/PRELOAD instruction. -/
  | jtagSamplePreload (tap : Tap)
  /-- JTAG_EXTEST (R379). The EXTEST instruction, decoded only while JTAG_CE is high. -/
  | jtagExtest (tap : Tap)
  /-- JTAG_CLAMP (R379). The CLAMP instruction, decoded only while JTAG_CE is high. -/
  | jtagClamp (tap : Tap)
  /-- JTAG_HIGHZ (R379). The HIGHZ instruction, decoded only while JTAG_CE is high. -/
  | jtagHighz (tap : Tap)
  /-- JTAG_EXTEST_PULSE (R379). The IEEE 1149.6 EXTEST_PULSE instruction of a die TAP. -/
  | jtagExtestPulse (tap : Tap)
  /-- JTAG_EXTEST_TRAIN (R379). The IEEE 1149.6 EXTEST_TRAIN instruction of a die TAP. -/
  | jtagExtestTrain (tap : Tap)
  /-- PCIE_LINK_UP (R376). A PCIe port's link training completes, the data link layer comes up and the port answers configuration requests. -/
  | pcieLinkUp (die speed width : Nat) (flit : Bool)
  /-- PCI_CONFIG_WRITE (R253). A host configuration write sets Bus Master Enable, max payload size, Device Control options or the MSI-X function mask of a port. -/
  | pciConfigWrite (die : Nat) (c : PciCfgWrite)
  /-- CAN_RX_ERROR (R346). An error detected while the controller is receiving raises REC under ISO 11898-1 and can make the controller error-passive. -/
  | canRxError (ch : Nat) (e : CanRxErr)
  /-- PRBS_CHECKER_RELOCK (R94). A lane's pattern checker locks after 64 error-free bits, or a received word with more than 40 bit errors makes it relock and sets PRBS_LOSS. -/
  | prbsCheckerRelock (die lane : Nat) (loss : Bool)
  /-- ETH_FRAME_RX_DISCARD (R274). A received PAUSE, PFC, ICMP, fragment or other frame that the MAC does not handle is discarded and counted. -/
  | ethFrameRxDiscard (die mac : Nat)
  /-- PTP_ANNOUNCE_TIMEOUT (R287). The PTP announce receipt timeout runs out, is counted in PTP_CNT[6] and drives the port state and lock. -/
  | ptpAnnounceTimeout
  /-- COMPOSE_STOP_WAIT_EXPIRY (R224). SPL_GRP_WAIT after a stopped generator's last trigger closes the open composed frame with the absent pattern. -/
  | composeStopWaitExpiry (grp : Nat)
  /-- COIL_READ_DATA_RX (R307). A READ_DATA response from a target delivers shard data used to reconstruct a shard for re-issue. -/
  | coilReadDataRx (vol : Nat) (r : CoilRx)
  deriving DecidableEq, Repr

end Sys2Proof
end

