-- ==== Sys2Proof/Decode.lean ====
section
/-!
DEFINITION. Commands spelled by words of bits. The table of operations gives no row any bits: a command is an access, a message or an event
with the operands that Syntax.lean lists, and no word of bits spells one.
-/
namespace Sys2Proof

/-- The command that a word of bits spells: none, since the table gives no row bits. -/
def decodeTableWord (_nbits _w : Nat) : Option Instr := none

end Sys2Proof
end

