-- ==== Sys2Proof/Machine/State.lean ====
section
/-!
DEFINITION. The state of the part as plain data, the reasons a command stops, and the state after reset.
Registers are held by address (`regs`): an unlisted address reads its reset value. The register banks behind selector windows
(contexts, rings, flows, volumes, targets, fault sources) and the indirect words lie at addresses of their own above BAR0
(Machine/Ops.lean gives them). What the spec gives the part beside registers stands in the tables below.
-/
namespace Sys2Proof.Machine
open Sys2Proof

/-- The three parts of the family (R1). -/
inductive Part where
  | msd2 | msd4 | msd8
  deriving DecidableEq, Repr

/-- A UDP datagram on the wire (R274, R277, R302): IP version, VLAN tag control, addresses, ports, checksum and payload. IPv4 has no options
and DF set, IPv6 no extension headers. -/
structure Datagram where
  v6      : Bool
  vlan    : Option Nat
  smac    : Nat
  dmac    : Nat
  sip     : Nat
  dip     : Nat
  sport   : Nat
  dport   : Nat
  sum     : Nat
  payload : List Byte
  deriving DecidableEq, Repr

/-- What the part puts on its ports, balls and links, oldest first. -/
inductive Out where
  | readDone (addr : Nat) (v : Word)
  | msix (port vector addr data : Nat)
  | codeword (die lane pos : Nat) (syms : List Nat)
  | comma (die lane : Nat) (syms : List Int)
  | commaEvery (die lane words : Nat)
  | prbsInvert (die lane : Nat)
  | sent (die lane unit : Nat)
  | hitch (ch : Nat) (syms : List Int) (inst : Nat)
  | output (die out : Nat) (level : Bool)
  | hostWrite (die addr : Nat) (data : List Byte) (ro ns : Bool)
  | hostRead (die addr len tag : Nat)
  | datagram (die mac : Nat) (u : Datagram)
  | frame (die mac tag : Nat) (data : List Byte)
  | arpReply (die mac target : Nat)
  | ptp (die mac sec ns corr : Nat)
  | ppsPulse (die widthUs : Nat)
  | canFrame (ch buf : Nat) (f : CanFrame)
  | canAck (ch : Nat)
  | canErrorFlag (ch : Nat) (active : Bool)
  | alive (on : Bool)
  | idcode (pos : Nat) (id : Word)
  deriving DecidableEq, Repr

/-- The state of a mailbox slot (R67). -/
inductive SlotSt where
  | free | posted | running | done
  deriving DecidableEq, Repr

/-- A mailbox slot: state and what the doorbell latched (R68), its place in the order of doorbells (R71), and whether its command has
committed and waits for an event of the part. -/
structure Slot where
  st    : SlotSt := .free
  tag   : Nat := 0
  level : Nat := 0
  base  : Nat := 0
  count : Nat := 0
  port  : Nat := 0
  order : Nat := 0
  held  : Bool := false
  deriving DecidableEq, Repr

/-- A journal entry (R75); `opened` while the command has committed and what it returns is not known yet (log entry 85). -/
structure JEntry where
  opcode : Nat
  tag    : Nat
  status : Nat
  detail : Nat
  result : List Byte
  opened : Bool := false
  deriving DecidableEq, Repr

/-- A management cluster (R59 to R61): whether it runs, restarts or is declared failed, and the times of its fault reactions. -/
inductive ClSt where
  | stopped | running | restarting | failed
  deriving DecidableEq, Repr

/-- A cluster's state, the TIME cycles of its recent fault reactions, the image it last verified (FIRMWARE entry), and the copy of that
image in its private SRAM (R59). -/
structure Cluster where
  st     : ClSt := .stopped
  faults : List Nat := []
  major  : Nat := 0
  minor  : Nat := 0
  patch  : Nat := 0
  build  : Nat := 0
  slot   : Nat := 3
  key    : Nat := 0
  copy   : List Byte := []
  deriving DecidableEq, Repr

/-- An entry of an indirect access queue (R48): a posted write with its writer's level, or a read that waits with the mask of the bytes it
addresses (R24); and the die of the port that carried it. -/
inductive IndOp where
  | write (iaddr : Nat) (v : Word) (level port : Nat)
  | read (iaddr : Nat) (m : Word) (port : Nat)
  deriving DecidableEq, Repr

/-- A commit of the protection table on its way to the checkers (R57). -/
structure Commit where
  table : Tbl Word
  deriving DecidableEq, Repr

/-- Beside its registers, a physical lane (R86 to R98): requests held with their arrival in TIME cycles, requests kept by the user, a
low-power target that waits for the end of an exit, a calibration still owed by the exit, a self-check in progress, a failed transmitter,
isolation, a locked pattern checker, and a background step that waits for a gap. -/
structure Lane where
  hold     : List (Nat × Nat) := []
  user     : List (Nat × Nat) := []
  lpNext   : Nat := 0
  calOwed  : Bool := false
  selfChk  : Bool := false
  txBad    : Bool := false
  isolated : Bool := false
  prbsLock : Bool := false
  calHeld  : Nat := 0
  wasOn    : Bool := false
  deriving DecidableEq, Repr

/-- A swap of a lane onto its group's spare in progress (R98). -/
structure Swap where
  logical : Nat
  phys    : Nat
  txDone  : Bool := false
  rxDone  : Bool := false
  txBad   : Bool := false
  deriving DecidableEq, Repr

/-- A flit (R104): TYPE, VCX2, FPO, LEN and the 157 bytes of its body. -/
structure Flit where
  type : Nat
  vcx2 : Bool := false
  fpo  : Nat := 0xFF
  len  : Nat := 0
  body : List Byte := []
  deriving DecidableEq, Repr

/-- Stream bytes of a DATA flit that have not been taken yet, with its VCX2 and where in them the first packet header begins (R104). -/
structure Seg where
  vcx2  : Bool
  fpo   : Option Nat
  bytes : List Byte
  deriving DecidableEq, Repr

/-- The sequence state of a Strand lane (R106, R110): whether HELLO has completed, whether LINK_DOWN stands declared, the last CSEQ accepted,
the ACK_SEQ of an outstanding NAK, codewords accepted and not yet acknowledged, the CSEQ at which a failover began (R125), what the head
declared in HELLO with the tunnel credits that no channel holds yet; LINK flits received (R109), accepted codewords whose stream bytes have not
been dealt (R126); the last CSEQ sent, the sequenced codewords sent and not acknowledged (R106), the hitches inserted, modulo 8 (R102), and
the instant of the last one. -/
structure Link where
  up      : Bool := false
  dead    : Bool := false
  last    : Nat := 0xFFFF
  nak     : Option Nat := none
  unacked : Nat := 0
  foFrom  : Option Nat := none
  hbuf    : Nat := 0
  hid     : Nat := 0
  cred    : Nat := 0
  inbox   : List (List Byte) := []
  data    : List (List Seg) := []
  txSeq   : Nat := 0xFFFF
  sent    : List (Nat × Flit) := []
  hitches : Nat := 0
  lastHitch : Option Nat := none
  deriving DecidableEq, Repr

/-- A tag entry (R149): frame and line number, coordinate in 2^-16 wc, instant in 2^-22 ns units of the time counter, COORD_COARSE,
the frame unit of the camera link it belongs to, its place among the triggers sent in it, the channel's run (R164), the deadline that holds for
it in 100 ns units (R123), for an area frame the rows received, its place among all triggers of the channel, and the reversals that its source had
counted when it was crossed (R137). -/
structure Tag where
  frame  : Nat := 0
  line   : Nat := 0
  coord  : Int := 0
  time   : Nat := 0
  coarse : Bool := false
  fid    : Nat := 0
  ord    : Nat := 0
  run    : Nat := 0
  dead   : Nat := 0
  rows   : Nat := 0
  seq    : Nat := 0
  rev    : Nat := 0
  deriving DecidableEq, Repr

/-- A frame unit of a camera link whose H1 has been sent (R121): its number, its frame, and the triggers sent in it. -/
structure FUnit where
  fid   : Nat
  frame : Nat
  sent  : Nat
  deriving DecidableEq, Repr

/-- A stream of a channel (R121, R129). -/
structure Stream where
  vc     : Nat := 0
  dt     : Nat := 0
  width  : Nat := 0
  height : Nat := 0
  deriving DecidableEq, Repr

/-- A raw line in the burst store: its channel, its tag, its row in the frame unit, pixels, received bytes, flags (R6), and
whether it is the last line of its frame unit. -/
structure RawLine where
  ch    : Nat
  tag   : Tag
  row   : Nat
  px    : List Nat
  bytes : List Byte
  flags : Nat
  lastFu : Bool
  deriving DecidableEq, Repr

/-- The life of a package channel: idle, admitted and waiting for its first frame unit, running, being removed, isolated. -/
inductive ChSt where
  | idle | joining | running | removing | isolated
  deriving DecidableEq, Repr

/-- A tunnel request (R115): its TAG, OP, LEN, ADDR and data, whether it has had a credit and been sent, the mailbox slot that waits with
the TAG of its command, and whether the command has been aborted (R74). -/
structure TunReq where
  tag  : Nat
  op   : Nat
  len  : Nat
  addr : Nat
  data : List Byte
  sent : Bool
  w    : Nat
  slot : Nat
  ctag : Nat := 0
  gone : Bool := false
  deriving DecidableEq, Repr

/-- The camera side of a package channel, beside its STR registers (R110 to R128, R149): its admitted shape, the tag queue, the last row of an
area frame that waits for its FE, the frame units announced to the head, the unit being received and its next row (and those of streams 1 to 3),
flags owed to the next record, frames with a CRC error (R120), the tunnel, stream bytes and flits received and not yet taken, the lane of the bond
whose codeword comes next (R126), whether bytes are discarded up to the next FPO (R120), whether data is accepted (R127), the last trigger fired
for it (frame and line), the frame whose FE came last, completed lines that wait for an earlier one to close (R173), and the triggers counted. -/
structure Chan where
  st      : ChSt := .idle
  first   : Nat := 0
  lanes   : Nat := 0
  trig    : Nat := 0
  area    : Bool := false
  latency : Nat := 0
  gen     : Option Nat := none
  streams : List Stream := []
  slice   : Nat := 0
  tags    : List Tag := []
  held    : Option RawLine := none
  fus     : List FUnit := []
  nextFid : Nat := 0
  fuOpen  : Bool := false
  row     : Nat := 0
  rowFlags : Nat := 0
  nextFlags : Nat := 0
  rows    : List Nat := [0, 0, 0, 0]
  crcs    : List Nat := []
  lsOpen  : Bool := false
  subH1   : Bool := false
  down    : Bool := false
  run     : Nat := 0
  events  : List (Nat × Nat) := []
  tun     : List TunReq := []
  tunTag  : Nat := 0
  rx      : List Seg := []
  turn    : Nat := 0
  resync  : Bool := false
  live    : Bool := false
  rspIn   : List (List Byte) := []
  evIn    : List (List Byte) := []
  lastTrig : Option (Nat × Nat) := none
  lastFe  : Option Nat := none
  ready   : List RawLine := []
  nextSeq : Nat := 0
  deriving DecidableEq, Repr

/-- A channel of an open stream set (R129). -/
structure SetChan where
  ch       : Nat
  lanes    : Nat
  first    : Nat
  trig     : Nat
  area     : Bool
  latency  : Nat
  deadline : Nat
  streams  : List Stream
  gen      : Option Nat
  deriving DecidableEq, Repr

/-- A web source or a replica of one (R130 to R138): the last edge's coordinate in 2^-16 wc and its timestamp in 1/64 ns, its
direction, the edges in the history (0 to 2), the period estimate, the counts, the sampled levels, an armed load (value, AT), a stall. -/
structure Source where
  c      : Int := 0
  te     : Nat := 0
  fwd    : Bool := true
  hist   : Nat := 0
  T      : Nat := 0
  edges  : Nat := 0
  revs   : Nat := 0
  a      : Bool := false
  b      : Bool := false
  z      : Bool := false
  load   : Option (Int × Bool) := none
  stalled : Bool := false
  deriving DecidableEq, Repr

/-- A trigger that has been crossed and waits to fire: its grid index, the coordinate of its tag, its instant (2^-22 ns), coarse, and the
reversals counted by its source. -/
structure Due where
  idx    : Nat
  coord  : Int
  inst   : Nat
  coarse : Bool
  rev    : Nat := 0
  deriving DecidableEq, Repr

/-- A trigger generator beside its registers (R139 to R148): running, stopping at the frame unit's end, isolated, its working grid
(START, M and D with target j = START + floor (j * M / D)) or instants (t0 and period in 2^-32 ns, next index), the next index HOLD may
fire, indices fired ahead of the next edge, triggers fired in this run and in all, the last line number, the frame number, the last instant, a pending ARM and whether it
applies at the next frame-unit start, the crossed and the armed triggers, the admitted rate, the last trigger's tag, and the dies on which its
replica is isolated (R151). -/
structure Gen where
  running  : Bool := false
  stopFu   : Bool := false
  isolated : Bool := false
  start    : Int := 0
  gm       : Nat := 65536
  gd       : Nat := 1
  t0       : Nat := 0
  per      : Nat := 0
  k        : Nat := 0
  hi       : Nat := 0
  pre      : List Nat := []
  n        : Nat := 0
  total    : Nat := 0
  line     : Nat := 0
  frame    : Option Nat := none
  lastT    : Option Nat := none
  armPend  : Bool := false
  armNext  : Bool := false
  due      : List Due := []
  maxRate  : Nat := 0
  tag      : Tag := {}
  cut      : List Nat := []
  deriving DecidableEq, Repr

/-- A correction and colour context as a line uses it (R153 to R187): the fields of its COR and DMS registers, its tables, and the first
of the open values that stand for entries of a table that was never loaded (log entry 50). -/
structure CorSet where
  bitsN    : Nat := 8
  cfa      : Nat := 0
  gainMode : Nat := 0
  ddEn     : Bool := false
  sdEn     : Bool := false
  colEn    : Bool := false
  trkEn    : Bool := false
  trkShift : Nat := 0
  width    : Nat := 0
  height   : Nat := 0
  obFirst  : Nat := 0
  obLog2   : Nat := 0
  ped      : Nat := 0
  seedB    : Nat := 0
  seedN    : Nat := 0
  k        : Nat := 0
  ddShift  : Nat := 0
  tmin     : Nat := 0
  recipW   : Nat := 0
  invX     : Nat := 0
  invY     : Nat := 0
  mode     : Nat := 0
  ref      : Nat := 0
  seg      : List Nat := []
  taps     : Nat := 0
  nearest  : Bool := false
  edgeT    : Nat := 0
  off      : List Int := []
  depth    : Nat := 0
  cols     : List Int := []
  gains    : List Nat := []
  defs     : List Nat := []
  openAt   : Nat := 0
  deriving DecidableEq, Repr

/-- A channel's line inside its correction slice: the raw line, the context it uses, the values after each stage that has run, its
optical-black mean, its D, its counts (static replaced, unrepaired, hot, cold), the tracker state after it, the noise state it is seeded with, tested
with, and leaves (R158, R159, R163), and whether it has been released or has failed a check. -/
structure PLine where
  raw   : RawLine
  set   : CorSet
  blk   : List Nat := []
  dyn   : Option (List Nat) := none
  shd   : List Nat := []
  mean  : Nat := 0
  dval  : Nat := 0
  defects : List Nat := [0, 0, 0, 0]
  b     : Nat := 0
  seed  : Option Nat := none
  nIn   : Nat := 0
  n     : Nat := 0
  crc   : Bool := false
  released : Bool := false
  tried : Bool := false
  deriving DecidableEq, Repr

/-- A line of the delay store (R185): its channel's run, the reversals counted before it (R137), its coordinate, and the values of
each segment (in a splice history: of each plane, with the line's flags). -/
structure Delay where
  run   : Nat
  rev   : Nat
  coord : Int
  segs  : List (List Nat)
  flags : Nat := 0
  deriving DecidableEq, Repr

/-- Changes of a channel's context and tables that do not apply yet (R166, R193), and RESEED. -/
structure CorStage where
  ctx    : Tbl Word := []
  cols   : Option (List Int) := none
  gains  : Option (List Nat) := none
  defs   : Option (List Nat) := none
  reseed : Bool := false
  deriving DecidableEq, Repr

/-- A channel's correction and colour state beside its context registers (R157 to R171, R183 to R187): tracker and noise state, its
lines, the log and checkpoint, the tables in use, the staged set, the set that COR_APPLY has committed with its frame, the noise seed for the next
line, and the delay store (newest first). -/
structure Cor where
  b        : Nat := 0
  n        : Nat := 0
  lines    : List PLine := []
  log      : List (Nat × Nat) := []
  ckB      : Nat := 0
  ckN      : Nat := 0
  ckFrame  : Nat := 0
  ckLine   : Nat := 0
  cols     : List Int := []
  gains    : List Nat := []
  defs     : List Nat := []
  staged   : CorStage := {}
  due      : CorStage := {}
  applyAt  : Option Nat := none
  seed     : Option Nat := none
  seen     : Bool := false
  curFrame : Nat := 0
  hist     : List Delay := []
  clamps   : Nat := 0
  crcFu    : Option Nat := none
  deriving DecidableEq, Repr

/-- A statistics bank (R196, R206): histogram by plane * 256 + bin, zone sums by zone * 3 + plane, clip counts by plane * 2 (+ 1 high), the
configuration it was gathered under, and VC and DT of the channel's stream 0 (R205). -/
structure Bank where
  frame : Nat := 0
  tag   : Tag := {}
  flags : Nat := 0
  hist  : Tbl Nat := []
  zones : Tbl Nat := []
  clip  : Tbl Nat := []
  defs  : List Nat := [0, 0, 0, 0]
  lines : Nat := 0
  lost  : Nat := 0
  black : Nat := 0
  noise : Nat := 0
  sat   : Nat := 0
  planes : Nat := 1
  zx    : Nat := 1
  zy    : Nat := 1
  shift : Nat := 12
  vc    : Nat := 0
  dt    : Nat := 0
  deriving DecidableEq, Repr

/-- A channel's statistics: live bank, slot, queue, configurations with the frames at which they apply, oldest first (R199 to R209). -/
structure Sta where
  live   : Bank := {}
  slot   : Option Bank := none
  queue  : List Bank := []
  lost   : Nat := 0
  staged : List (Nat × Tbl Word) := []
  written : Nat := 0
  lostAll : Nat := 0
  lastFrame : Nat := 0
  deriving DecidableEq, Repr

/-- A member of a splice group (R212 to R216, R222): channel, index, placement, down-web offset and depth, seam, layer, owned rectangle, and the width
and data type of its lines. -/
structure SplMem where
  ch   : Nat
  idx  : Nat
  x0   : Int
  offy : Int
  ds   : Nat
  y0   : Nat
  ra   : Nat
  rn   : Nat
  binv : Nat
  layer : Nat
  ox0  : Nat
  ox1  : Nat
  oy0  : Nat
  oy1  : Nat
  w    : Nat
  dt   : Nat := 0
  deriving DecidableEq, Repr

/-- A set of a splice group (R212, R213, R219, R224): kind, generator, lookahead, planes, sizes, deadline (100 ns units), wait, fills, members
in index order, and whether SPL_SET_GROUP has given the fields that are RW in the registers (R227). -/
structure SplCfg where
  compose : Bool := false
  gen    : Nat := 0
  la     : Nat := 0
  planes : Nat := 1
  width  : Nat := 1
  height : Nat := 1
  layers : Nat := 1
  pat    : Nat := 1
  deadline : Nat := 0
  deadmin : Nat := 0
  wait   : Nat := 1000
  fill   : Nat := 0
  absA   : Nat := 0xFFFFF
  absB   : Nat := 0
  mems   : List SplMem := []
  own    : Bool := false
  deriving DecidableEq, Repr

/-- An open spliced line or composed frame (R217 to R224): its tag, the set it closes under, the flags of the lines used, the members that
have contributed, bursts (seam, side, flags, planes), seams blended, parts ready on a remote die (die, key, flags, first column, planes), parts at
the home die (row or 0, layer or 0, first column, planes), whether a fill was used, the deadline or close has come, a layer is complete, and the
number of its trigger among all of its generator. -/
structure OpenUnit where
  tag    : Tag
  cfg    : SplCfg
  flags  : Nat := 0
  got    : List Nat := []
  bursts : List (Nat × Nat × Nat × List (List Nat)) := []
  paired : List Nat := []
  gather : List (Nat × Nat × Nat × Nat × List (List Nat)) := []
  parts  : List (Nat × Nat × Nat × List (List Nat)) := []
  half   : Bool := false
  dead   : Bool := false
  forced : Bool := false
  boundary : Bool := false
  no     : Nat := 0
  deriving DecidableEq, Repr

/-- A splice group beside its registers (R212 to R227): in use, ending, stopped, isolated, waiting for a frame-unit start after a reset; the
staged set, the set committed by SPL_APPLY with its frame, open units in order, member histories, the last unit closed, bubbles, and width and data
type of the members' lines. -/
structure Grp where
  active  : Bool := false
  removing : Bool := false
  stopped : Bool := false
  isolated : Bool := false
  rejoin  : Bool := false
  staged  : Option SplCfg := none
  commit  : Option SplCfg := none
  applyAt : Nat := 0
  opened  : List OpenUnit := []
  hist    : Tbl (List Delay) := []
  last    : Option (Nat × Nat) := none
  bubbles : Nat := 0
  shapes  : Tbl (Nat × Nat) := []
  deriving DecidableEq, Repr

/-- The state of a record for one member (R240). -/
inductive RecSt where
  | ready | inflight | done | acked | expired
  deriving DecidableEq, Repr

/-- A record's life for one member of its share set (R240 to R243); `crc` that an uncorrectable word was read for its present delivery (R250). -/
structure MemRec where
  cons  : Nat
  seq   : Nat
  st    : RecSt := .ready
  reissued : Bool := false
  gap   : Bool := false
  sentBytes : Nat := 0
  lastSent : Bool := false
  attempt : Nat := 0
  condemned : Bool := false
  crc   : Bool := false
  deriving DecidableEq, Repr

/-- A record in the holding store (R234 to R240): tag, payload, open or closed, its members. -/
structure Rec where
  id      : Nat
  die     : Nat
  share   : Nat
  tag     : Tag
  chNo    : Nat
  vc      : Nat
  dt      : Nat
  fmt     : Nat
  lineNo  : Nat
  flags   : Nat
  payload : List Byte
  isOpen  : Bool
  units   : Nat
  members : List MemRec
  deriving DecidableEq, Repr

/-- A consumer context beside its registers (R230 to R245): its share set, the frame from which its binding holds, the frame whose end
stops it, drop mode, and a GAP_BEFORE owed to the next record that starts. -/
structure Ctx where
  share   : Nat := 0
  startAt : Option Nat := none
  stopAt  : Option Nat := none
  dropped : Bool := false
  gapOwed : Bool := false
  deriving DecidableEq, Repr

/-- An entry of a port's MSI-X table (R254). -/
structure MsixVec where
  addr   : Nat := 0
  data   : Nat := 0
  masked : Bool := true
  deriving DecidableEq, Repr

/-- A DMA ring beside its registers (R259 to R269): the bound context, descriptors fetched and not used, the descriptor read in flight (address,
number of descriptors) and its retries, the last OWN-clear interval in µs (0 none) and whether it runs, the descriptor of the record being written
and the bytes of the record put out, write-backs since the last flush read, sequences written back and not completed, flush reads in flight
(sequences covered, address), retries of the oldest, completions not reported. -/
structure Ring where
  bound   : Option Nat := none
  fetched : List Desc := []
  req     : Option (Nat × Nat) := none
  tries   : Nat := 0
  ownWait : Nat := 0
  waits   : Bool := false
  cur     : Option (Nat × Desc) := none
  put     : Nat := 0
  since   : Nat := 0
  wb      : List Nat := []
  fly     : List (Nat × Nat) := []
  lastWb  : Nat := 0
  retries : Nat := 0
  unreported : Nat := 0
  deriving DecidableEq, Repr

/-- A launch-queue frame (R291); `late` marks one found past (R292). -/
structure Launch where
  tag  : Nat
  len  : Nat
  sec  : Nat
  ns   : Nat
  data : List Byte
  late : Bool
  deriving DecidableEq, Repr

/-- A shard of a stripe on its way to stable media (R303 to R307). -/
inductive ShardSt where
  | sent | accepted | durable | absent
  deriving DecidableEq, Repr

/-- A shard write: the target and XID of its current write, its state, its retries and the port it went out on (8 * die + MAC). -/
structure Shard where
  idx   : Nat
  tgt   : Nat
  xid   : Nat
  st    : ShardSt
  tries : Nat
  port  : Nat
  deriving DecidableEq, Repr

/-- A sealed stripe: its number, data, shards, the records that touch it, whether it has been DURABLE on every slot, whether it is lost. -/
structure Stripe where
  s      : Nat
  data   : List Byte
  shards : List Shard
  recs   : List Nat
  everDurable : Bool := false
  lost   : Bool := false
  deriving DecidableEq, Repr

/-- A background rebuild of a slot, or the copy of a replacement (then `old` is the retired target), with the stripes left (R309, R311). -/
structure RbJob where
  slot : Nat
  tgt  : Nat
  old  : Option Nat
  todo : List Nat
  deriving DecidableEq, Repr

/-- A READ (R303): its target and XID, the shard it brings, the port it went out on (8 * die + MAC, 64 for none yet), and the fragments that
have come, each with its offset. -/
structure ReadPart where
  tgt   : Nat
  xid   : Nat
  idx   : Nat
  port  : Nat
  frags : List (Nat × List Byte) := []
  deriving DecidableEq, Repr

/-- READs in flight that give one shard of a stripe, and whether they copy or reconstruct it (R307, R311). -/
structure CRead where
  stripe : Nat
  shard  : Nat
  parts  : List ReadPart
  copy   : Bool
  deriving DecidableEq, Repr

/-- A Coil volume beside its registers (R298 to R311): the bound context and the die of its engine, the open stripe's data and records,
its stripes in the order of writing, absent slots in the order of failure, rebuilds and copies, READs in flight, the next port, stripes
lost, and the PROBE in flight of each target with its port. -/
structure Vol where
  bound   : Option Nat := none
  die     : Nat := 0
  cur     : List Byte := []
  curRecs : List Nat := []
  stripes : List Stripe := []
  absent  : List Nat := []
  jobs    : List RbJob := []
  reads   : List CRead := []
  rr      : Nat := 0
  lostCnt : Nat := 0
  probes  : Tbl (Nat × Nat) := []
  deriving DecidableEq, Repr

/-- A fault source instance beside its registers (R314 to R319): the deadline of its escalation in TIME cycles. -/
structure Src where
  deadline : Nat := 0
  deriving DecidableEq, Repr

/-- A CAN controller beside its registers (R337 to R356): the buffer under way and whether it is to be aborted, a sleep asked for, the
candidate under detection, the rounds done, clean frames in a row and whether one had BRS, whether the candidate has integrated, the slots
that wait for detection and sleep, frames lost per queue, and CAN_TS with the kernel count at the last change of its divider. -/
structure Can where
  active   : Option Nat := none
  abort    : Bool := false
  sleepReq : Bool := false
  detCand  : Nat := 0
  detRound : Nat := 0
  detGood  : Nat := 0
  detBrs   : Bool := false
  detReady : Bool := false
  detSlot  : Option (Nat × Nat) := none
  slSlot   : Option (Nat × Nat) := none
  lost     : List Nat := [0, 0]
  ts0      : Nat := 0
  k0       : Nat := 0
  deriving DecidableEq, Repr

/-- A pending change of the time counter (R285, R286). -/
inductive TimeChg where
  | inc (v : Nat)
  | add (sec : Int) (ns frac : Nat)
  | set (sec ns frac : Nat)
  deriving DecidableEq, Repr

/-- The package time: elapsed TIME cycles, the counter (48-bit seconds, 32-bit ns, 32-bit fraction), INC (32.32) and the
changes on the sideband, calendar set waiting for the rollover with the slot that waits, the leap second being shown, the dies whose time unit is
not aligned, and the outputs (die * 16 + output) that were bound to a generator while theirs was not (R18). -/
structure Clock where
  now     : Nat := 0
  sec     : Nat := 0
  ns      : Nat := 0
  frac    : Nat := 0
  inc     : Nat := 0x200000000
  changes : List TimeChg := []
  calSet  : Option (Nat × Option (Nat × Nat)) := none
  leap60  : Bool := false
  unaligned : Nat := 0
  barred  : List Nat := []
  deriving DecidableEq, Repr

/-- The PTP clock of PTP_SET beside PTP_CFG (R287). -/
structure Ptp where
  logSync : Nat := 0
  logAnnounce : Nat := 0
  logDelay : Nat := 0
  prio1   : Nat := 0
  prio2   : Nat := 0
  good    : Nat := 0
  deriving DecidableEq, Repr

/-- A live activation under way (R81): the image slot, the dies whose clusters have still to restart in order (the first of them is
restarting), and the slot of FW_ACTIVATE that waits. -/
structure Update where
  slot : Nat
  left : List Nat
  ans  : Option (Nat × Nat)
  deriving DecidableEq, Repr

/-- Boot flash, one-time-programmable store and boot state (R78 to R82, R370 to R375): the bytes of each image slot and of each copy of
the boot record, revoked keys, SVN floor, the slot FW_ACTIVATE named for the next warm reset, recovery mode, whether reset has been
released, the slot found valid, whether DEV_WARM_RESET has asked for a reset, the dies whose PERSTn is low, and a live activation under way. -/
structure Boot where
  img0     : List Byte := []
  img1     : List Byte := []
  recA     : List Byte := []
  recB     : List Byte := []
  revoked  : Nat := 0
  svnFloor : Nat := 0
  nextSlot : Option Nat := none
  recovery : Bool := false
  released : Bool := false
  verified : Option Nat := none
  warmDue  : Bool := false
  perst    : List Nat := []
  update   : Option Update := none
  deriving DecidableEq, Repr

/-- The instruction a TAP decodes (R379). -/
inductive TapIr where
  | bypass | idcode | sample | extest | clamp | highz | extestPulse | extestTrain
  deriving DecidableEq, Repr

/-- The state of the part. -/
structure State where
  /-- Which of the three parts this is (R1). -/
  part     : Part
  /-- Every register word that differs from its reset value, by storage address (R23, R36). -/
  regs     : Tbl Word
  /-- Live counts behind the counter registers (R45), the start of a sweep, and the old function of a pin that is switching (R367). -/
  live     : Tbl Nat
  /-- Injected faults that wait for the check they strike: die, source, instance, mode (R332). -/
  inj      : List (Nat × Nat × Nat × Nat)
  /-- Copies of triplicated bits that differ from the majority: address, bit, copy (R51). -/
  tmr      : List (Nat × Nat × Nat)
  /-- The indirect access queue of each block, by its base, oldest first (R48). -/
  indq     : Tbl (List IndOp)
  /-- The protection table in force; `regs` holds the staged one (R56, R57). -/
  prt      : Tbl Word
  /-- Tables copied by PRT_COMMIT and not yet in force, oldest first (R57). -/
  commits  : List Commit
  /-- Mailbox slots, by window * 32 + slot (R67, R68). -/
  slots    : Tbl Slot
  /-- The journal, by the key of the slot (R75). -/
  journal  : Tbl JEntry
  /-- How many doorbells have been rung: the order of the commands (R71). -/
  ringNo   : Nat
  /-- The die whose cluster leads (R60). -/
  leader   : Nat
  /-- MBX_LEADER.STATE (R60 to R62). -/
  leaderSt : Nat
  /-- EPOCH, which a takeover advances (R74). -/
  epoch    : Nat
  /-- The management cluster of each die (R59 to R61). -/
  clusters : Tbl Cluster
  /-- The dies that are isolated (R316). -/
  isolated : List Nat
  /-- Units taken out by ISOLATE: die, group, instance (R316). -/
  outUnits : List (Nat × Nat × Nat)
  /-- HALT has stopped the part (R335). -/
  halted   : Bool
  /-- The ALIVE ball toggles (R335). -/
  aliveOn  : Bool
  /-- The TIME cycle at which the running hold-off of the fault interrupt began (R321). -/
  irqAt    : Option Nat
  /-- A call for the fault interrupt waits for the end of the hold-off (R321). -/
  irqHeld  : Bool
  /-- The bytes of the Knot Book that the leader has written (R30 to R34). -/
  knb      : List Byte
  /-- The package time (R14, R284 to R286). -/
  clock    : Clock
  /-- What PTP_SET keeps beside the PTP registers (R287). -/
  ptp      : Ptp
  /-- Flash, OTP and boot state (R78 to R82, R370 to R375). -/
  boot     : Boot
  /-- The ball JTAG_CE (R378). -/
  jtagCe   : Bool
  /-- The instruction of each TAP (R379). -/
  taps     : Tbl TapIr
  /-- Physical lanes beside their registers, by die * 128 + lane (R86 to R98). -/
  lanes    : Tbl Lane
  /-- The physical lane that serves a logical lane, where it is not its own (R98). -/
  lmap     : Tbl Nat
  /-- Swaps of a lane onto its spare in progress, by die * 4 + group (R98). -/
  swaps    : Tbl Swap
  /-- The sequence state of Strand lanes (R106, R110). -/
  links    : Tbl Link
  /-- Package channels beside their STR registers (R110 to R128). -/
  chans    : Tbl Chan
  /-- Open stream sets, by number (R129). -/
  sets     : Tbl (List SetChan)
  /-- Web sources, by die * 4 + encoder unit (R130 to R137). -/
  sources  : Tbl Source
  /-- Replicas of sources on other dies, and the edges on their way, by die * 32 + source (R138). -/
  reps     : Tbl (Source × List Source)
  /-- Trigger generators beside their registers, by die * 8 + generator (R139 to R148). -/
  gens     : Tbl Gen
  /-- Pulses of each output: start, end and whether it has begun (R143). -/
  windows  : Tbl (List (Nat × Nat × Bool))
  /-- The serving delay line of each fire path (R17). -/
  exch     : Tbl Nat
  /-- Correction and colour of each channel beside its context (R153 to R187). -/
  cors     : Tbl Cor
  /-- Raw lines that wait for a slice, by die * 8 + logical slice (R153, R154). -/
  sliceQ   : Tbl (List RawLine)
  /-- The physical slice that serves a logical one (R172). -/
  smap     : Tbl Nat
  /-- Statistics of each channel beside its context (R196 to R209). -/
  stas     : Tbl Sta
  /-- The channel last served by the round of a die (R201). -/
  staNext  : Tbl Nat
  /-- Splice groups beside their registers (R212 to R227). -/
  grps     : Tbl Grp
  /-- Hand-off packets on the fabric: the die they go to, the die they come from, their group, their bytes (R218). -/
  handoffs : List (Nat × Nat × Nat × List Byte)
  /-- The records of the holding store, oldest first (R234 to R243). -/
  recs     : List Rec
  /-- The number of the next record (the model's own count). -/
  nextRec  : Nat
  /-- Consumer contexts beside their registers (R230 to R245). -/
  ctxs     : Tbl Ctx
  /-- The context last served on each path (R247). -/
  lastGrant : Tbl Nat
  /-- DMA rings beside their registers (R259 to R269). -/
  rings    : Tbl Ring
  /-- The dies whose port has the MSI-X function mask set (R254). -/
  msixFm   : List Nat
  /-- The MSI-X table of each port, by die * 2048 + vector (R254). -/
  vecs     : Tbl MsixVec
  /-- The addresses of each port's BARs, by 2 * die + pair (R254). -/
  bars     : Tbl Nat
  /-- The pending-bit array: MSI-X messages pending under a mask: die, vector (R254). -/
  msixPend : List (Nat × Nat)
  /-- Speed and width limit of a port (R273). -/
  pciLim   : Tbl (Nat × Nat)
  /-- PCIe engines that wait for a tracker entry, in order (R270). -/
  trkWait  : Tbl (List Nat)
  /-- The launch queue of each MAC (R291). -/
  launches : Tbl (List Launch)
  /-- The counter, in ns, when a MAC last launched a frame, by die * 8 + MAC (R291). -/
  lastLaunch : Tbl Nat
  /-- The SESSION values chosen so far for a flow or a target, by the base of its registers (R277, R302). -/
  sessions : Tbl (List Nat)
  /-- Coil volumes beside their registers (R298 to R311). -/
  vols     : Tbl Vol
  /-- Fault sources beside their registers (R314 to R319). -/
  srcs     : Tbl Src
  /-- The TIME cycles at which words of a holding-store channel were rebuilt in the last 1.0 ms, by die * 32 + channel (R324). -/
  recon    : Tbl (List Nat)
  /-- Rows remapped in each pseudo-channel or SRAM macro (R324, R327). -/
  remaps   : Tbl (List Nat)
  /-- Words whose corrected error has been seen once: die, macro, row (R327). -/
  corrected : List (Nat × Nat × Nat)
  /-- Severities that commands have set, which a die reset restores (R331). -/
  sevSet   : List (Nat × Nat × Nat × Nat × Nat)
  /-- CAN controllers beside their registers (R337 to R356). -/
  cans     : Tbl Can
  /-- Fault reactions that the command under way has called for: die, source, instance, level (log entry 10). -/
  todo     : List (Nat × Nat × Nat × Nat)
  /-- How many free values have been used (log entry 2). -/
  free     : Nat
  /-- What the part has put on its ports, oldest first: a log that no effect reads (log entry 10). -/
  out      : List Out
  /-- The commands that wait, first in, first out. -/
  pending  : List Instr
  deriving DecidableEq, Repr

/-- Why the part's model stops. -/
inductive Fault where
  /-- An access at or above 1 GiB, which is no address of BAR0 (R23). Safe: the port decodes no such address. -/
  | outsideBar0
  /-- A command that names a unit (a die, lane, channel, MAC, ...) which the part does not have (R1, R2). Safe. -/
  | noSuchUnit
  deriving DecidableEq, Repr

/-- Why a command has no meaning in the model. -/
inductive Refusal where
  /-- Raised by Dispatch.lean for a row that is not modelled yet. Safe. -/
  | notModelled (mnemonic : String)
  deriving DecidableEq, Repr

/-- The part in a cold reset that is not yet released (R370, R374): every register at its reset value, nothing admitted, nothing pending.
RESET_RELEASE and BOOT_READY bring it up. -/
def State.reset : State where
  part := .msd2
  regs := []
  live := []
  inj := []
  tmr := []
  indq := []
  prt := []
  commits := []
  slots := []
  journal := []
  ringNo := 0
  leader := 0
  leaderSt := 0
  epoch := 0
  clusters := []
  isolated := []
  outUnits := []
  halted := false
  aliveOn := false
  irqAt := none
  irqHeld := false
  knb := []
  clock := {}
  ptp := {}
  boot := {}
  jtagCe := false
  taps := []
  lanes := []
  lmap := []
  swaps := []
  links := []
  chans := []
  sets := []
  sources := []
  reps := []
  gens := []
  windows := []
  exch := []
  cors := []
  sliceQ := []
  smap := []
  stas := []
  staNext := []
  grps := []
  handoffs := []
  recs := []
  nextRec := 0
  ctxs := []
  lastGrant := []
  rings := []
  msixFm := []
  vecs := []
  bars := []
  msixPend := []
  pciLim := []
  trkWait := []
  launches := []
  lastLaunch := []
  sessions := []
  vols := []
  srcs := []
  recon := []
  remaps := []
  corrected := []
  sevSet := []
  cans := []
  todo := []
  free := 0
  out := []
  pending := []

end Sys2Proof.Machine
end

