-- ==== Sys2Proof/Machine/Store.lean ====
section
/-!
DEFINITION. Sparse tables in their canonical form, bit fields of a register word, and the shape of a register map (R36 to R40).
-/
namespace Sys2Proof.Machine
open Sys2Proof

/-- The value at a key, if the table lists it. -/
def tget {α : Type} : Tbl α → Nat → Option α
  | [], _ => none
  | (k', v) :: t, k => if k = k' then some v else tget t k

/-- The table with a value at a key; keys stay strictly rising. -/
def tset {α : Type} : Tbl α → Nat → α → Tbl α
  | [], k, v => [(k, v)]
  | (k', v') :: t, k, v => if k < k' then (k, v) :: (k', v') :: t else if k = k' then (k, v) :: t else (k', v') :: tset t k v

/-- The table without a key. -/
def tdel {α : Type} : Tbl α → Nat → Tbl α
  | [], _ => []
  | (k', v') :: t, k => if k = k' then tdel t k else (k', v') :: tdel t k

/-- The value at a key, or a default. -/
def tgetD {α : Type} (t : Tbl α) (k : Nat) (d : α) : α := (tget t k).getD d

/-- Whether the keys of a table rise strictly: the one form in which equal tables are equal data. -/
def Tbl.rising {α : Type} : Tbl α → Bool
  | [] => true
  | [_] => true
  | a :: b :: t => decide (a.1 < b.1) && Tbl.rising (b :: t)

/-- Write a value whose key reads `d` when unlisted: the default is not listed. -/
def tput {α : Type} [DecidableEq α] (t : Tbl α) (k : Nat) (d v : α) : Tbl α := if v = d then tdel t k else tset t k v

/-- Change the value at a key, from a default where it is unlisted. -/
def tmod {α : Type} (t : Tbl α) (k : Nat) (d : α) (f : α → α) : Tbl α := tset t k (f (tgetD t k d))

/-- The access types (R36). -/
inductive AccTy where
  | rw | ro | rwd | seq | w1p
  deriving DecidableEq, Repr

/-- A field: offset of its register at index 0, high and low bit, access type, reset value, TMR attribute. -/
structure Fld where
  off : Nat
  hi  : Nat
  lo  : Nat
  acc : AccTy
  rst : Nat
  tmr : Bool
  deriving DecidableEq, Repr

/-- A SEQ register: its offset, the mask of its flags, and the mask of its OVF flag (0 where it has none). -/
structure EvtReg where
  off  : Nat
  mask : Nat
  ovf  : Nat
  deriving DecidableEq, Repr

/-- A row of a register map: offset, stride, number of instances, words per instance, fields. -/
structure RegRow where
  off    : Nat
  stride : Nat
  count  : Nat
  words  : Nat
  flds   : List Fld
  deriving DecidableEq, Repr

/-- The number of bits of a field. -/
def Fld.width (f : Fld) : Nat := f.hi + 1 - f.lo

/-- The word with ones at bits [hi:lo]. -/
def bitMask (hi lo : Nat) : Word := BitVec.ofNat 32 ((2 ^ (hi + 1 - lo) - 1) * 2 ^ lo)

/-- Bits [hi:lo] of a word, as a number. -/
def bits (w : Word) (hi lo : Nat) : Nat := (w.toNat / 2 ^ lo) % 2 ^ (hi + 1 - lo)

/-- A word with bits [hi:lo] replaced. -/
def putBits (w : Word) (hi lo v : Nat) : Word :=
  (w &&& ~~~(bitMask hi lo)) ||| (BitVec.ofNat 32 ((v % 2 ^ (hi + 1 - lo)) * 2 ^ lo))

/-- Whether a bit of a number is set. -/
def tbit (n i : Nat) : Bool := n / 2 ^ i % 2 == 1

/-- A number with a bit set, and with a bit clear. -/
def setb (n i : Nat) : Nat := if tbit n i then n else n + 2 ^ i
def clrb (n i : Nat) : Nat := if tbit n i then n - 2 ^ i else n

/-- The value a row's register takes at reset, from its fields. -/
def RegRow.rst (r : RegRow) : Word := BitVec.ofNat 32 ((r.flds.map fun f => f.rst * 2 ^ f.lo).foldl (· + ·) 0)

/-- Whether offset x (a multiple of 4) is a word of a row. -/
def RegRow.has (r : RegRow) (x : Nat) : Bool :=
  if x < r.off then false
  else if r.stride = 0 then x - r.off < 4 * r.words
  else (x - r.off) % r.stride < 4 * r.words && (x - r.off) / r.stride < r.count

/-- The row of a map that holds offset x. -/
def rowAt (m : List RegRow) (x : Nat) : Option RegRow := m.find? (·.has x)

/-- The bits of a row that have an access type. -/
def RegRow.maskOf (r : RegRow) (p : AccTy → Bool) : Word :=
  r.flds.foldl (fun m f => if p f.acc then m ||| bitMask f.hi f.lo else m) 0

/-- The little-endian bytes of a number. -/
def leBytes : Nat → Nat → List Byte
  | 0, _ => []
  | n + 1, v => BitVec.ofNat 8 v :: leBytes n (v / 256)

/-- The number that little-endian bytes spell. -/
def ofLe : List Byte → Nat
  | [] => 0
  | b :: t => b.toNat + 256 * ofLe t

/-- n bytes of a list from an offset, zeros past its end. -/
def bytesAt (l : List Byte) (off n : Nat) : List Byte :=
  let t := (l.drop off).take n
  t ++ List.replicate (n - t.length) 0

/-- The little-endian number of n bytes at an offset. -/
def leAt (l : List Byte) (off n : Nat) : Nat := ofLe (bytesAt l off n)

/-- A list of bytes with others laid over it from an offset; the list keeps its length. -/
def overlay (l : List Byte) (off : Nat) (d : List Byte) : List Byte :=
  (l.take off ++ d ++ l.drop (off + d.length)).take l.length

/-- CRC-32C of bytes (reflected polynomial 0x82F63B78, initial value and final XOR all ones). -/
def crc32cBit (c : Nat) : Nat := if c % 2 = 1 then (c / 2).xor 0x82F63B78 else c / 2
def crc32cByte (c : Nat) (b : Byte) : Nat :=
  crc32cBit (crc32cBit (crc32cBit (crc32cBit (crc32cBit (crc32cBit (crc32cBit (crc32cBit (c.xor b.toNat))))))))
def crc32c (l : List Byte) : Nat := (l.foldl crc32cByte 0xFFFFFFFF).xor 0xFFFFFFFF

/-- Apply a state update for each number below n, in rising order. -/
def upTo {α : Type} (n : Nat) (f : Nat → α → α) (a : α) : α := (List.range n).foldl (fun x i => f i x) a

/-- Apply a state update for each element of a list, in order. -/
def each {α β : Type} (l : List β) (f : β → α → α) (a : α) : α := l.foldl (fun x i => f i x) a

end Sys2Proof.Machine
end

