-- ==== Sys2Proof/Machine/Coding.lean ====
section
/-!
DEFINITION. What travels on a Strand lane: comma blocks and hitches as PAM4 symbols, the scrambler, the RS(544,514) code, codewords and
flits, and the check values of CSI-2 packets (R87, R88, R94, R101 to R104, R109, R111 to R120).
The first bit of a codeword on the lane is bit 0 of its message, and a ten-bit symbol is sent from its bit 0 up (log entry 205).
-/
namespace Sys2Proof.Machine
open Sys2Proof

/-! ### PAM4 symbols (R87, R88, R111, R112) -/

/-- `n` copies of a group of symbols, one after the other. -/
def repeatSyms (n : Nat) (g : List Int) : List Int := (List.replicate n g).flatten

/-- A comma block, its first symbol first (R87). -/
def commaBlock : List Int := repeatSyms 8 [3, 3, -3, -3] ++ repeatSyms 6 [1, -1, 3, -3, -1, 1, -3, 3]

/-- Hitch H0, and H1, which is H0 with every symbol negated (R111). -/
def hitchH0 : List Int := repeatSyms 8 [3, 3, 3, -3, -3, -3, 3, -3]
def hitchH1 : List Int := hitchH0.map (- ·)
def hitchSyms (h1 : Bool) : List Int := if h1 then hitchH1 else hitchH0

/-- In how many places two runs of symbols agree. -/
def agreeing (a b : List Int) : Nat := ((a.zip b).filter fun e => e.1 == e.2).length

/-- A received word matches the comma block (R88). -/
def commaMatch (w : List Int) : Bool := 76 ≤ agreeing w commaBlock

/-- A run of received symbols carries a hitch (R112). -/
def hitchIn (w : List Int) : Bool :=
  (List.range (w.length - 63)).any fun i => 62 ≤ agreeing (w.drop i) hitchH0 || 62 ≤ agreeing (w.drop i) hitchH1

/-- An expected comma position matches (R88), also where its word carries a hitch (R113). -/
def commaSeen (w : List Int) : Bool := commaMatch w || hitchIn w

/-- The symbol that carries two bits, the first of them the most significant, with Gray coding (R94; log entry 205). -/
def paSym (hi lo : Bool) : Int := if hi then (if lo then 1 else 3) else (if lo then -1 else -3)

/-! ### The scrambler (R103) -/

/-- The scrambler's state after a comma block: the 31 bits before the sequence are ones. Bit 0 of a state is the oldest. -/
def scrStart : Nat := 2 ^ 31 - 1

/-- The next ten bits of the PRBS31 sequence x^31 + x^28 + 1, the first lowest (log entry 205). -/
def scrBits (st : Nat) : Nat := (st ^^^ st / 8) % 1024

def scrNext (st : Nat) : Nat := st / 1024 + scrBits st * 2 ^ 21

/-- The scrambler's state after n ten-bit symbols. -/
def scrSkip : Nat → Nat → Nat
  | 0, st => st
  | n + 1, st => scrSkip n (scrNext st)

/-- Scramble or descramble symbols from a state on. -/
def scramble : Nat → List Nat → List Nat
  | _, [] => []
  | st, x :: t => (x ^^^ scrBits st) :: scramble (scrNext st) t

/-- Scramble or descramble the codeword at place `pos` (0 to 119) of its superframe (R101, R103). -/
def scrambleAt (pos : Nat) (syms : List Nat) : List Nat := scramble (scrSkip (544 * pos) scrStart) syms

/-- Transmit words of a superframe, codewords of it and words of a codeword (R101). -/
def sfWords : Nat := 4081
def sfCodewords : Nat := 120
def cwWords : Nat := 34

/-! ### RS(544,514) over GF(2^10) (R101; log entry 205) -/

/-- Multiply by x modulo x^10 + x^3 + 1. -/
def gfDouble (a : Nat) : Nat := if 512 ≤ a then (2 * a) ^^^ 0x409 else 2 * a

/-- Multiply, with `n` bits of the second factor. -/
def gfMulN : Nat → Nat → Nat → Nat
  | 0, _, _ => 0
  | n + 1, a, b => (if b % 2 = 1 then a else 0) ^^^ gfMulN n (gfDouble a) (b / 2)

def gfMul (a b : Nat) : Nat := gfMulN 10 a b

/-- Powers of an element, by squaring `n` bits of the exponent. -/
def gfPowN : Nat → Nat → Nat → Nat
  | 0, _, _ => 1
  | n + 1, a, e => gfMul (if e % 2 = 1 then a else 1) (gfPowN n (gfMul a a) (e / 2))

def gfPow (a e : Nat) : Nat := gfPowN 10 a (e % 1023)
def gfInv (a : Nat) : Nat := gfPow a 1022

/-- The element x and its powers. -/
def gfAlpha (i : Nat) : Nat := gfPow 2 i

/-- The value of a polynomial whose coefficients are given from the highest down. -/
def gfEval (cs : List Nat) (x : Nat) : Nat := cs.foldl (fun v c => gfMul v x ^^^ c) 0

/-- Add and scale polynomials whose coefficients are given from the lowest up. -/
def gfAdd : List Nat → List Nat → List Nat
  | [], b => b
  | a, [] => a
  | x :: a, y :: b => (x ^^^ y) :: gfAdd a b
def gfScale (k : Nat) (a : List Nat) : List Nat := a.map (gfMul k)

/-- The generator polynomial from its highest coefficient down: the product of (x - alpha^j), j from 0 to 29. -/
def rsGen : List Nat := (List.range 30).foldl (fun g j => gfAdd (g ++ [0]) (0 :: gfScale (gfAlpha j) g)) [1]

/-- One step of the division of a message by the generator: `r` is the remainder of 30 coefficients, the highest first. -/
def rsStep (r : List Nat) (m : Nat) : List Nat :=
  let f := m ^^^ r.headD 0
  gfAdd (r.tail ++ [0]) (gfScale f (rsGen.drop 1))

/-- The parity of a message of 514 symbols. -/
def rsParity (msg : List Nat) : List Nat := msg.foldl rsStep (List.replicate 30 0)

def rsEncode (msg : List Nat) : List Nat := msg ++ rsParity msg

/-- The 30 syndromes of a received word. -/
def rsSyndromes (w : List Nat) : List Nat := (List.range 30).map fun j => gfEval w (gfAlpha j)

/-- The search for the error locator (coefficients from the lowest up): locator, its earlier value, length, shift, and the earlier
discrepancy. -/
structure RsLoc where
  loc  : List Nat := [1]
  old  : List Nat := [1]
  len  : Nat := 0
  gap  : Nat := 1
  disc : Nat := 1

def rsLocStep (syn : List Nat) (x : RsLoc) (n : Nat) : RsLoc :=
  let d := (List.range (x.len + 1)).foldl (fun v i => v ^^^ gfMul (x.loc.getD i 0) (syn.getD (n - i) 0)) 0
  if d = 0 then { x with gap := x.gap + 1 }
  else
    let t := gfAdd x.loc (List.replicate x.gap 0 ++ gfScale (gfMul d (gfInv x.disc)) x.old)
    if 2 * x.len ≤ n then { loc := t, old := x.loc, len := n + 1 - x.len, gap := 1, disc := d } else { x with loc := t, gap := x.gap + 1 }

def rsLocator (syn : List Nat) : RsLoc := (List.range 30).foldl (rsLocStep syn) {}

/-- The error at place `i` of a word (0 first), given the locator and the evaluator: none where the locator has no root there. -/
def rsErrorAt (loc ev : List Nat) (i : Nat) : Nat :=
  let x := gfAlpha (543 - i)
  let y := gfInv x
  let at' (p : List Nat) : Nat := gfEval p.reverse y
  if at' loc != 0 then 0
  else
    let odd := (List.range loc.length).foldl (fun v k => if k % 2 = 1 then v ^^^ gfMul (loc.getD k 0) (gfPow y (k - 1)) else v) 0
    gfMul (gfMul x (at' ev)) (gfInv odd)

/-- The product of two polynomials (from the lowest up), cut to 30 coefficients. -/
def gfMul30 (a b : List Nat) : List Nat :=
  (((List.range a.length).foldl (fun v i => gfAdd v (List.replicate i 0 ++ gfScale (a.getD i 0) b)) []).take 30)

/-- Decode a received word of 544 symbols: the codeword within 15 symbols of it and the number of symbols corrected; none where the
decoder finds no such codeword. -/
def rsDecode (w : List Nat) : Option (List Nat × Nat) :=
  let syn := rsSyndromes w
  if syn.all (· == 0) then some (w, 0)
  else
    let x := rsLocator syn
    let ev := gfMul30 x.loc syn
    let fixed := (List.range w.length).zip w |>.map fun e => e.2 ^^^ rsErrorAt x.loc ev e.1
    let n := ((fixed.zip w).filter fun e => e.1 != e.2).length
    if n ≤ 15 && (rsSyndromes fixed).all (· == 0) then some (fixed, n) else none

/-! ### Codewords and flits (R101, R102, R104) -/

/-- The types of R104's table. -/
def ftIDLE : Nat := 0
def ftDATA : Nat := 1
def ftLINK : Nat := 2
def ftREQ : Nat := 3
def ftRSP : Nat := 4
def ftEVENT : Nat := 5

/-- A flit of a sequenced type (R104). -/
def Flit.sequenced (f : Flit) : Bool := f.type == ftDATA || f.type == ftREQ || f.type == ftRSP || f.type == ftEVENT

/-- Stream bytes of a DATA flit. -/
def Flit.seg (f : Flit) : Seg := let n := min f.len 157; { vcx2 := f.vcx2, fpo := if f.fpo < n then some f.fpo else none, bytes := f.body.take n }

/-- The 160 bytes of a flit. -/
def Flit.bytes (f : Flit) : List Byte :=
  let hdr := f.type % 16 * 2 ^ 20 + (if f.vcx2 then 2 ^ 19 else 0) + f.fpo % 256 * 256 + f.len % 256
  leBytes 3 hdr ++ ((List.range 157).map fun i => f.body.getD i 0)

/-- The flit of 160 bytes. -/
def Flit.ofBytes (l : List Byte) : Flit :=
  let hdr := ofLe (l.take 3)
  { type := hdr / 2 ^ 20 % 16, vcx2 := hdr / 2 ^ 19 % 2 == 1, fpo := hdr / 256 % 256, len := hdr % 256, body := (l.drop 3).take 157 }

/-- A codeword after decoding (R102, R106): uncorrectable, the symbols corrected, its header and its flits. -/
structure Codeword where
  uncorr    : Bool := false
  corrected : Nat := 0
  seqd      : Bool
  hitches   : Nat := 0
  cseq      : Nat
  flits     : List Flit := []
  deriving DecidableEq, Repr

/-- The 514 message symbols of a codeword: the 20-bit header and four flits, from bit 0 up. -/
def Codeword.message (c : Codeword) : List Nat :=
  let hdr := (if c.seqd then 2 ^ 19 else 0) + c.hitches % 8 * 2 ^ 16 + c.cseq % 2 ^ 16
  let flits := (List.range 4).map fun i => (c.flits.getD i { type := ftIDLE }).bytes
  let v := hdr + 2 ^ 20 * ofLe flits.flatten
  (List.range 514).map fun i => v / 1024 ^ i % 1024

/-- The codeword that 514 message symbols hold. A codeword is sequenced where its header or one of its flits says so (log entry 206). -/
def Codeword.ofMessage (corrected : Nat) (m : List Nat) : Codeword :=
  let v := m.foldr (fun x a => x + 1024 * a) 0
  let body := leBytes 640 (v / 2 ^ 20)
  let fl := (List.range 4).map fun i => Flit.ofBytes ((body.drop (160 * i)).take 160)
  { corrected := corrected, seqd := v / 2 ^ 19 % 2 == 1 || fl.any Flit.sequenced, hitches := v / 2 ^ 16 % 8, cseq := v % 2 ^ 16, flits := fl }

/-- The 544 symbols that a codeword puts on the lane at place `pos` of a superframe (R101, R103). -/
def Codeword.wire (c : Codeword) (pos : Nat) : List Nat := scrambleAt pos (rsEncode c.message)

/-- The codeword that 544 received symbols at place `pos` of a superframe hold. -/
def Codeword.ofWire (pos : Nat) (w : List Nat) : Codeword :=
  match rsDecode (scrambleAt pos w) with
  | some (x, n) => Codeword.ofMessage n (x.take 514)
  | none => { uncorr := true, seqd := false, cseq := 0 }

/-! ### LINK, tunnel and event bodies (R109, R115, R116) -/

/-- The body of a LINK flit. -/
structure LinkFlit where
  ackSeq   : Nat := 0xFFFF
  ackValid : Bool := false
  nak      : Bool := false
  creditValid : Bool := false
  hello    : Bool := false
  sleepReq : Bool := false
  sleepAck : Bool := false
  sleepRefused : Bool := false
  credit   : Nat := 0
  hbuf     : Nat := 0
  hcred    : Nat := 0
  pver     : Nat := 0
  hid      : Nat := 0
  deriving DecidableEq, Repr

def LinkFlit.flags (f : LinkFlit) : Nat :=
  ([f.ackValid, f.nak, f.creditValid, f.hello, f.sleepReq, f.sleepAck, f.sleepRefused].zip [1, 2, 4, 8, 16, 32, 64]).foldl
    (fun v e => if e.1 then v + e.2 else v) 0

/-- The bytes of the body of a LINK flit that its fields fill; the rest are 0. -/
def LinkFlit.bytes (f : LinkFlit) : List Byte :=
  leBytes 2 f.ackSeq ++ leBytes 1 f.flags ++ leBytes 1 f.credit ++ leBytes 4 f.hbuf ++ leBytes 1 f.hcred ++ leBytes 1 f.pver ++ leBytes 4 f.hid

/-- n bytes of a body from an offset, as a number. -/
def bodyNat (b : List Byte) (off n : Nat) : Nat := leAt b off n

def LinkFlit.ofBytes (b : List Byte) : LinkFlit :=
  let fl := bodyNat b 2 1
  { ackSeq := bodyNat b 0 2, ackValid := fl % 2 == 1, nak := fl / 2 % 2 == 1, creditValid := fl / 4 % 2 == 1, hello := fl / 8 % 2 == 1,
    sleepReq := fl / 16 % 2 == 1, sleepAck := fl / 32 % 2 == 1, sleepRefused := fl / 64 % 2 == 1, credit := bodyNat b 3 1, hbuf := bodyNat b 4 4,
    hcred := bodyNat b 8 1, pver := bodyNat b 9 1, hid := bodyNat b 10 4 }

/-- The TUNNEL_REQ flit of a request. -/
def reqFlit (tag op len addr : Nat) (data : List Byte) : Flit :=
  { type := ftREQ, len := 8 + data.length, body := leBytes 1 tag ++ leBytes 1 op ++ leBytes 1 len ++ leBytes 1 0 ++ leBytes 4 addr ++ data }

/-! ### CSI-2 packets (R119, R120) -/

/-- The verdict of the header ECC. -/
inductive HdrCheck where
  | ok | fixed | uncorr
  deriving DecidableEq, Repr

/-- A CSI-2 packet as checked: header fields after correction, payload, and the footer's verdict. -/
structure Csi2Packet where
  hdr   : HdrCheck
  vc    : Nat
  dt    : Nat
  data  : List Byte
  crcOk : Bool
  deriving DecidableEq, Repr

/-- The ECC columns of the 26 covered bits: Data Identifier, word count, VCX[1:0] (CSI-2; log entry 207). -/
def eccColumns : List Nat :=
  [0x07, 0x0B, 0x0D, 0x0E, 0x13, 0x15, 0x16, 0x19, 0x1A, 0x1C, 0x23, 0x25, 0x26, 0x29, 0x2A, 0x2C, 0x31, 0x32, 0x34, 0x38, 0x1F, 0x2F,
   0x37, 0x3B, 0x3D, 0x3E]

/-- The six ECC bits of 26 header bits. -/
def eccOf (v : Nat) : Nat := (List.range 26).foldl (fun e i => if v / 2 ^ i % 2 = 1 then e ^^^ eccColumns.getD i 0 else e) 0

/-- Check four header bytes (byte 3: VCX[1:0] in [7:6], the ECC in [5:0]): the 26 bits after correction, and the verdict. -/
def hdrCheck (h : Nat) : Nat × HdrCheck :=
  let v := h % 2 ^ 24 + h / 2 ^ 30 % 4 * 2 ^ 24
  let syn := eccOf v ^^^ h / 2 ^ 24 % 64
  if syn = 0 then (v, .ok)
  else match eccColumns.findIdx? (· == syn) with
    | some i => (v ^^^ 2 ^ i, .fixed)
    | none => if [1, 2, 4, 8, 16, 32].contains syn then (v, .fixed) else (v, .uncorr)

/-- One bit of the CRC-16 of CSI-2 (x^16 + x^12 + x^5 + 1, least significant bit first; log entry 207). -/
def crc16Bit (c : Nat) : Nat := if c % 2 = 1 then (c / 2) ^^^ 0x8408 else c / 2

def crc16Byte (c : Nat) (b : Byte) : Nat := upTo 8 (fun _ c => crc16Bit c) (c ^^^ b.toNat)

def crc16 (l : List Byte) : Nat := l.foldl crc16Byte 0xFFFF

/-! ### UDP and the line-record header (R274, R277) -/

/-- The sum of the 16-bit words of bytes in network order; a last single byte is the high one of its word. -/
def beSum : List Byte → Nat
  | a :: b :: t => a.toNat * 256 + b.toNat + beSum t
  | [a] => a.toNat * 256
  | [] => 0

/-- The sum of the 16-bit words of a number. -/
def wordSum (words v : Nat) : Nat := (List.range words).foldl (fun n i => n + v / 2 ^ (16 * i) % 65536) 0

/-- Fold the carries of a ones' complement sum back in. -/
def foldCarry (n : Nat) : Nat := n % 65536 + n / 65536

/-- The UDP checksum over the pseudo header, the UDP header and the payload; 0 is sent as 0xFFFF. -/
def udpSum (v6 : Bool) (sip dip sport dport : Nat) (payload : List Byte) : Nat :=
  let w := if v6 then 8 else 2
  let len := payload.length + 8
  let c := 65535 - foldCarry (foldCarry (wordSum w sip + wordSum w dip + 17 + len + sport + dport + len + beSum payload))
  if c = 0 then 65535 else c

/-- Whether a received checksum is wrong; a zero checksum is accepted on IPv4. -/
def udpBad (v6 : Bool) (dip dport : Nat) (u : UdpRx) : Bool :=
  if u.sum = 0 then v6 else u.sum != udpSum v6 u.sip dip u.sport dport u.bytes

/-- The 32-byte header of a DATA datagram (R277). -/
def dataHeader (session word attempt off recLen fragLen : Nat) (last : Bool) : List Byte :=
  leBytes 2 0x524C ++ leBytes 1 1 ++ leBytes 1 1 ++ leBytes 4 session ++ leBytes 4 word ++ leBytes 4 attempt ++ leBytes 4 off ++ leBytes 4 recLen
    ++ leBytes 2 fragLen ++ leBytes 2 (if last then 1 else 0) ++ leBytes 4 0

/-- The 32-byte header of a Coil message (R302). -/
def coilHeader (type session vol shard status flags xid taddr off fragLen : Nat) : List Byte :=
  leBytes 2 0x4C43 ++ leBytes 1 1 ++ leBytes 1 type ++ leBytes 4 session ++ leBytes 1 vol ++ leBytes 1 shard ++ leBytes 1 status ++ leBytes 1 flags
    ++ leBytes 4 xid ++ leBytes 8 taddr ++ leBytes 4 off ++ leBytes 2 fragLen ++ leBytes 2 0

end Sys2Proof.Machine
end

