-- ==== Sys2Proof/Config.lean ====
section
/-!
DEFINITION. The values the spec leaves open: functions without a body, so that nothing can be proved about the value they give.
`freeWord n` is the n-th value of such a kind that a run meets (State.free counts them); the two functions of the firmware image check
stand for SHA-384 and ECDSA P-384 (R79), whose outcome on given bytes the model does not compute.
-/
namespace Sys2Proof.Config
open Sys2Proof

/-- The n-th open value of a run (log entry 2). -/
opaque freeWord : Nat → Word

/-- SHA-384 of bytes (R79), 48 bytes (log entry 3). -/
opaque sha384 : List Byte → List Byte

/-- Whether r and s are a valid ECDSA P-384 signature over the bytes under the key (R79; log entry 3). -/
opaque ecdsaP384 : (key r s msg : List Byte) → Bool

/-- The SHA-384 digest of public key k that the one-time-programmable store of die 0 holds (R79; log entry 3). -/
opaque otpDigest : Nat → List Byte

/-- The unit that owns SRAM macro m of die d, at index 512 * d + m: R315 names no owner (log entry 193). -/
opaque sramOwner : Nat → Nat

/-- Where in its range the completion timeout of code n of Device Control 2 lies: R253 names the ranges (log entry 226). -/
opaque timeout : Nat → Nat

end Sys2Proof.Config
end

