-- ==== Sys2Proof/Machine/RegsA.lean ====
section
/-!
DEFINITION. The register maps of the common header and the KNB, PRT, MBX, LNQ, STR, WEB and TRG blocks (R36, R38 and the maps of chapters 02 to 07).
One constant per field, named REGISTER_FIELD as the spec writes it, with its offset at index 0, its bits, its access type (R36), its reset value and its
TMR attribute; REGISTER_E is the sequence-clearing register (R39) of that name; mapBLOCK lists the registers of a block.
-/
namespace Sys2Proof.Machine.R
open Sys2Proof.Machine

/-! ### KNB -/
def KNB_MAGIC_MAGIC : Fld := ⟨0x0, 31, 0, .ro, 0x544F4E4B, false⟩
def KNB_VERSION_MAJOR : Fld := ⟨0x4, 15, 8, .ro, 0x1, false⟩
def KNB_VERSION_MINOR : Fld := ⟨0x4, 7, 0, .ro, 0x0, false⟩
def KNB_BODY_BASE : Fld := ⟨0x8, 31, 0, .ro, 0x20100000, false⟩
def KNB_LEN_LEN : Fld := ⟨0xC, 19, 0, .ro, 0x0, false⟩
def KNB_GEN_GEN : Fld := ⟨0x10, 31, 0, .ro, 0x1, false⟩
def KNB_CRC_CRC : Fld := ⟨0x14, 31, 0, .ro, 0x0, false⟩
def mapKNB_0 : List RegRow := [
  ⟨0x0, 0x0, 1, 1, [KNB_MAGIC_MAGIC]⟩,
  ⟨0x4, 0x0, 1, 1, [KNB_VERSION_MAJOR, KNB_VERSION_MINOR]⟩,
  ⟨0x8, 0x0, 1, 1, [KNB_BODY_BASE]⟩,
  ⟨0xC, 0x0, 1, 1, [KNB_LEN_LEN]⟩,
  ⟨0x10, 0x0, 1, 1, [KNB_GEN_GEN]⟩,
  ⟨0x14, 0x0, 1, 1, [KNB_CRC_CRC]⟩]
def mapKNB : List RegRow := mapKNB_0

/-! ### HDR -/
def HDR_ID_BVER : Fld := ⟨0x0, 31, 24, .ro, 0x1, false⟩
def HDR_ID_MNEM : Fld := ⟨0x0, 23, 0, .ro, 0x0, false⟩
def HDR_CTRL_BOUND : Fld := ⟨0x4, 2, 2, .ro, 0x0, false⟩
def HDR_CTRL_QUIESCED : Fld := ⟨0x4, 1, 1, .ro, 0x1, false⟩
def HDR_CTRL_EN : Fld := ⟨0x4, 0, 0, .rw, 0x0, false⟩
def HDR_CFGERR_SEQ : Fld := ⟨0x8, 31, 24, .seq, 0x0, false⟩
def HDR_CFGERR_LEVEL : Fld := ⟨0x8, 17, 16, .ro, 0x0, false⟩
def HDR_CFGERR_OFFSET : Fld := ⟨0x8, 15, 3, .ro, 0x0, false⟩
def HDR_CFGERR_BOUND_REJ : Fld := ⟨0x8, 2, 2, .seq, 0x0, false⟩
def HDR_CFGERR_OVF : Fld := ⟨0x8, 1, 1, .seq, 0x0, false⟩
def HDR_CFGERR_RWD_REJ : Fld := ⟨0x8, 0, 0, .seq, 0x0, false⟩
def HDR_CFGERR_E : EvtReg := ⟨0x8, 0x7, 0x2⟩
def HDR_SNAP_SNAP : Fld := ⟨0xC, 0, 0, .w1p, 0x0, false⟩
def HDR_SNAPNO_SNAPNO : Fld := ⟨0x10, 15, 0, .ro, 0x0, false⟩
def HDR_TMRERR_SEQ : Fld := ⟨0x14, 31, 24, .seq, 0x0, false⟩
def HDR_TMRERR_OFFSET : Fld := ⟨0x14, 15, 2, .ro, 0x0, false⟩
def HDR_TMRERR_OVF : Fld := ⟨0x14, 1, 1, .seq, 0x0, false⟩
def HDR_TMRERR_MISMATCH : Fld := ⟨0x14, 0, 0, .seq, 0x0, false⟩
def HDR_TMRERR_E : EvtReg := ⟨0x14, 0x3, 0x2⟩
def HDR_IND_ADDR_AINC : Fld := ⟨0x18, 31, 31, .rw, 0x1, false⟩
def HDR_IND_ADDR_ADDR : Fld := ⟨0x18, 23, 2, .rw, 0x0, false⟩
def HDR_IND_DATA_DATA : Fld := ⟨0x1C, 31, 0, .rw, 0x0, false⟩
def HDR_IND_STAT_SEQ : Fld := ⟨0x20, 31, 24, .seq, 0x0, false⟩
def HDR_IND_STAT_TIMEOUT : Fld := ⟨0x20, 1, 1, .seq, 0x0, false⟩
def HDR_IND_STAT_UNMAPPED : Fld := ⟨0x20, 0, 0, .seq, 0x0, false⟩
def HDR_IND_STAT_E : EvtReg := ⟨0x20, 0x3, 0x0⟩
def mapHDR_0 : List RegRow := [
  ⟨0x0, 0x0, 1, 1, [HDR_ID_BVER, HDR_ID_MNEM]⟩,
  ⟨0x4, 0x0, 1, 1, [HDR_CTRL_BOUND, HDR_CTRL_QUIESCED, HDR_CTRL_EN]⟩,
  ⟨0x8, 0x0, 1, 1, [HDR_CFGERR_SEQ, HDR_CFGERR_LEVEL, HDR_CFGERR_OFFSET, HDR_CFGERR_BOUND_REJ, HDR_CFGERR_OVF, HDR_CFGERR_RWD_REJ]⟩,
  ⟨0xC, 0x0, 1, 1, [HDR_SNAP_SNAP]⟩,
  ⟨0x10, 0x0, 1, 1, [HDR_SNAPNO_SNAPNO]⟩,
  ⟨0x14, 0x0, 1, 1, [HDR_TMRERR_SEQ, HDR_TMRERR_OFFSET, HDR_TMRERR_OVF, HDR_TMRERR_MISMATCH]⟩,
  ⟨0x18, 0x0, 1, 1, [HDR_IND_ADDR_AINC, HDR_IND_ADDR_ADDR]⟩,
  ⟨0x1C, 0x0, 1, 1, [HDR_IND_DATA_DATA]⟩,
  ⟨0x20, 0x0, 1, 1, [HDR_IND_STAT_SEQ, HDR_IND_STAT_TIMEOUT, HDR_IND_STAT_UNMAPPED]⟩]
def mapHDR : List RegRow := mapHDR_0

/-! ### PRT -/
def PRT_COMMIT_COMMIT : Fld := ⟨0x40, 0, 0, .w1p, 0x0, false⟩
def PRT_GEN_GEN : Fld := ⟨0x44, 31, 0, .ro, 0x0, false⟩
def PRT_CSTAT_SEQ : Fld := ⟨0x48, 31, 24, .seq, 0x0, false⟩
def PRT_CSTAT_LOCKOUT : Fld := ⟨0x48, 1, 1, .seq, 0x0, false⟩
def PRT_CSTAT_DIRTY : Fld := ⟨0x48, 0, 0, .ro, 0x0, false⟩
def PRT_CSTAT_E : EvtReg := ⟨0x48, 0x2, 0x0⟩
def PRT_VIOL_SEQ : Fld := ⟨0x4C, 31, 24, .seq, 0x0, false⟩
def PRT_VIOL_VIOL : Fld := ⟨0x4C, 23, 23, .seq, 0x0, false⟩
def PRT_VIOL_OVF : Fld := ⟨0x4C, 22, 22, .seq, 0x0, false⟩
def PRT_VIOL_DIR : Fld := ⟨0x4C, 21, 21, .ro, 0x0, false⟩
def PRT_VIOL_LEVEL : Fld := ⟨0x4C, 20, 19, .ro, 0x0, false⟩
def PRT_VIOL_PORT : Fld := ⟨0x4C, 18, 16, .ro, 0x0, false⟩
def PRT_VIOL_RID : Fld := ⟨0x4C, 15, 0, .ro, 0x0, false⟩
def PRT_VIOL_E : EvtReg := ⟨0x4C, 0xC00000, 0x400000⟩
def PRT_VIOL_ADDR_ADDR : Fld := ⟨0x50, 29, 2, .ro, 0x0, false⟩
def PRT_PORT_DEF_LEVEL : Fld := ⟨0x80, 1, 0, .rw, 0x0, false⟩
def PRT_POLICY_RD_MIN : Fld := ⟨0x100, 5, 4, .rw, 0x1, true⟩
def PRT_POLICY_WR_MIN : Fld := ⟨0x100, 1, 0, .rw, 0x1, true⟩
def PRT_REQ_MATCH_VALID : Fld := ⟨0x200, 31, 31, .rw, 0x0, false⟩
def PRT_REQ_MATCH_PORT : Fld := ⟨0x200, 18, 16, .rw, 0x0, false⟩
def PRT_REQ_MATCH_RID : Fld := ⟨0x200, 15, 0, .rw, 0x0, false⟩
def PRT_REQ_MASK_RID_MASK : Fld := ⟨0x204, 15, 0, .rw, 0xFFFF, false⟩
def PRT_REQ_LEVEL_CONS_COUNT : Fld := ⟨0x208, 28, 16, .rw, 0x0, false⟩
def PRT_REQ_LEVEL_LEVEL : Fld := ⟨0x208, 13, 12, .rw, 0x3, false⟩
def PRT_REQ_LEVEL_CONS_BASE : Fld := ⟨0x208, 11, 0, .rw, 0x0, false⟩
def mapPRT_0 : List RegRow := [
  ⟨0x40, 0x0, 1, 1, [PRT_COMMIT_COMMIT]⟩,
  ⟨0x44, 0x0, 1, 1, [PRT_GEN_GEN]⟩,
  ⟨0x48, 0x0, 1, 1, [PRT_CSTAT_SEQ, PRT_CSTAT_LOCKOUT, PRT_CSTAT_DIRTY]⟩,
  ⟨0x4C, 0x0, 1, 1, [PRT_VIOL_SEQ, PRT_VIOL_VIOL, PRT_VIOL_OVF, PRT_VIOL_DIR, PRT_VIOL_LEVEL, PRT_VIOL_PORT, PRT_VIOL_RID]⟩,
  ⟨0x50, 0x0, 1, 1, [PRT_VIOL_ADDR_ADDR]⟩,
  ⟨0x80, 0x4, 8, 1, [PRT_PORT_DEF_LEVEL]⟩,
  ⟨0x100, 0x4, 22, 1, [PRT_POLICY_RD_MIN, PRT_POLICY_WR_MIN]⟩,
  ⟨0x15C, 0x0, 1, 1, [PRT_POLICY_RD_MIN, PRT_POLICY_WR_MIN]⟩,
  ⟨0x200, 0x10, 64, 1, [PRT_REQ_MATCH_VALID, PRT_REQ_MATCH_PORT, PRT_REQ_MATCH_RID]⟩,
  ⟨0x204, 0x10, 64, 1, [PRT_REQ_MASK_RID_MASK]⟩,
  ⟨0x208, 0x10, 64, 1, [PRT_REQ_LEVEL_CONS_COUNT, PRT_REQ_LEVEL_LEVEL, PRT_REQ_LEVEL_CONS_BASE]⟩]
def mapPRT : List RegRow := mapPRT_0

/-! ### MBX -/
def MBX_DOORBELL_RING : Fld := ⟨0x40, 15, 0, .w1p, 0x0, false⟩
def MBX_RELEASE_REL : Fld := ⟨0x44, 15, 0, .w1p, 0x0, false⟩
def MBX_DONE_DONE : Fld := ⟨0x48, 15, 0, .ro, 0x0, false⟩
def MBX_DONE_EV_SEQ : Fld := ⟨0x4C, 31, 24, .seq, 0x0, false⟩
def MBX_DONE_EV_DONE : Fld := ⟨0x4C, 0, 0, .seq, 0x0, false⟩
def MBX_DONE_EV_E : EvtReg := ⟨0x4C, 0x1, 0x0⟩
def MBX_ERR_SEQ : Fld := ⟨0x50, 31, 24, .seq, 0x0, false⟩
def MBX_ERR_SLOT : Fld := ⟨0x50, 19, 16, .ro, 0x0, false⟩
def MBX_ERR_OVF : Fld := ⟨0x50, 3, 3, .seq, 0x0, false⟩
def MBX_ERR_WRITE_LOCKED : Fld := ⟨0x50, 2, 2, .seq, 0x0, false⟩
def MBX_ERR_REL_EARLY : Fld := ⟨0x50, 1, 1, .seq, 0x0, false⟩
def MBX_ERR_RING_BUSY : Fld := ⟨0x50, 0, 0, .seq, 0x0, false⟩
def MBX_ERR_E : EvtReg := ⟨0x50, 0xF, 0x8⟩
def MBX_LEVEL_LEVEL : Fld := ⟨0x54, 1, 0, .ro, 0x0, true⟩
def MBX_LEADER_EPOCH : Fld := ⟨0x58, 31, 8, .ro, 0x0, false⟩
def MBX_LEADER_STATE : Fld := ⟨0x58, 5, 4, .ro, 0x0, false⟩
def MBX_LEADER_DIE : Fld := ⟨0x58, 2, 0, .ro, 0x0, false⟩
def MBX_IRQ_EN : Fld := ⟨0x5C, 31, 31, .rw, 0x0, false⟩
def MBX_IRQ_VECTOR : Fld := ⟨0x5C, 10, 0, .rw, 0x0, false⟩
def MBX_COMPLETED_COUNT : Fld := ⟨0x60, 31, 0, .ro, 0x0, false⟩
def MBX_SLOT_STAT_TAG : Fld := ⟨0x100, 31, 16, .ro, 0x0, false⟩
def MBX_SLOT_STAT_LEVEL : Fld := ⟨0x100, 5, 4, .ro, 0x0, false⟩
def MBX_SLOT_STAT_STATE : Fld := ⟨0x100, 2, 0, .ro, 0x0, false⟩
def mapMBX_0 : List RegRow := [
  ⟨0x40, 0x0, 1, 1, [MBX_DOORBELL_RING]⟩,
  ⟨0x44, 0x0, 1, 1, [MBX_RELEASE_REL]⟩,
  ⟨0x48, 0x0, 1, 1, [MBX_DONE_DONE]⟩,
  ⟨0x4C, 0x0, 1, 1, [MBX_DONE_EV_SEQ, MBX_DONE_EV_DONE]⟩,
  ⟨0x50, 0x0, 1, 1, [MBX_ERR_SEQ, MBX_ERR_SLOT, MBX_ERR_OVF, MBX_ERR_WRITE_LOCKED, MBX_ERR_REL_EARLY, MBX_ERR_RING_BUSY]⟩,
  ⟨0x54, 0x0, 1, 1, [MBX_LEVEL_LEVEL]⟩,
  ⟨0x58, 0x0, 1, 1, [MBX_LEADER_EPOCH, MBX_LEADER_STATE, MBX_LEADER_DIE]⟩,
  ⟨0x5C, 0x0, 1, 1, [MBX_IRQ_EN, MBX_IRQ_VECTOR]⟩,
  ⟨0x60, 0x0, 1, 1, [MBX_COMPLETED_COUNT]⟩,
  ⟨0x100, 0x4, 16, 1, [MBX_SLOT_STAT_TAG, MBX_SLOT_STAT_LEVEL, MBX_SLOT_STAT_STATE]⟩]
def mapMBX : List RegRow := mapMBX_0

/-! ### LNQ -/
def LNQ_MODE_TXPOL : Fld := ⟨0x40, 15, 12, .rwd, 0x0, false⟩
def LNQ_MODE_RXPOL : Fld := ⟨0x40, 11, 8, .rwd, 0x0, false⟩
def LNQ_MODE_MODE : Fld := ⟨0x40, 1, 0, .rwd, 0x0, false⟩
def LNQ_LSTATE_STATE : Fld := ⟨0x44, 15, 0, .ro, 0x0, false⟩
def LNQ_LP_HEAD_LP : Fld := ⟨0x48, 12, 12, .rw, 0x0, false⟩
def LNQ_LP_TRIGDUTY : Fld := ⟨0x48, 11, 8, .ro, 0x0, false⟩
def LNQ_LP_TGT : Fld := ⟨0x48, 7, 0, .rw, 0x0, false⟩
def LNQ_EVT_SEQ : Fld := ⟨0x4C, 31, 24, .seq, 0x0, false⟩
def LNQ_EVT_LANE : Fld := ⟨0x4C, 23, 22, .ro, 0x0, false⟩
def LNQ_EVT_OVF : Fld := ⟨0x4C, 8, 8, .seq, 0x0, false⟩
def LNQ_EVT_LP_REFUSED : Fld := ⟨0x4C, 7, 7, .seq, 0x0, false⟩
def LNQ_EVT_WAKE_MERGED : Fld := ⟨0x4C, 6, 6, .seq, 0x0, false⟩
def LNQ_EVT_TX_HELD : Fld := ⟨0x4C, 5, 5, .seq, 0x0, false⟩
def LNQ_EVT_HITCH_LOST : Fld := ⟨0x4C, 4, 4, .seq, 0x0, false⟩
def LNQ_EVT_SWAP_DONE : Fld := ⟨0x4C, 3, 3, .seq, 0x0, false⟩
def LNQ_EVT_PRBS_LOSS : Fld := ⟨0x4C, 2, 2, .seq, 0x0, false⟩
def LNQ_EVT_ALIGN_LOSS : Fld := ⟨0x4C, 1, 1, .seq, 0x0, false⟩
def LNQ_EVT_CDR_LOSS : Fld := ⟨0x4C, 0, 0, .seq, 0x0, false⟩
def LNQ_EVT_E : EvtReg := ⟨0x4C, 0x1FF, 0x100⟩
def LNQ_PRBS_INJ : Fld := ⟨0x50, 19, 16, .w1p, 0x0, false⟩
def LNQ_PRBS_CHK_EN : Fld := ⟨0x50, 15, 12, .rw, 0x0, false⟩
def LNQ_PRBS_GEN_EN : Fld := ⟨0x50, 11, 8, .rw, 0x0, false⟩
def LNQ_PRBS_RXPAT : Fld := ⟨0x50, 6, 4, .rw, 0x0, false⟩
def LNQ_PRBS_TXPAT : Fld := ⟨0x50, 2, 0, .rw, 0x0, false⟩
def LNQ_LOOP_NESL : Fld := ⟨0x54, 3, 0, .rw, 0x0, false⟩
def LNQ_HOLDMAX_CLR : Fld := ⟨0x60, 31, 31, .w1p, 0x0, false⟩
def LNQ_HOLDMAX_MAX : Fld := ⟨0x60, 15, 0, .ro, 0x0, false⟩
def LNQ_HOLDCNT_COUNT : Fld := ⟨0x70, 31, 0, .ro, 0x0, false⟩
def LNQ_SPARE_POL_ARMED : Fld := ⟨0x80, 16, 16, .rw, 0x0, true⟩
def LNQ_SPARE_POL_ELIGIBLE : Fld := ⟨0x80, 15, 0, .rw, 0x0, true⟩
def LNQ_SPARE_STAT_MODE : Fld := ⟨0x90, 11, 10, .ro, 0x0, false⟩
def LNQ_SPARE_STAT_STATE : Fld := ⟨0x90, 9, 8, .ro, 0x0, false⟩
def LNQ_SPARE_STAT_LANE : Fld := ⟨0x90, 6, 0, .ro, 0x7F, false⟩
def mapLNQ_0 : List RegRow := [
  ⟨0x40, 0x0, 1, 1, [LNQ_MODE_TXPOL, LNQ_MODE_RXPOL, LNQ_MODE_MODE]⟩,
  ⟨0x44, 0x0, 1, 1, [LNQ_LSTATE_STATE]⟩,
  ⟨0x48, 0x0, 1, 1, [LNQ_LP_HEAD_LP, LNQ_LP_TRIGDUTY, LNQ_LP_TGT]⟩,
  ⟨0x4C, 0x0, 1, 1, [LNQ_EVT_SEQ, LNQ_EVT_LANE, LNQ_EVT_OVF, LNQ_EVT_LP_REFUSED, LNQ_EVT_WAKE_MERGED, LNQ_EVT_TX_HELD, LNQ_EVT_HITCH_LOST, LNQ_EVT_SWAP_DONE, LNQ_EVT_PRBS_LOSS, LNQ_EVT_ALIGN_LOSS, LNQ_EVT_CDR_LOSS]⟩,
  ⟨0x50, 0x0, 1, 1, [LNQ_PRBS_INJ, LNQ_PRBS_CHK_EN, LNQ_PRBS_GEN_EN, LNQ_PRBS_RXPAT, LNQ_PRBS_TXPAT]⟩,
  ⟨0x54, 0x0, 1, 1, [LNQ_LOOP_NESL]⟩,
  ⟨0x60, 0x4, 4, 1, [LNQ_HOLDMAX_CLR, LNQ_HOLDMAX_MAX]⟩,
  ⟨0x70, 0x4, 4, 1, [LNQ_HOLDCNT_COUNT]⟩,
  ⟨0x80, 0x4, 4, 1, [LNQ_SPARE_POL_ARMED, LNQ_SPARE_POL_ELIGIBLE]⟩,
  ⟨0x90, 0x4, 4, 1, [LNQ_SPARE_STAT_MODE, LNQ_SPARE_STAT_STATE, LNQ_SPARE_STAT_LANE]⟩]
def mapLNQ : List RegRow := mapLNQ_0

/-! ### LANEI -/
def LANE_TXEQ_PRESET : Fld := ⟨0x0, 18, 16, .rw, 0x0, false⟩
def LANE_TXEQ_POST : Fld := ⟨0x0, 15, 11, .rw, 0x0, false⟩
def LANE_TXEQ_MAIN : Fld := ⟨0x0, 10, 5, .rw, 0x3F, false⟩
def LANE_TXEQ_PRE : Fld := ⟨0x0, 4, 0, .rw, 0x0, false⟩
def LANE_RXEQ_DFE1 : Fld := ⟨0x4, 23, 16, .ro, 0x0, false⟩
def LANE_RXEQ_CTLE : Fld := ⟨0x4, 15, 8, .ro, 0x0, false⟩
def LANE_RXEQ_VGA : Fld := ⟨0x4, 7, 0, .ro, 0x0, false⟩
def LANE_ALIGN_PERIOD : Fld := ⟨0x8, 15, 0, .rw, 0x1000, false⟩
def LANE_CAL_STEPS : Fld := ⟨0xC, 31, 16, .ro, 0x0, false⟩
def LANE_CAL_LAST : Fld := ⟨0xC, 1, 0, .ro, 0x0, false⟩
def PRBS_BITS_LO_BITS : Fld := ⟨0x10, 31, 0, .ro, 0x0, false⟩
def PRBS_BITS_HI_BITS : Fld := ⟨0x14, 15, 0, .ro, 0x0, false⟩
def PRBS_ERR_LO_ERR : Fld := ⟨0x18, 31, 0, .ro, 0x0, false⟩
def PRBS_ERR_HI_ERR : Fld := ⟨0x1C, 15, 0, .ro, 0x0, false⟩
def PRBS_LOSS_LOSS : Fld := ⟨0x20, 15, 0, .ro, 0x0, false⟩
def mapLANEI_0 : List RegRow := [
  ⟨0x0, 0x0, 1, 1, [LANE_TXEQ_PRESET, LANE_TXEQ_POST, LANE_TXEQ_MAIN, LANE_TXEQ_PRE]⟩,
  ⟨0x4, 0x0, 1, 1, [LANE_RXEQ_DFE1, LANE_RXEQ_CTLE, LANE_RXEQ_VGA]⟩,
  ⟨0x8, 0x0, 1, 1, [LANE_ALIGN_PERIOD]⟩,
  ⟨0xC, 0x0, 1, 1, [LANE_CAL_STEPS, LANE_CAL_LAST]⟩,
  ⟨0x10, 0x0, 1, 1, [PRBS_BITS_LO_BITS]⟩,
  ⟨0x14, 0x0, 1, 1, [PRBS_BITS_HI_BITS]⟩,
  ⟨0x18, 0x0, 1, 1, [PRBS_ERR_LO_ERR]⟩,
  ⟨0x1C, 0x0, 1, 1, [PRBS_ERR_HI_ERR]⟩,
  ⟨0x20, 0x0, 1, 1, [PRBS_LOSS_LOSS]⟩]
def mapLANEI : List RegRow := mapLANEI_0

/-! ### STR -/
def STR_CFG_FIRST_LANE : Fld := ⟨0x40, 21, 16, .rwd, 0x0, false⟩
def STR_CFG_LANES : Fld := ⟨0x40, 11, 8, .rwd, 0x0, false⟩
def STR_CFG_AREA : Fld := ⟨0x40, 1, 1, .rwd, 0x0, false⟩
def STR_CFG_HITCH : Fld := ⟨0x40, 0, 0, .rwd, 0x0, false⟩
def STR_STREAM_VALID : Fld := ⟨0x44, 31, 31, .rwd, 0x0, false⟩
def STR_STREAM_VC : Fld := ⟨0x44, 28, 24, .rwd, 0x0, false⟩
def STR_STREAM_DT : Fld := ⟨0x44, 21, 16, .rwd, 0x0, false⟩
def STR_STREAM_WIDTH_M1 : Fld := ⟨0x44, 15, 0, .rwd, 0x0, false⟩
def STR_HEIGHT_HEIGHT : Fld := ⟨0x48, 23, 0, .rwd, 0x0, false⟩
def STR_DEADLINE_DEADLINE : Fld := ⟨0x64, 23, 0, .rw, 0x2710, false⟩
def STR_DEADMIN_DEADMIN : Fld := ⟨0x68, 23, 0, .ro, 0x5DC, false⟩
def STR_FILL_FILL : Fld := ⟨0x6C, 19, 0, .rw, 0x0, false⟩
def STR_LINK_STATE : Fld := ⟨0x70, 27, 24, .ro, 0x0, false⟩
def STR_LINK_CREDITS : Fld := ⟨0x70, 23, 16, .ro, 0x0, false⟩
def STR_LINK_LAST_CSEQ : Fld := ⟨0x70, 15, 0, .ro, 0x0, false⟩
def STR_EVT_SEQ : Fld := ⟨0x74, 31, 24, .seq, 0x0, false⟩
def STR_EVT_STREAM : Fld := ⟨0x74, 17, 16, .ro, 0x0, false⟩
def STR_EVT_DEADLINE_LIMITED : Fld := ⟨0x74, 13, 13, .seq, 0x0, false⟩
def STR_EVT_OVF : Fld := ⟨0x74, 12, 12, .seq, 0x0, false⟩
def STR_EVT_DEADLINE_RAISED : Fld := ⟨0x74, 11, 11, .seq, 0x0, false⟩
def STR_EVT_LINK_DOWN : Fld := ⟨0x74, 10, 10, .seq, 0x0, false⟩
def STR_EVT_HEAD_EVENT : Fld := ⟨0x74, 9, 9, .seq, 0x0, false⟩
def STR_EVT_FAILOVER : Fld := ⟨0x74, 8, 8, .seq, 0x0, false⟩
def STR_EVT_REPLAY : Fld := ⟨0x74, 7, 7, .seq, 0x0, false⟩
def STR_EVT_LATE : Fld := ⟨0x74, 6, 6, .seq, 0x0, false⟩
def STR_EVT_MALFORMED : Fld := ⟨0x74, 5, 5, .seq, 0x0, false⟩
def STR_EVT_HDR_UNCORR : Fld := ⟨0x74, 4, 4, .seq, 0x0, false⟩
def STR_EVT_HDR_FIXED : Fld := ⟨0x74, 3, 3, .seq, 0x0, false⟩
def STR_EVT_CRC_ERR : Fld := ⟨0x74, 2, 2, .seq, 0x0, false⟩
def STR_EVT_HITCH_MISMATCH : Fld := ⟨0x74, 1, 1, .seq, 0x0, false⟩
def STR_EVT_CW_UNCORR : Fld := ⟨0x74, 0, 0, .seq, 0x0, false⟩
def STR_EVT_E : EvtReg := ⟨0x74, 0x3FFF, 0x1000⟩
def STR_HBUF_HBUF : Fld := ⟨0x78, 31, 0, .ro, 0x0, false⟩
def STR_HID_HID : Fld := ⟨0x7C, 31, 0, .ro, 0x0, false⟩
def STR_CNT_COUNT : Fld := ⟨0x80, 31, 0, .ro, 0x0, false⟩
def STR_HEVT_CODE : Fld := ⟨0xD0, 15, 0, .ro, 0x0, false⟩
def STR_HEVT_VAL_VALUE : Fld := ⟨0xD4, 31, 0, .ro, 0x0, false⟩
def STR_DEADMAX_DEADMAX : Fld := ⟨0xD8, 23, 0, .ro, 0xFFFFFF, false⟩
def mapSTR_0 : List RegRow := [
  ⟨0x40, 0x0, 1, 1, [STR_CFG_FIRST_LANE, STR_CFG_LANES, STR_CFG_AREA, STR_CFG_HITCH]⟩,
  ⟨0x44, 0x8, 4, 1, [STR_STREAM_VALID, STR_STREAM_VC, STR_STREAM_DT, STR_STREAM_WIDTH_M1]⟩,
  ⟨0x48, 0x8, 4, 1, [STR_HEIGHT_HEIGHT]⟩,
  ⟨0x64, 0x0, 1, 1, [STR_DEADLINE_DEADLINE]⟩,
  ⟨0x68, 0x0, 1, 1, [STR_DEADMIN_DEADMIN]⟩,
  ⟨0x6C, 0x0, 1, 1, [STR_FILL_FILL]⟩,
  ⟨0x70, 0x0, 1, 1, [STR_LINK_STATE, STR_LINK_CREDITS, STR_LINK_LAST_CSEQ]⟩,
  ⟨0x74, 0x0, 1, 1, [STR_EVT_SEQ, STR_EVT_STREAM, STR_EVT_DEADLINE_LIMITED, STR_EVT_OVF, STR_EVT_DEADLINE_RAISED, STR_EVT_LINK_DOWN, STR_EVT_HEAD_EVENT, STR_EVT_FAILOVER, STR_EVT_REPLAY, STR_EVT_LATE, STR_EVT_MALFORMED, STR_EVT_HDR_UNCORR, STR_EVT_HDR_FIXED, STR_EVT_CRC_ERR, STR_EVT_HITCH_MISMATCH, STR_EVT_CW_UNCORR]⟩,
  ⟨0x78, 0x0, 1, 1, [STR_HBUF_HBUF]⟩,
  ⟨0x7C, 0x0, 1, 1, [STR_HID_HID]⟩,
  ⟨0x80, 0x4, 20, 1, [STR_CNT_COUNT]⟩,
  ⟨0xD0, 0x0, 1, 1, [STR_HEVT_CODE]⟩,
  ⟨0xD4, 0x0, 1, 1, [STR_HEVT_VAL_VALUE]⟩,
  ⟨0xD8, 0x0, 1, 1, [STR_DEADMAX_DEADMAX]⟩]
def mapSTR : List RegRow := mapSTR_0

/-! ### WEB -/
def WEB_ENC_CFG_FILT : Fld := ⟨0x100, 31, 24, .rwd, 0x0, false⟩
def WEB_ENC_CFG_DIRINV : Fld := ⟨0x100, 16, 16, .rwd, 0x0, false⟩
def WEB_ENC_CFG_MODE : Fld := ⟨0x100, 2, 0, .rwd, 0x0, false⟩
def WEB_STALL_STALL : Fld := ⟨0x104, 23, 0, .rw, 0x2710, false⟩
def WEB_LOAD_LO_INT_LO : Fld := ⟨0x108, 31, 16, .rw, 0x0, false⟩
def WEB_LOAD_HI_INT_HI : Fld := ⟨0x10C, 31, 0, .rw, 0x0, false⟩
def WEB_LOAD_CTRL_AT : Fld := ⟨0x110, 1, 1, .rw, 0x0, false⟩
def WEB_LOAD_CTRL_GO : Fld := ⟨0x110, 0, 0, .w1p, 0x0, false⟩
def WEB_EVT_SEQ : Fld := ⟨0x114, 31, 24, .seq, 0x0, false⟩
def WEB_EVT_OVF : Fld := ⟨0x114, 5, 5, .seq, 0x0, false⟩
def WEB_EVT_LOADED : Fld := ⟨0x114, 4, 4, .seq, 0x0, false⟩
def WEB_EVT_OVERRATE : Fld := ⟨0x114, 3, 3, .seq, 0x0, false⟩
def WEB_EVT_ILLEGAL : Fld := ⟨0x114, 2, 2, .seq, 0x0, false⟩
def WEB_EVT_STALL : Fld := ⟨0x114, 1, 1, .seq, 0x0, false⟩
def WEB_EVT_REVERSAL : Fld := ⟨0x114, 0, 0, .seq, 0x0, false⟩
def WEB_EVT_E : EvtReg := ⟨0x114, 0x3F, 0x20⟩
def WEB_POS_LO_POS : Fld := ⟨0x118, 31, 0, .ro, 0x0, false⟩
def WEB_POS_HI_POS : Fld := ⟨0x11C, 31, 0, .ro, 0x0, false⟩
def WEB_PERIOD_T : Fld := ⟨0x120, 31, 0, .ro, 0x0, false⟩
def WEB_STATE_DIR : Fld := ⟨0x124, 2, 2, .ro, 0x0, false⟩
def WEB_STATE_HIST : Fld := ⟨0x124, 1, 0, .ro, 0x0, false⟩
def WEB_EDGES_COUNT : Fld := ⟨0x128, 31, 0, .ro, 0x0, false⟩
def WEB_REV_COUNT : Fld := ⟨0x12C, 31, 0, .ro, 0x0, false⟩
def mapWEB_0 : List RegRow := [
  ⟨0x100, 0x40, 4, 1, [WEB_ENC_CFG_FILT, WEB_ENC_CFG_DIRINV, WEB_ENC_CFG_MODE]⟩,
  ⟨0x104, 0x40, 4, 1, [WEB_STALL_STALL]⟩,
  ⟨0x108, 0x40, 4, 1, [WEB_LOAD_LO_INT_LO]⟩,
  ⟨0x10C, 0x40, 4, 1, [WEB_LOAD_HI_INT_HI]⟩,
  ⟨0x110, 0x40, 4, 1, [WEB_LOAD_CTRL_AT, WEB_LOAD_CTRL_GO]⟩,
  ⟨0x114, 0x40, 4, 1, [WEB_EVT_SEQ, WEB_EVT_OVF, WEB_EVT_LOADED, WEB_EVT_OVERRATE, WEB_EVT_ILLEGAL, WEB_EVT_STALL, WEB_EVT_REVERSAL]⟩,
  ⟨0x118, 0x40, 4, 1, [WEB_POS_LO_POS]⟩,
  ⟨0x11C, 0x40, 4, 1, [WEB_POS_HI_POS]⟩,
  ⟨0x120, 0x40, 4, 1, [WEB_PERIOD_T]⟩,
  ⟨0x124, 0x40, 4, 1, [WEB_STATE_DIR, WEB_STATE_HIST]⟩,
  ⟨0x128, 0x40, 4, 1, [WEB_EDGES_COUNT]⟩,
  ⟨0x12C, 0x40, 4, 1, [WEB_REV_COUNT]⟩]
def mapWEB : List RegRow := mapWEB_0

/-! ### TRG -/
def TRG_GEN_CFG_ALIGN : Fld := ⟨0x100, 31, 31, .rwd, 0x0, false⟩
def TRG_GEN_CFG_REV : Fld := ⟨0x100, 27, 26, .rwd, 0x0, false⟩
def TRG_GEN_CFG_KIND : Fld := ⟨0x100, 25, 24, .rwd, 0x0, false⟩
def TRG_GEN_CFG_SRC : Fld := ⟨0x100, 21, 16, .rwd, 0x3F, false⟩
def TRG_GEN_FU_FU_LINES : Fld := ⟨0x104, 23, 0, .rwd, 0x1000, false⟩
def TRG_GEN_PITCH_PITCH : Fld := ⟨0x108, 31, 0, .rw, 0x10000, false⟩
def TRG_GEN_REM_REM : Fld := ⟨0x10C, 31, 16, .rw, 0x0, false⟩
def TRG_GEN_REM_DEN : Fld := ⟨0x10C, 15, 0, .rw, 0x0, false⟩
def TRG_GEN_TPER_LO_FRAC : Fld := ⟨0x110, 31, 0, .rw, 0x0, false⟩
def TRG_GEN_TPER_HI_NS : Fld := ⟨0x114, 31, 0, .rw, 0x0, false⟩
def TRG_GEN_START_LO_START : Fld := ⟨0x118, 31, 0, .rwd, 0x0, false⟩
def TRG_GEN_START_HI_START : Fld := ⟨0x11C, 31, 0, .rwd, 0x0, false⟩
def TRG_GEN_MINGAP_MINGAP : Fld := ⟨0x120, 23, 0, .rwd, 0x5C, false⟩
def TRG_GEN_CTRL_RUN : Fld := ⟨0x124, 1, 1, .ro, 0x0, false⟩
def TRG_GEN_CTRL_ARM : Fld := ⟨0x124, 0, 0, .w1p, 0x0, false⟩
def TRG_GEN_FRAME_FRAME : Fld := ⟨0x128, 31, 0, .ro, 0x0, false⟩
def TRG_GEN_LINE_LINE : Fld := ⟨0x12C, 23, 0, .ro, 0x0, false⟩
def TRG_GEN_NEXT_LO_NEXT : Fld := ⟨0x130, 31, 0, .ro, 0x0, false⟩
def TRG_GEN_NEXT_HI_NEXT : Fld := ⟨0x134, 31, 0, .ro, 0x0, false⟩
def TRG_GEN_COUNT_COUNT : Fld := ⟨0x138, 31, 0, .ro, 0x0, false⟩
def TRG_GEN_PAPPLY_FRAME : Fld := ⟨0x13C, 31, 0, .ro, 0x0, false⟩
def TRG_EVT_SEQ : Fld := ⟨0x40, 31, 24, .seq, 0x0, false⟩
def TRG_EVT_GEN : Fld := ⟨0x40, 18, 16, .ro, 0x0, false⟩
def TRG_EVT_OVF : Fld := ⟨0x40, 4, 4, .seq, 0x0, false⟩
def TRG_EVT_COARSE : Fld := ⟨0x40, 3, 3, .seq, 0x0, false⟩
def TRG_EVT_PITCH_APPLIED : Fld := ⟨0x40, 2, 2, .seq, 0x0, false⟩
def TRG_EVT_OVERLAP : Fld := ⟨0x40, 1, 1, .seq, 0x0, false⟩
def TRG_EVT_OVERSPEED : Fld := ⟨0x40, 0, 0, .seq, 0x0, false⟩
def TRG_EVT_E : EvtReg := ⟨0x40, 0x1F, 0x10⟩
def TRG_OUT_CFG_EN : Fld := ⟨0x400, 31, 31, .rw, 0x0, false⟩
def TRG_OUT_CFG_POL : Fld := ⟨0x400, 30, 30, .rw, 0x0, false⟩
def TRG_OUT_CFG_GEN : Fld := ⟨0x400, 5, 0, .rw, 0x0, false⟩
def TRG_OUT_DELAY_DELAY : Fld := ⟨0x404, 19, 0, .rw, 0x0, false⟩
def TRG_OUT_WIDTH_WIDTH : Fld := ⟨0x408, 19, 0, .rw, 0x8, false⟩
def TRG_CHAN_VALID : Fld := ⟨0x600, 31, 31, .rwd, 0x0, false⟩
def TRG_CHAN_GEN : Fld := ⟨0x600, 5, 0, .rwd, 0x0, false⟩
def mapTRG_0 : List RegRow := [
  ⟨0x100, 0x40, 8, 1, [TRG_GEN_CFG_ALIGN, TRG_GEN_CFG_REV, TRG_GEN_CFG_KIND, TRG_GEN_CFG_SRC]⟩,
  ⟨0x104, 0x40, 8, 1, [TRG_GEN_FU_FU_LINES]⟩,
  ⟨0x108, 0x40, 8, 1, [TRG_GEN_PITCH_PITCH]⟩,
  ⟨0x10C, 0x40, 8, 1, [TRG_GEN_REM_REM, TRG_GEN_REM_DEN]⟩,
  ⟨0x110, 0x40, 8, 1, [TRG_GEN_TPER_LO_FRAC]⟩,
  ⟨0x114, 0x40, 8, 1, [TRG_GEN_TPER_HI_NS]⟩,
  ⟨0x118, 0x40, 8, 1, [TRG_GEN_START_LO_START]⟩,
  ⟨0x11C, 0x40, 8, 1, [TRG_GEN_START_HI_START]⟩,
  ⟨0x120, 0x40, 8, 1, [TRG_GEN_MINGAP_MINGAP]⟩,
  ⟨0x124, 0x40, 8, 1, [TRG_GEN_CTRL_RUN, TRG_GEN_CTRL_ARM]⟩,
  ⟨0x128, 0x40, 8, 1, [TRG_GEN_FRAME_FRAME]⟩,
  ⟨0x12C, 0x40, 8, 1, [TRG_GEN_LINE_LINE]⟩,
  ⟨0x130, 0x40, 8, 1, [TRG_GEN_NEXT_LO_NEXT]⟩,
  ⟨0x134, 0x40, 8, 1, [TRG_GEN_NEXT_HI_NEXT]⟩,
  ⟨0x138, 0x40, 8, 1, [TRG_GEN_COUNT_COUNT]⟩,
  ⟨0x13C, 0x40, 8, 1, [TRG_GEN_PAPPLY_FRAME]⟩,
  ⟨0x40, 0x0, 1, 1, [TRG_EVT_SEQ, TRG_EVT_GEN, TRG_EVT_OVF, TRG_EVT_COARSE, TRG_EVT_PITCH_APPLIED, TRG_EVT_OVERLAP, TRG_EVT_OVERSPEED]⟩,
  ⟨0x400, 0x10, 16, 1, [TRG_OUT_CFG_EN, TRG_OUT_CFG_POL, TRG_OUT_CFG_GEN]⟩,
  ⟨0x404, 0x10, 16, 1, [TRG_OUT_DELAY_DELAY]⟩,
  ⟨0x408, 0x10, 16, 1, [TRG_OUT_WIDTH_WIDTH]⟩]
def mapTRG_1 : List RegRow := [
  ⟨0x600, 0x4, 24, 1, [TRG_CHAN_VALID, TRG_CHAN_GEN]⟩]
def mapTRG : List RegRow := mapTRG_0 ++ mapTRG_1

end Sys2Proof.Machine.R
end

