-- ==== Sys2Proof/Machine/RegsB.lean ====
section
/-!
DEFINITION. The register maps of the COR, DMS, STA, SPL, CSM, HLD, PCI and DMA blocks (the maps of chapters 08 to 13 and the HLD indirect registers of chapter 16).
One constant per field, named REGISTER_FIELD as the spec writes it, with its offset at index 0, its bits, its access type (R36), its reset value and its
TMR attribute; REGISTER_E is the sequence-clearing register (R39) of that name; mapBLOCK lists the registers of a block.
-/
namespace Sys2Proof.Machine.R
open Sys2Proof.Machine

/-! ### COR -/
def COR_SLICE_LOGICAL : Fld := ⟨0x40, 10, 8, .ro, 0x0, false⟩
def COR_SLICE_ROLE : Fld := ⟨0x40, 1, 0, .ro, 0x0, false⟩
def COR_EVT_SEQ : Fld := ⟨0x44, 31, 24, .seq, 0x0, false⟩
def COR_EVT_CTX : Fld := ⟨0x44, 19, 16, .ro, 0x0, false⟩
def COR_EVT_OVF : Fld := ⟨0x44, 6, 6, .seq, 0x0, false⟩
def COR_EVT_APPLIED : Fld := ⟨0x44, 5, 5, .seq, 0x0, false⟩
def COR_EVT_TAKEOVER_DONE : Fld := ⟨0x44, 4, 4, .seq, 0x0, false⟩
def COR_EVT_STATIC_UNREP : Fld := ⟨0x44, 3, 3, .seq, 0x0, false⟩
def COR_EVT_RING_UNCORR : Fld := ⟨0x44, 2, 2, .seq, 0x0, false⟩
def COR_EVT_TBL_UNCORR : Fld := ⟨0x44, 1, 1, .seq, 0x0, false⟩
def COR_EVT_SLICE_CHECK : Fld := ⟨0x44, 0, 0, .seq, 0x0, false⟩
def COR_EVT_E : EvtReg := ⟨0x44, 0x7F, 0x40⟩
def COR_TAKEOVER_TIME_TIME : Fld := ⟨0x48, 15, 0, .ro, 0x0, false⟩
def COR_CNT_COUNT : Fld := ⟨0x80, 31, 0, .ro, 0x0, false⟩
def COR_CTX_CFG_VALID : Fld := ⟨0x100, 31, 31, .rwd, 0x0, true⟩
def COR_CTX_CFG_LCHAN : Fld := ⟨0x100, 28, 24, .rwd, 0x0, true⟩
def COR_CTX_CFG_BITS : Fld := ⟨0x100, 20, 16, .rwd, 0x0, true⟩
def COR_CTX_CFG_CFA : Fld := ⟨0x100, 14, 12, .rwd, 0x0, true⟩
def COR_CTX_CFG_GAINMODE : Fld := ⟨0x100, 11, 10, .rwd, 0x0, true⟩
def COR_CTX_CFG_DD_EN : Fld := ⟨0x100, 9, 9, .rwd, 0x0, true⟩
def COR_CTX_CFG_SD_EN : Fld := ⟨0x100, 8, 8, .rwd, 0x0, true⟩
def COR_CTX_CFG_COL_EN : Fld := ⟨0x100, 7, 7, .rwd, 0x0, true⟩
def COR_CTX_CFG_TRK_EN : Fld := ⟨0x100, 6, 6, .rwd, 0x0, true⟩
def COR_CTX_CFG_TRK_SHIFT : Fld := ⟨0x100, 3, 0, .rwd, 0x0, true⟩
def COR_CTX_WIDTH_WIDTH_M1 : Fld := ⟨0x104, 15, 0, .rwd, 0x0, true⟩
def COR_CTX_OB_OB_FIRST : Fld := ⟨0x108, 30, 16, .rwd, 0x0, true⟩
def COR_CTX_OB_OB_LOG2 : Fld := ⟨0x108, 3, 0, .rwd, 0x0, true⟩
def COR_CTX_PED_P : Fld := ⟨0x10C, 19, 0, .rwd, 0x0, true⟩
def COR_CTX_SEEDB_SEED_B : Fld := ⟨0x110, 19, 0, .rwd, 0x0, true⟩
def COR_CTX_DD_K : Fld := ⟨0x114, 31, 24, .rwd, 0x40, true⟩
def COR_CTX_DD_DD_SHIFT : Fld := ⟨0x114, 23, 20, .rwd, 0x4, true⟩
def COR_CTX_DD_TMIN : Fld := ⟨0x114, 19, 0, .rwd, 0x100, true⟩
def COR_CTX_SEEDN_SEED_N : Fld := ⟨0x118, 19, 0, .rwd, 0x0, true⟩
def COR_CTX_RECIPW_RECIPW : Fld := ⟨0x11C, 31, 0, .rwd, 0x0, true⟩
def COR_CTX_INV_INVY : Fld := ⟨0x120, 31, 16, .rwd, 0x0, true⟩
def COR_CTX_INV_INVX : Fld := ⟨0x120, 15, 0, .rwd, 0x0, true⟩
def COR_CTX_TBL0_GAIN_BASE : Fld := ⟨0x124, 26, 16, .rwd, 0x0, true⟩
def COR_CTX_TBL0_COL_BASE : Fld := ⟨0x124, 10, 0, .rwd, 0x0, true⟩
def COR_CTX_TBL1_NDEF : Fld := ⟨0x128, 28, 16, .rwd, 0x0, true⟩
def COR_CTX_TBL1_DEF_BASE : Fld := ⟨0x128, 10, 0, .rwd, 0x0, true⟩
def COR_CTX_B_B : Fld := ⟨0x12C, 31, 0, .ro, 0x0, false⟩
def COR_CTX_N_N : Fld := ⟨0x130, 23, 0, .ro, 0x0, false⟩
def COR_CTX_APPLIED_FRAME : Fld := ⟨0x134, 31, 0, .ro, 0x0, false⟩
def COR_CTX_CKPT_LINE : Fld := ⟨0x138, 23, 0, .ro, 0x0, false⟩
def COR_CTX_LOGN_LOGN : Fld := ⟨0x13C, 12, 0, .ro, 0x0, false⟩
def mapCOR_0 : List RegRow := [
  ⟨0x40, 0x0, 1, 1, [COR_SLICE_LOGICAL, COR_SLICE_ROLE]⟩,
  ⟨0x44, 0x0, 1, 1, [COR_EVT_SEQ, COR_EVT_CTX, COR_EVT_OVF, COR_EVT_APPLIED, COR_EVT_TAKEOVER_DONE, COR_EVT_STATIC_UNREP, COR_EVT_RING_UNCORR, COR_EVT_TBL_UNCORR, COR_EVT_SLICE_CHECK]⟩,
  ⟨0x48, 0x0, 1, 1, [COR_TAKEOVER_TIME_TIME]⟩,
  ⟨0x80, 0x4, 10, 1, [COR_CNT_COUNT]⟩,
  ⟨0x100, 0x40, 12, 1, [COR_CTX_CFG_VALID, COR_CTX_CFG_LCHAN, COR_CTX_CFG_BITS, COR_CTX_CFG_CFA, COR_CTX_CFG_GAINMODE, COR_CTX_CFG_DD_EN, COR_CTX_CFG_SD_EN, COR_CTX_CFG_COL_EN, COR_CTX_CFG_TRK_EN, COR_CTX_CFG_TRK_SHIFT]⟩,
  ⟨0x104, 0x40, 12, 1, [COR_CTX_WIDTH_WIDTH_M1]⟩,
  ⟨0x108, 0x40, 12, 1, [COR_CTX_OB_OB_FIRST, COR_CTX_OB_OB_LOG2]⟩,
  ⟨0x10C, 0x40, 12, 1, [COR_CTX_PED_P]⟩,
  ⟨0x110, 0x40, 12, 1, [COR_CTX_SEEDB_SEED_B]⟩,
  ⟨0x114, 0x40, 12, 1, [COR_CTX_DD_K, COR_CTX_DD_DD_SHIFT, COR_CTX_DD_TMIN]⟩,
  ⟨0x118, 0x40, 12, 1, [COR_CTX_SEEDN_SEED_N]⟩,
  ⟨0x11C, 0x40, 12, 1, [COR_CTX_RECIPW_RECIPW]⟩,
  ⟨0x120, 0x40, 12, 1, [COR_CTX_INV_INVY, COR_CTX_INV_INVX]⟩,
  ⟨0x124, 0x40, 12, 1, [COR_CTX_TBL0_GAIN_BASE, COR_CTX_TBL0_COL_BASE]⟩,
  ⟨0x128, 0x40, 12, 1, [COR_CTX_TBL1_NDEF, COR_CTX_TBL1_DEF_BASE]⟩,
  ⟨0x12C, 0x40, 12, 1, [COR_CTX_B_B]⟩,
  ⟨0x130, 0x40, 12, 1, [COR_CTX_N_N]⟩,
  ⟨0x134, 0x40, 12, 1, [COR_CTX_APPLIED_FRAME]⟩,
  ⟨0x138, 0x40, 12, 1, [COR_CTX_CKPT_LINE]⟩,
  ⟨0x13C, 0x40, 12, 1, [COR_CTX_LOGN_LOGN]⟩]
def mapCOR : List RegRow := mapCOR_0

/-! ### DMS -/
def DMS_EVT_SEQ : Fld := ⟨0x40, 31, 24, .seq, 0x0, false⟩
def DMS_EVT_CTX : Fld := ⟨0x40, 19, 16, .ro, 0x0, false⟩
def DMS_EVT_OVF : Fld := ⟨0x40, 2, 2, .seq, 0x0, false⟩
def DMS_EVT_STORE_UNCORR : Fld := ⟨0x40, 1, 1, .seq, 0x0, false⟩
def DMS_EVT_ALIGN_CLAMP : Fld := ⟨0x40, 0, 0, .seq, 0x0, false⟩
def DMS_EVT_E : EvtReg := ⟨0x40, 0x7, 0x4⟩
def DMS_STORE_USED : Fld := ⟨0x44, 10, 0, .ro, 0x0, false⟩
def DMS_CNT_COUNT : Fld := ⟨0x80, 31, 0, .ro, 0x0, false⟩
def DMS_CTX_CFG_SEG2 : Fld := ⟨0x100, 23, 22, .rwd, 0x0, true⟩
def DMS_CTX_CFG_SEG1 : Fld := ⟨0x100, 21, 20, .rwd, 0x0, true⟩
def DMS_CTX_CFG_SEG0 : Fld := ⟨0x100, 19, 18, .rwd, 0x0, true⟩
def DMS_CTX_CFG_REF : Fld := ⟨0x100, 17, 16, .rwd, 0x0, true⟩
def DMS_CTX_CFG_TAPS : Fld := ⟨0x100, 12, 8, .rwd, 0x0, true⟩
def DMS_CTX_CFG_INTERP : Fld := ⟨0x100, 2, 2, .rwd, 0x0, true⟩
def DMS_CTX_CFG_MODE : Fld := ⟨0x100, 1, 0, .rwd, 0x0, true⟩
def DMS_CTX_EDGE_EDGE_T : Fld := ⟨0x104, 19, 0, .rwd, 0x1000, true⟩
def DMS_CTX_OFF_OFF : Fld := ⟨0x108, 31, 0, .rwd, 0x0, true⟩
def DMS_CTX_DELAY_STORE_BASE : Fld := ⟨0x114, 25, 16, .rwd, 0x0, true⟩
def DMS_CTX_DELAY_D : Fld := ⟨0x114, 6, 0, .rwd, 0x0, true⟩
def DMS_CTX_CLAMPS_COUNT : Fld := ⟨0x118, 31, 0, .ro, 0x0, false⟩
def mapDMS_0 : List RegRow := [
  ⟨0x40, 0x0, 1, 1, [DMS_EVT_SEQ, DMS_EVT_CTX, DMS_EVT_OVF, DMS_EVT_STORE_UNCORR, DMS_EVT_ALIGN_CLAMP]⟩,
  ⟨0x44, 0x0, 1, 1, [DMS_STORE_USED]⟩,
  ⟨0x80, 0x4, 8, 1, [DMS_CNT_COUNT]⟩,
  ⟨0x100, 0x40, 12, 1, [DMS_CTX_CFG_SEG2, DMS_CTX_CFG_SEG1, DMS_CTX_CFG_SEG0, DMS_CTX_CFG_REF, DMS_CTX_CFG_TAPS, DMS_CTX_CFG_INTERP, DMS_CTX_CFG_MODE]⟩,
  ⟨0x104, 0x40, 12, 1, [DMS_CTX_EDGE_EDGE_T]⟩,
  ⟨0x108, 0x40, 12, 3, [DMS_CTX_OFF_OFF]⟩,
  ⟨0x114, 0x40, 12, 1, [DMS_CTX_DELAY_STORE_BASE, DMS_CTX_DELAY_D]⟩,
  ⟨0x118, 0x40, 12, 1, [DMS_CTX_CLAMPS_COUNT]⟩]
def mapDMS : List RegRow := mapDMS_0

/-! ### STA -/
def STA_EVT_SEQ : Fld := ⟨0x40, 31, 24, .seq, 0x0, false⟩
def STA_EVT_CHAN : Fld := ⟨0x40, 20, 16, .ro, 0x0, false⟩
def STA_EVT_OVF : Fld := ⟨0x40, 4, 4, .seq, 0x0, false⟩
def STA_EVT_APPLIED : Fld := ⟨0x40, 3, 3, .seq, 0x0, false⟩
def STA_EVT_SAT : Fld := ⟨0x40, 2, 2, .seq, 0x0, false⟩
def STA_EVT_BANK_UNCORR : Fld := ⟨0x40, 1, 1, .seq, 0x0, false⟩
def STA_EVT_QUEUE_FULL : Fld := ⟨0x40, 0, 0, .seq, 0x0, false⟩
def STA_EVT_E : EvtReg := ⟨0x40, 0x1F, 0x10⟩
def STA_QMAX_CLR : Fld := ⟨0x44, 31, 31, .w1p, 0x0, false⟩
def STA_QMAX_MAX : Fld := ⟨0x44, 3, 0, .ro, 0x0, false⟩
def STA_ROUND_ROUND : Fld := ⟨0x48, 15, 0, .ro, 0x0, false⟩
def STA_CNT_COUNT : Fld := ⟨0x80, 31, 0, .ro, 0x0, false⟩
def STA_CTX_CFG_VALID : Fld := ⟨0x100, 31, 31, .rwd, 0x0, true⟩
def STA_CTX_CFG_HIST_SHIFT : Fld := ⟨0x100, 27, 24, .rwd, 0xC, true⟩
def STA_CTX_CFG_ZY : Fld := ⟨0x100, 22, 16, .rwd, 0x1, true⟩
def STA_CTX_CFG_ZX : Fld := ⟨0x100, 14, 8, .rwd, 0x1, true⟩
def STA_CTX_CFG_PLANES : Fld := ⟨0x100, 1, 0, .ro, 0x0, false⟩
def STA_CTX_COLS_C1 : Fld := ⟨0x104, 31, 16, .rwd, 0x0, true⟩
def STA_CTX_COLS_C0 : Fld := ⟨0x104, 15, 0, .rwd, 0x0, true⟩
def STA_CTX_CLIPLO_CLIP_LO : Fld := ⟨0x108, 19, 0, .rwd, 0x0, true⟩
def STA_CTX_CLIPHI_CLIP_HI : Fld := ⟨0x10C, 19, 0, .rwd, 0xFFFFF, true⟩
def STA_CTX_ZINVX_ZINVX : Fld := ⟨0x110, 31, 0, .rwd, 0x0, true⟩
def STA_CTX_ZINVY_ZINVY : Fld := ⟨0x114, 31, 0, .rwd, 0x0, true⟩
def STA_CTX_APPLIED_FRAME : Fld := ⟨0x118, 31, 0, .ro, 0x0, false⟩
def STA_CTX_QUEUE_OCC : Fld := ⟨0x11C, 3, 0, .ro, 0x0, false⟩
def mapSTA_0 : List RegRow := [
  ⟨0x40, 0x0, 1, 1, [STA_EVT_SEQ, STA_EVT_CHAN, STA_EVT_OVF, STA_EVT_APPLIED, STA_EVT_SAT, STA_EVT_BANK_UNCORR, STA_EVT_QUEUE_FULL]⟩,
  ⟨0x44, 0x0, 1, 1, [STA_QMAX_CLR, STA_QMAX_MAX]⟩,
  ⟨0x48, 0x0, 1, 1, [STA_ROUND_ROUND]⟩,
  ⟨0x80, 0x4, 5, 1, [STA_CNT_COUNT]⟩,
  ⟨0x100, 0x20, 24, 1, [STA_CTX_CFG_VALID, STA_CTX_CFG_HIST_SHIFT, STA_CTX_CFG_ZY, STA_CTX_CFG_ZX, STA_CTX_CFG_PLANES]⟩,
  ⟨0x104, 0x20, 24, 1, [STA_CTX_COLS_C1, STA_CTX_COLS_C0]⟩,
  ⟨0x108, 0x20, 24, 1, [STA_CTX_CLIPLO_CLIP_LO]⟩,
  ⟨0x10C, 0x20, 24, 1, [STA_CTX_CLIPHI_CLIP_HI]⟩,
  ⟨0x110, 0x20, 24, 1, [STA_CTX_ZINVX_ZINVX]⟩,
  ⟨0x114, 0x20, 24, 1, [STA_CTX_ZINVY_ZINVY]⟩,
  ⟨0x118, 0x20, 24, 1, [STA_CTX_APPLIED_FRAME]⟩,
  ⟨0x11C, 0x20, 24, 1, [STA_CTX_QUEUE_OCC]⟩]
def mapSTA : List RegRow := mapSTA_0

/-! ### SPL -/
def SPL_EVT_SEQ : Fld := ⟨0x40, 31, 24, .seq, 0x0, false⟩
def SPL_EVT_GROUP : Fld := ⟨0x40, 21, 16, .ro, 0x0, false⟩
def SPL_EVT_OVF : Fld := ⟨0x40, 6, 6, .seq, 0x0, false⟩
def SPL_EVT_APPLIED : Fld := ⟨0x40, 5, 5, .seq, 0x0, false⟩
def SPL_EVT_DEADLINE_RAISED : Fld := ⟨0x40, 4, 4, .seq, 0x0, false⟩
def SPL_EVT_LATE_PART : Fld := ⟨0x40, 3, 3, .seq, 0x0, false⟩
def SPL_EVT_HANDOFF_CRC : Fld := ⟨0x40, 2, 2, .seq, 0x0, false⟩
def SPL_EVT_LAYER_ABSENT : Fld := ⟨0x40, 1, 1, .seq, 0x0, false⟩
def SPL_EVT_HALF_FILLED : Fld := ⟨0x40, 0, 0, .seq, 0x0, false⟩
def SPL_EVT_E : EvtReg := ⟨0x40, 0x7F, 0x40⟩
def SPL_RESERVE_UNITS : Fld := ⟨0x44, 15, 0, .ro, 0x0, false⟩
def SPL_CNT_COUNT : Fld := ⟨0x80, 31, 0, .ro, 0x0, false⟩
def SPL_GRP_CFG_VALID : Fld := ⟨0x100, 31, 31, .rwd, 0x0, true⟩
def SPL_GRP_CFG_KIND : Fld := ⟨0x100, 30, 30, .rwd, 0x0, true⟩
def SPL_GRP_CFG_PAT : Fld := ⟨0x100, 29, 29, .rwd, 0x1, true⟩
def SPL_GRP_CFG_LAYERS_M1 : Fld := ⟨0x100, 25, 24, .rwd, 0x0, true⟩
def SPL_GRP_CFG_PLANES : Fld := ⟨0x100, 23, 22, .ro, 0x0, false⟩
def SPL_GRP_CFG_GEN : Fld := ⟨0x100, 21, 16, .rwd, 0x0, true⟩
def SPL_GRP_CFG_LA : Fld := ⟨0x100, 10, 8, .ro, 0x0, false⟩
def SPL_GRP_CFG_MEMBERS_M1 : Fld := ⟨0x100, 7, 0, .rwd, 0x0, true⟩
def SPL_GRP_WIDTH_WIDTH_M1 : Fld := ⟨0x104, 19, 0, .rwd, 0x0, true⟩
def SPL_GRP_HEIGHT_HEIGHT_M1 : Fld := ⟨0x108, 15, 0, .rwd, 0x0, true⟩
def SPL_GRP_DEADLINE_DEADLINE : Fld := ⟨0x10C, 23, 0, .rw, 0x2710, false⟩
def SPL_GRP_DEADMIN_DEADMIN : Fld := ⟨0x110, 23, 0, .ro, 0x0, false⟩
def SPL_GRP_WAIT_WAIT : Fld := ⟨0x114, 23, 0, .rw, 0x3E8, false⟩
def SPL_GRP_FILL_FILL : Fld := ⟨0x118, 19, 0, .rw, 0x0, false⟩
def SPL_GRP_ABSA_ABS_A : Fld := ⟨0x11C, 19, 0, .rw, 0xFFFFF, false⟩
def SPL_GRP_ABSB_ABS_B : Fld := ⟨0x120, 19, 0, .rw, 0x0, false⟩
def SPL_GRP_FRAME_FRAME : Fld := ⟨0x124, 31, 0, .ro, 0x0, false⟩
def SPL_GRP_LINE_LINE : Fld := ⟨0x128, 23, 0, .ro, 0x0, false⟩
def SPL_GRP_APPLIED_FRAME : Fld := ⟨0x12C, 31, 0, .ro, 0x0, false⟩
def SPL_GRP_OPEN_OPEN : Fld := ⟨0x130, 1, 0, .ro, 0x0, false⟩
def SPL_MEM_CFG_VALID : Fld := ⟨0x400, 31, 31, .rwd, 0x0, true⟩
def SPL_MEM_CFG_GROUP : Fld := ⟨0x400, 29, 24, .rwd, 0x0, true⟩
def SPL_MEM_CFG_INDEX : Fld := ⟨0x400, 23, 16, .rwd, 0x0, true⟩
def SPL_MEM_CFG_LAYER : Fld := ⟨0x400, 15, 14, .rwd, 0x0, true⟩
def SPL_MEM_CFG_DS : Fld := ⟨0x400, 7, 4, .rwd, 0x0, true⟩
def SPL_MEM_X0_X0 : Fld := ⟨0x404, 31, 0, .rwd, 0x0, true⟩
def SPL_MEM_OFFY_OFFY : Fld := ⟨0x408, 31, 0, .rwd, 0x0, true⟩
def SPL_MEM_Y0_Y0 : Fld := ⟨0x40C, 15, 0, .rwd, 0x0, true⟩
def SPL_MEM_RA_RA : Fld := ⟨0x410, 19, 0, .rwd, 0x0, true⟩
def SPL_MEM_RN_RN : Fld := ⟨0x414, 12, 0, .rwd, 0x0, true⟩
def SPL_MEM_BINV_BINV : Fld := ⟨0x418, 24, 0, .rwd, 0x0, true⟩
def SPL_MEM_OWNX_X1 : Fld := ⟨0x41C, 31, 16, .rwd, 0x0, true⟩
def SPL_MEM_OWNX_X0 : Fld := ⟨0x41C, 15, 0, .rwd, 0x0, true⟩
def SPL_MEM_OWNY_Y1 : Fld := ⟨0x420, 31, 16, .rwd, 0x0, true⟩
def SPL_MEM_OWNY_Y0 : Fld := ⟨0x420, 15, 0, .rwd, 0x0, true⟩
def SPL_MEM_CLAMPS_COUNT : Fld := ⟨0x424, 31, 0, .ro, 0x0, false⟩
def SPL_MEM_BUBBLES_COUNT : Fld := ⟨0x428, 31, 0, .ro, 0x0, false⟩
def mapSPL_0 : List RegRow := [
  ⟨0x40, 0x0, 1, 1, [SPL_EVT_SEQ, SPL_EVT_GROUP, SPL_EVT_OVF, SPL_EVT_APPLIED, SPL_EVT_DEADLINE_RAISED, SPL_EVT_LATE_PART, SPL_EVT_HANDOFF_CRC, SPL_EVT_LAYER_ABSENT, SPL_EVT_HALF_FILLED]⟩,
  ⟨0x44, 0x0, 1, 1, [SPL_RESERVE_UNITS]⟩,
  ⟨0x80, 0x4, 9, 1, [SPL_CNT_COUNT]⟩,
  ⟨0x100, 0x40, 8, 1, [SPL_GRP_CFG_VALID, SPL_GRP_CFG_KIND, SPL_GRP_CFG_PAT, SPL_GRP_CFG_LAYERS_M1, SPL_GRP_CFG_PLANES, SPL_GRP_CFG_GEN, SPL_GRP_CFG_LA, SPL_GRP_CFG_MEMBERS_M1]⟩,
  ⟨0x104, 0x40, 8, 1, [SPL_GRP_WIDTH_WIDTH_M1]⟩,
  ⟨0x108, 0x40, 8, 1, [SPL_GRP_HEIGHT_HEIGHT_M1]⟩,
  ⟨0x10C, 0x40, 8, 1, [SPL_GRP_DEADLINE_DEADLINE]⟩,
  ⟨0x110, 0x40, 8, 1, [SPL_GRP_DEADMIN_DEADMIN]⟩,
  ⟨0x114, 0x40, 8, 1, [SPL_GRP_WAIT_WAIT]⟩,
  ⟨0x118, 0x40, 8, 1, [SPL_GRP_FILL_FILL]⟩,
  ⟨0x11C, 0x40, 8, 1, [SPL_GRP_ABSA_ABS_A]⟩,
  ⟨0x120, 0x40, 8, 1, [SPL_GRP_ABSB_ABS_B]⟩,
  ⟨0x124, 0x40, 8, 1, [SPL_GRP_FRAME_FRAME]⟩,
  ⟨0x128, 0x40, 8, 1, [SPL_GRP_LINE_LINE]⟩,
  ⟨0x12C, 0x40, 8, 1, [SPL_GRP_APPLIED_FRAME]⟩,
  ⟨0x130, 0x40, 8, 1, [SPL_GRP_OPEN_OPEN]⟩,
  ⟨0x400, 0x40, 24, 1, [SPL_MEM_CFG_VALID, SPL_MEM_CFG_GROUP, SPL_MEM_CFG_INDEX, SPL_MEM_CFG_LAYER, SPL_MEM_CFG_DS]⟩,
  ⟨0x404, 0x40, 24, 1, [SPL_MEM_X0_X0]⟩,
  ⟨0x408, 0x40, 24, 1, [SPL_MEM_OFFY_OFFY]⟩,
  ⟨0x40C, 0x40, 24, 1, [SPL_MEM_Y0_Y0]⟩]
def mapSPL_1 : List RegRow := [
  ⟨0x410, 0x40, 24, 1, [SPL_MEM_RA_RA]⟩,
  ⟨0x414, 0x40, 24, 1, [SPL_MEM_RN_RN]⟩,
  ⟨0x418, 0x40, 24, 1, [SPL_MEM_BINV_BINV]⟩,
  ⟨0x41C, 0x40, 24, 1, [SPL_MEM_OWNX_X1, SPL_MEM_OWNX_X0]⟩,
  ⟨0x420, 0x40, 24, 1, [SPL_MEM_OWNY_Y1, SPL_MEM_OWNY_Y0]⟩,
  ⟨0x424, 0x40, 24, 1, [SPL_MEM_CLAMPS_COUNT]⟩,
  ⟨0x428, 0x40, 24, 1, [SPL_MEM_BUBBLES_COUNT]⟩]
def mapSPL : List RegRow := mapSPL_0 ++ mapSPL_1

/-! ### CSM -/
def CSM_SEL_CONS : Fld := ⟨0x40, 11, 0, .rw, 0x0, false⟩
def CSM_ACK_SEQ : Fld := ⟨0x44, 31, 12, .rw, 0x0, false⟩
def CSM_ACK_CONS : Fld := ⟨0x44, 11, 0, .rw, 0x0, false⟩
def CSM_EVT_SEQ : Fld := ⟨0x48, 31, 24, .seq, 0x0, false⟩
def CSM_EVT_CONS : Fld := ⟨0x48, 23, 12, .ro, 0x0, false⟩
def CSM_EVT_OVF : Fld := ⟨0x48, 4, 4, .seq, 0x0, false⟩
def CSM_EVT_FREED : Fld := ⟨0x48, 3, 3, .seq, 0x0, false⟩
def CSM_EVT_EXPIRED : Fld := ⟨0x48, 2, 2, .seq, 0x0, false⟩
def CSM_EVT_REISSUE : Fld := ⟨0x48, 1, 1, .seq, 0x0, false⟩
def CSM_EVT_ACK_AHEAD : Fld := ⟨0x48, 0, 0, .seq, 0x0, false⟩
def CSM_EVT_E : EvtReg := ⟨0x48, 0x1F, 0x10⟩
def CSM_CNT_COUNT : Fld := ⟨0x80, 31, 0, .ro, 0x0, false⟩
def mapCSM_0 : List RegRow := [
  ⟨0x40, 0x0, 1, 1, [CSM_SEL_CONS]⟩,
  ⟨0x44, 0x0, 1, 1, [CSM_ACK_SEQ, CSM_ACK_CONS]⟩,
  ⟨0x48, 0x0, 1, 1, [CSM_EVT_SEQ, CSM_EVT_CONS, CSM_EVT_OVF, CSM_EVT_FREED, CSM_EVT_EXPIRED, CSM_EVT_REISSUE, CSM_EVT_ACK_AHEAD]⟩,
  ⟨0x80, 0x4, 7, 1, [CSM_CNT_COUNT]⟩]
def mapCSM : List RegRow := mapCSM_0

/-! ### CTX -/
def CSM_CTX_CFG_VALID : Fld := ⟨0x100, 31, 31, .ro, 0x0, false⟩
def CSM_CTX_CFG_STATE : Fld := ⟨0x100, 30, 28, .ro, 0x0, false⟩
def CSM_CTX_CFG_SRC_KIND : Fld := ⟨0x100, 27, 24, .ro, 0x0, false⟩
def CSM_CTX_CFG_FORMAT : Fld := ⟨0x100, 23, 16, .ro, 0x0, false⟩
def CSM_CTX_CFG_PATH : Fld := ⟨0x100, 15, 14, .ro, 0x0, false⟩
def CSM_CTX_CFG_PRIO : Fld := ⟨0x100, 10, 8, .rw, 0x4, false⟩
def CSM_CTX_CFG_XMODE : Fld := ⟨0x100, 0, 0, .ro, 0x0, false⟩
def CSM_CTX_SRC_LSTEP_M1 : Fld := ⟨0x104, 31, 24, .ro, 0x0, false⟩
def CSM_CTX_SRC_LAYERS : Fld := ⟨0x104, 23, 20, .ro, 0x0, false⟩
def CSM_CTX_SRC_SRC_ID : Fld := ⟨0x104, 15, 0, .ro, 0x0, false⟩
def CSM_CTX_U0_U0 : Fld := ⟨0x108, 19, 0, .ro, 0x0, false⟩
def CSM_CTX_U1_U1 : Fld := ⟨0x10C, 19, 0, .ro, 0x0, false⟩
def CSM_CTX_V_V1 : Fld := ⟨0x110, 31, 16, .ro, 0x0, false⟩
def CSM_CTX_V_V0 : Fld := ⟨0x110, 15, 0, .ro, 0x0, false⟩
def CSM_CTX_XLO_LO_XLO : Fld := ⟨0x114, 31, 0, .ro, 0x0, false⟩
def CSM_CTX_XLO_HI_XLO : Fld := ⟨0x118, 31, 0, .ro, 0x0, false⟩
def CSM_CTX_XHI_LO_XHI : Fld := ⟨0x11C, 31, 0, .ro, 0x0, false⟩
def CSM_CTX_XHI_HI_XHI : Fld := ⟨0x120, 31, 0, .ro, 0x0, false⟩
def CSM_CTX_PATHID_PATH_ID : Fld := ⟨0x124, 23, 0, .ro, 0x0, false⟩
def CSM_CTX_HOLD_HOLD : Fld := ⟨0x128, 23, 0, .ro, 0x0, false⟩
def CSM_CTX_WIN_BURST : Fld := ⟨0x12C, 19, 16, .ro, 0x4, false⟩
def CSM_CTX_WIN_WINDOW : Fld := ⟨0x12C, 12, 0, .ro, 0x0, false⟩
def CSM_CTX_NEXT_SEQ : Fld := ⟨0x130, 31, 12, .ro, 0x0, false⟩
def CSM_CTX_ACKED_SEQ : Fld := ⟨0x134, 31, 12, .ro, 0xFFFFF, false⟩
def CSM_CTX_ACKED_CONS : Fld := ⟨0x134, 11, 0, .ro, 0x0, false⟩
def CSM_CTX_DONE_SEQ : Fld := ⟨0x138, 31, 12, .ro, 0xFFFFF, false⟩
def CSM_CTX_SHARE_FIRST : Fld := ⟨0x13C, 27, 16, .ro, 0x0, false⟩
def CSM_CTX_SHARE_MEMBERS : Fld := ⟨0x13C, 4, 0, .ro, 0x0, false⟩
def CSM_CTX_RING_BASE : Fld := ⟨0x140, 31, 0, .ro, 0x0, false⟩
def CSM_CTX_RLEN_MIB : Fld := ⟨0x144, 31, 0, .ro, 0x0, false⟩
def CSM_CTX_EXP_COUNT : Fld := ⟨0x148, 31, 0, .ro, 0x0, false⟩
def CSM_CTX_REI_COUNT : Fld := ⟨0x14C, 31, 0, .ro, 0x0, false⟩
def mapCTX_0 : List RegRow := [
  ⟨0x100, 0x0, 1, 1, [CSM_CTX_CFG_VALID, CSM_CTX_CFG_STATE, CSM_CTX_CFG_SRC_KIND, CSM_CTX_CFG_FORMAT, CSM_CTX_CFG_PATH, CSM_CTX_CFG_PRIO, CSM_CTX_CFG_XMODE]⟩,
  ⟨0x104, 0x0, 1, 1, [CSM_CTX_SRC_LSTEP_M1, CSM_CTX_SRC_LAYERS, CSM_CTX_SRC_SRC_ID]⟩,
  ⟨0x108, 0x0, 1, 1, [CSM_CTX_U0_U0]⟩,
  ⟨0x10C, 0x0, 1, 1, [CSM_CTX_U1_U1]⟩,
  ⟨0x110, 0x0, 1, 1, [CSM_CTX_V_V1, CSM_CTX_V_V0]⟩,
  ⟨0x114, 0x0, 1, 1, [CSM_CTX_XLO_LO_XLO]⟩,
  ⟨0x118, 0x0, 1, 1, [CSM_CTX_XLO_HI_XLO]⟩,
  ⟨0x11C, 0x0, 1, 1, [CSM_CTX_XHI_LO_XHI]⟩,
  ⟨0x120, 0x0, 1, 1, [CSM_CTX_XHI_HI_XHI]⟩,
  ⟨0x124, 0x0, 1, 1, [CSM_CTX_PATHID_PATH_ID]⟩,
  ⟨0x128, 0x0, 1, 1, [CSM_CTX_HOLD_HOLD]⟩,
  ⟨0x12C, 0x0, 1, 1, [CSM_CTX_WIN_BURST, CSM_CTX_WIN_WINDOW]⟩,
  ⟨0x130, 0x0, 1, 1, [CSM_CTX_NEXT_SEQ]⟩,
  ⟨0x134, 0x0, 1, 1, [CSM_CTX_ACKED_SEQ, CSM_CTX_ACKED_CONS]⟩,
  ⟨0x138, 0x0, 1, 1, [CSM_CTX_DONE_SEQ]⟩,
  ⟨0x13C, 0x0, 1, 1, [CSM_CTX_SHARE_FIRST, CSM_CTX_SHARE_MEMBERS]⟩,
  ⟨0x140, 0x0, 1, 1, [CSM_CTX_RING_BASE]⟩,
  ⟨0x144, 0x0, 1, 1, [CSM_CTX_RLEN_MIB]⟩,
  ⟨0x148, 0x0, 1, 1, [CSM_CTX_EXP_COUNT]⟩,
  ⟨0x14C, 0x0, 1, 1, [CSM_CTX_REI_COUNT]⟩]
def mapCTX : List RegRow := mapCTX_0

/-! ### HLD -/
def HLD_CAP_MIB : Fld := ⟨0x40, 15, 0, .ro, 0xB2D0, false⟩
def HLD_ALLOC_MIB : Fld := ⟨0x44, 15, 0, .ro, 0x0, false⟩
def HLD_WRES_RATE : Fld := ⟨0x48, 15, 0, .ro, 0x0, false⟩
def HLD_TRES_RATE : Fld := ⟨0x4C, 15, 0, .ro, 0x0, false⟩
def HLD_EVT_SEQ : Fld := ⟨0x50, 31, 24, .seq, 0x0, false⟩
def HLD_EVT_OVF : Fld := ⟨0x50, 3, 3, .seq, 0x0, false⟩
def HLD_EVT_CREDIT_SHORT : Fld := ⟨0x50, 2, 2, .seq, 0x0, false⟩
def HLD_EVT_UNCORR : Fld := ⟨0x50, 1, 1, .seq, 0x0, false⟩
def HLD_EVT_ECC : Fld := ⟨0x50, 0, 0, .seq, 0x0, false⟩
def HLD_EVT_E : EvtReg := ⟨0x50, 0xF, 0x8⟩
def HLD_OPEN_COUNT : Fld := ⟨0x54, 15, 0, .ro, 0x0, false⟩
def HLD_CNT_COUNT : Fld := ⟨0x80, 31, 0, .ro, 0x0, false⟩
def mapHLD_0 : List RegRow := [
  ⟨0x40, 0x0, 1, 1, [HLD_CAP_MIB]⟩,
  ⟨0x44, 0x0, 1, 1, [HLD_ALLOC_MIB]⟩,
  ⟨0x48, 0x0, 1, 1, [HLD_WRES_RATE]⟩,
  ⟨0x4C, 0x0, 1, 1, [HLD_TRES_RATE]⟩,
  ⟨0x50, 0x0, 1, 1, [HLD_EVT_SEQ, HLD_EVT_OVF, HLD_EVT_CREDIT_SHORT, HLD_EVT_UNCORR, HLD_EVT_ECC]⟩,
  ⟨0x54, 0x0, 1, 1, [HLD_OPEN_COUNT]⟩,
  ⟨0x80, 0x4, 7, 1, [HLD_CNT_COUNT]⟩]
def mapHLD : List RegRow := mapHLD_0

/-! ### PCI -/
def PCI_LINK_DL_UP : Fld := ⟨0x40, 31, 31, .ro, 0x0, false⟩
def PCI_LINK_FLIT : Fld := ⟨0x40, 30, 30, .ro, 0x0, false⟩
def PCI_LINK_WIDTH : Fld := ⟨0x40, 20, 16, .ro, 0x0, false⟩
def PCI_LINK_SPEED : Fld := ⟨0x40, 11, 8, .ro, 0x0, false⟩
def PCI_CFG_MPS : Fld := ⟨0x44, 8, 7, .ro, 0x0, false⟩
def PCI_CFG_BME : Fld := ⟨0x44, 6, 6, .ro, 0x0, false⟩
def PCI_CFG_RO_EN : Fld := ⟨0x44, 5, 5, .ro, 0x0, false⟩
def PCI_CFG_NS_EN : Fld := ⟨0x44, 4, 4, .ro, 0x0, false⟩
def PCI_CTO_CTO : Fld := ⟨0x48, 23, 0, .ro, 0x3E8, false⟩
def PCI_EVT_SEQ : Fld := ⟨0x4C, 31, 24, .seq, 0x0, false⟩
def PCI_EVT_OVF : Fld := ⟨0x4C, 6, 6, .seq, 0x0, false⟩
def PCI_EVT_DEGRADED : Fld := ⟨0x4C, 5, 5, .seq, 0x0, false⟩
def PCI_EVT_FLR : Fld := ⟨0x4C, 4, 4, .seq, 0x0, false⟩
def PCI_EVT_BME_OFF : Fld := ⟨0x4C, 3, 3, .seq, 0x0, false⟩
def PCI_EVT_AER_UNCORR : Fld := ⟨0x4C, 2, 2, .seq, 0x0, false⟩
def PCI_EVT_AER_CORR : Fld := ⟨0x4C, 1, 1, .seq, 0x0, false⟩
def PCI_EVT_LINK_DOWN : Fld := ⟨0x4C, 0, 0, .seq, 0x0, false⟩
def PCI_EVT_E : EvtReg := ⟨0x4C, 0x7F, 0x40⟩
def PCI_CNT_COUNT : Fld := ⟨0x80, 31, 0, .ro, 0x0, false⟩
def mapPCI_0 : List RegRow := [
  ⟨0x40, 0x0, 1, 1, [PCI_LINK_DL_UP, PCI_LINK_FLIT, PCI_LINK_WIDTH, PCI_LINK_SPEED]⟩,
  ⟨0x44, 0x0, 1, 1, [PCI_CFG_MPS, PCI_CFG_BME, PCI_CFG_RO_EN, PCI_CFG_NS_EN]⟩,
  ⟨0x48, 0x0, 1, 1, [PCI_CTO_CTO]⟩,
  ⟨0x4C, 0x0, 1, 1, [PCI_EVT_SEQ, PCI_EVT_OVF, PCI_EVT_DEGRADED, PCI_EVT_FLR, PCI_EVT_BME_OFF, PCI_EVT_AER_UNCORR, PCI_EVT_AER_CORR, PCI_EVT_LINK_DOWN]⟩,
  ⟨0x80, 0x4, 8, 1, [PCI_CNT_COUNT]⟩]
def mapPCI : List RegRow := mapPCI_0

/-! ### DMA -/
def DMA_SEL_RING : Fld := ⟨0x40, 9, 0, .rw, 0x0, false⟩
def DMA_EVT_SEQ : Fld := ⟨0x44, 31, 24, .seq, 0x0, false⟩
def DMA_EVT_RING : Fld := ⟨0x44, 23, 14, .ro, 0x0, false⟩
def DMA_EVT_OVF : Fld := ⟨0x44, 6, 6, .seq, 0x0, false⟩
def DMA_EVT_TRK_WAIT : Fld := ⟨0x44, 5, 5, .seq, 0x0, false⟩
def DMA_EVT_RETRY : Fld := ⟨0x44, 4, 4, .seq, 0x0, false⟩
def DMA_EVT_BUF_SMALL : Fld := ⟨0x44, 3, 3, .seq, 0x0, false⟩
def DMA_EVT_DB_BAD : Fld := ⟨0x44, 2, 2, .seq, 0x0, false⟩
def DMA_EVT_OWN_CLEAR : Fld := ⟨0x44, 1, 1, .seq, 0x0, false⟩
def DMA_EVT_HALTED : Fld := ⟨0x44, 0, 0, .seq, 0x0, false⟩
def DMA_EVT_E : EvtReg := ⟨0x44, 0x7F, 0x40⟩
def DMA_TRK_MAX : Fld := ⟨0x48, 29, 16, .ro, 0x0, false⟩
def DMA_TRK_USED : Fld := ⟨0x48, 13, 0, .ro, 0x0, false⟩
def DMA_CNT_COUNT : Fld := ⟨0x80, 31, 0, .ro, 0x0, false⟩
def DMA_DB_PI : Fld := ⟨0x1000, 15, 0, .rw, 0x0, false⟩
def mapDMA_0 : List RegRow := [
  ⟨0x40, 0x0, 1, 1, [DMA_SEL_RING]⟩,
  ⟨0x44, 0x0, 1, 1, [DMA_EVT_SEQ, DMA_EVT_RING, DMA_EVT_OVF, DMA_EVT_TRK_WAIT, DMA_EVT_RETRY, DMA_EVT_BUF_SMALL, DMA_EVT_DB_BAD, DMA_EVT_OWN_CLEAR, DMA_EVT_HALTED]⟩,
  ⟨0x48, 0x0, 1, 1, [DMA_TRK_MAX, DMA_TRK_USED]⟩,
  ⟨0x80, 0x4, 9, 1, [DMA_CNT_COUNT]⟩,
  ⟨0x1000, 0x4, 1024, 1, [DMA_DB_PI]⟩]
def mapDMA : List RegRow := mapDMA_0

/-! ### RING -/
def DMA_RING_BASE_LO_BASE : Fld := ⟨0x100, 31, 0, .ro, 0x0, false⟩
def DMA_RING_BASE_HI_BASE : Fld := ⟨0x104, 31, 0, .ro, 0x0, false⟩
def DMA_RING_CFG_LOG2N : Fld := ⟨0x108, 31, 28, .ro, 0x0, false⟩
def DMA_RING_CFG_NS : Fld := ⟨0x108, 24, 24, .ro, 0x0, false⟩
def DMA_RING_CFG_RO : Fld := ⟨0x108, 23, 23, .ro, 0x0, false⟩
def DMA_RING_CFG_FLUSH_N_M1 : Fld := ⟨0x108, 19, 16, .ro, 0x0, false⟩
def DMA_RING_CFG_VECTOR : Fld := ⟨0x108, 10, 0, .ro, 0x0, false⟩
def DMA_RING_TIME_IRQ_N_M1 : Fld := ⟨0x10C, 31, 24, .ro, 0x0, false⟩
def DMA_RING_TIME_FLUSH_T : Fld := ⟨0x10C, 23, 16, .ro, 0xA, false⟩
def DMA_RING_TIME_IRQ_T : Fld := ⟨0x10C, 15, 0, .ro, 0xA, false⟩
def DMA_RING_IDX_CI : Fld := ⟨0x110, 31, 16, .ro, 0x0, false⟩
def DMA_RING_IDX_PI : Fld := ⟨0x110, 15, 0, .ro, 0x0, false⟩
def DMA_RING_STAT_CONS : Fld := ⟨0x114, 31, 20, .ro, 0x0, false⟩
def DMA_RING_STAT_MODE : Fld := ⟨0x114, 15, 8, .ro, 0x0, false⟩
def DMA_RING_STAT_STATE : Fld := ⟨0x114, 2, 0, .ro, 0x0, false⟩
def DMA_RING_DONE_SEQ : Fld := ⟨0x118, 31, 12, .ro, 0xFFFFF, false⟩
def DMA_RING_DONE_CONS : Fld := ⟨0x118, 11, 0, .ro, 0x0, false⟩
def DMA_RING_HALT_LO_ADDR : Fld := ⟨0x11C, 31, 0, .ro, 0x0, false⟩
def DMA_RING_HALT_HI_ADDR : Fld := ⟨0x120, 31, 0, .ro, 0x0, false⟩
def DMA_RING_HALT_INFO_SEQ : Fld := ⟨0x124, 31, 12, .ro, 0x0, false⟩
def DMA_RING_HALT_INFO_RETRIED : Fld := ⟨0x124, 11, 8, .ro, 0x0, false⟩
def DMA_RING_HALT_INFO_DIR : Fld := ⟨0x124, 4, 4, .ro, 0x0, false⟩
def DMA_RING_HALT_INFO_KIND : Fld := ⟨0x124, 3, 0, .ro, 0x0, false⟩
def DMA_RING_CTL_HALT : Fld := ⟨0x128, 1, 1, .w1p, 0x0, false⟩
def DMA_RING_CTL_RESTART : Fld := ⟨0x128, 0, 0, .w1p, 0x0, false⟩
def mapRING_0 : List RegRow := [
  ⟨0x100, 0x0, 1, 1, [DMA_RING_BASE_LO_BASE]⟩,
  ⟨0x104, 0x0, 1, 1, [DMA_RING_BASE_HI_BASE]⟩,
  ⟨0x108, 0x0, 1, 1, [DMA_RING_CFG_LOG2N, DMA_RING_CFG_NS, DMA_RING_CFG_RO, DMA_RING_CFG_FLUSH_N_M1, DMA_RING_CFG_VECTOR]⟩,
  ⟨0x10C, 0x0, 1, 1, [DMA_RING_TIME_IRQ_N_M1, DMA_RING_TIME_FLUSH_T, DMA_RING_TIME_IRQ_T]⟩,
  ⟨0x110, 0x0, 1, 1, [DMA_RING_IDX_CI, DMA_RING_IDX_PI]⟩,
  ⟨0x114, 0x0, 1, 1, [DMA_RING_STAT_CONS, DMA_RING_STAT_MODE, DMA_RING_STAT_STATE]⟩,
  ⟨0x118, 0x0, 1, 1, [DMA_RING_DONE_SEQ, DMA_RING_DONE_CONS]⟩,
  ⟨0x11C, 0x0, 1, 1, [DMA_RING_HALT_LO_ADDR]⟩,
  ⟨0x120, 0x0, 1, 1, [DMA_RING_HALT_HI_ADDR]⟩,
  ⟨0x124, 0x0, 1, 1, [DMA_RING_HALT_INFO_SEQ, DMA_RING_HALT_INFO_RETRIED, DMA_RING_HALT_INFO_DIR, DMA_RING_HALT_INFO_KIND]⟩,
  ⟨0x128, 0x0, 1, 1, [DMA_RING_CTL_HALT, DMA_RING_CTL_RESTART]⟩]
def mapRING : List RegRow := mapRING_0

/-! ### HLDI -/
def HBM_CHAN_RECON : Fld := ⟨0x0, 23, 16, .ro, 0x0, false⟩
def HBM_CHAN_HOLDS : Fld := ⟨0x0, 12, 8, .ro, 0x1F, false⟩
def HBM_CHAN_STATE : Fld := ⟨0x0, 2, 0, .ro, 0x0, false⟩
def HBM_SWEEP_ACTIVE : Fld := ⟨0x80, 31, 31, .ro, 0x0, false⟩
def HBM_SWEEP_REVERSE : Fld := ⟨0x80, 30, 30, .ro, 0x0, false⟩
def HBM_SWEEP_ROW : Fld := ⟨0x80, 25, 0, .ro, 0x0, false⟩
def HBM_SWEEP_RATE_RATE : Fld := ⟨0x84, 8, 0, .ro, 0x0, false⟩
def HBM_TEMP_LIMIT : Fld := ⟨0x88, 15, 8, .rw, 0x5F, false⟩
def HBM_TEMP_TEMP : Fld := ⟨0x88, 7, 0, .ro, 0x0, false⟩
def mapHLDI_0 : List RegRow := [
  ⟨0x0, 0x4, 17, 1, [HBM_CHAN_RECON, HBM_CHAN_HOLDS, HBM_CHAN_STATE]⟩,
  ⟨0x80, 0x0, 1, 1, [HBM_SWEEP_ACTIVE, HBM_SWEEP_REVERSE, HBM_SWEEP_ROW]⟩,
  ⟨0x84, 0x0, 1, 1, [HBM_SWEEP_RATE_RATE]⟩,
  ⟨0x88, 0x0, 1, 1, [HBM_TEMP_LIMIT, HBM_TEMP_TEMP]⟩]
def mapHLDI : List RegRow := mapHLDI_0

end Sys2Proof.Machine.R
end

