-- ==== Sys2Proof/Machine/RegsC.lean ====
section
/-!
DEFINITION. The register maps of the ETH, PTP, COL, XDF, FLT, CAN, SYS and MFP blocks (the maps of chapters 14 to 18).
One constant per field, named REGISTER_FIELD as the spec writes it, with its offset at index 0, its bits, its access type (R36), its reset value and its
TMR attribute; REGISTER_E is the sequence-clearing register (R39) of that name; mapBLOCK lists the registers of a block.
-/
namespace Sys2Proof.Machine.R
open Sys2Proof.Machine

/-! ### ETH -/
def ETH_CFG_CR : Fld := ⟨0x40, 31, 31, .rwd, 0x0, false⟩
def ETH_CFG_AN : Fld := ⟨0x40, 30, 30, .rwd, 0x0, false⟩
def ETH_CFG_RATE : Fld := ⟨0x40, 29, 28, .rwd, 0x0, false⟩
def ETH_CFG_FIRST_LANE : Fld := ⟨0x40, 21, 16, .rwd, 0x0, false⟩
def ETH_CFG_MTU : Fld := ⟨0x40, 13, 0, .rwd, 0x2328, false⟩
def ETH_ADDR_LO_ADDR : Fld := ⟨0x44, 31, 0, .rwd, 0x0, false⟩
def ETH_ADDR_HI_ADDR : Fld := ⟨0x48, 15, 0, .rwd, 0x0, false⟩
def ETH_IPV4_ADDR : Fld := ⟨0x4C, 31, 0, .rwd, 0x0, false⟩
def ETH_IPV6_ADDR : Fld := ⟨0x50, 31, 0, .rwd, 0x0, false⟩
def ETH_UDP_SPORT_BASE : Fld := ⟨0x60, 15, 0, .rwd, 0xC000, false⟩
def ETH_LINK_UP : Fld := ⟨0x64, 31, 31, .ro, 0x0, false⟩
def ETH_LINK_AN_DONE : Fld := ⟨0x64, 30, 30, .ro, 0x0, false⟩
def ETH_LINK_FEC_LOCK : Fld := ⟨0x64, 29, 29, .ro, 0x0, false⟩
def ETH_EVT_SEQ : Fld := ⟨0x68, 31, 24, .seq, 0x0, false⟩
def ETH_EVT_FLOW : Fld := ⟨0x68, 23, 16, .ro, 0x0, false⟩
def ETH_EVT_OVF : Fld := ⟨0x68, 7, 7, .seq, 0x0, false⟩
def ETH_EVT_LINK_DOWN : Fld := ⟨0x68, 6, 6, .seq, 0x0, false⟩
def ETH_EVT_NAK_RX : Fld := ⟨0x68, 5, 5, .seq, 0x0, false⟩
def ETH_EVT_RTO : Fld := ⟨0x68, 4, 4, .seq, 0x0, false⟩
def ETH_EVT_STALLED : Fld := ⟨0x68, 3, 3, .seq, 0x0, false⟩
def ETH_EVT_STATUS_BAD : Fld := ⟨0x68, 2, 2, .seq, 0x0, false⟩
def ETH_EVT_LAUNCH_LATE : Fld := ⟨0x68, 1, 1, .seq, 0x0, false⟩
def ETH_EVT_LAUNCH_DISCARD : Fld := ⟨0x68, 0, 0, .seq, 0x0, false⟩
def ETH_EVT_E : EvtReg := ⟨0x68, 0xFF, 0x80⟩
def ETH_TS_CORR_TX_CORR : Fld := ⟨0x6C, 31, 16, .ro, 0x490, false⟩
def ETH_TS_CORR_RX_CORR : Fld := ⟨0x6C, 15, 0, .ro, 0x1820, false⟩
def ETH_TS_ADJ_TX_ADJ : Fld := ⟨0x70, 31, 16, .rw, 0x0, false⟩
def ETH_TS_ADJ_RX_ADJ : Fld := ⟨0x70, 15, 0, .rw, 0x0, false⟩
def ETH_LQ_POL_DISCARD : Fld := ⟨0x74, 3, 0, .rw, 0x0, false⟩
def ETH_CNT_COUNT : Fld := ⟨0x80, 31, 0, .ro, 0x0, false⟩
def ETH_SEL_FLOW : Fld := ⟨0xC0, 7, 0, .rw, 0x0, false⟩
def ETH_TXTS_NS_TS : Fld := ⟨0xC4, 31, 0, .ro, 0x0, false⟩
def ETH_TXTS_SEC_TS : Fld := ⟨0xC8, 31, 0, .ro, 0x0, false⟩
def ETH_RXTS_NS_TS : Fld := ⟨0xCC, 31, 0, .ro, 0x0, false⟩
def ETH_RXTS_SEC_TS : Fld := ⟨0xD0, 31, 0, .ro, 0x0, false⟩
def ETH_LQ_LAST_TAG : Fld := ⟨0xD4, 31, 16, .ro, 0x0, false⟩
def ETH_LQ_LAST_OUTCOME : Fld := ⟨0xD4, 1, 0, .ro, 0x0, false⟩
def mapETH_0 : List RegRow := [
  ⟨0x40, 0x0, 1, 1, [ETH_CFG_CR, ETH_CFG_AN, ETH_CFG_RATE, ETH_CFG_FIRST_LANE, ETH_CFG_MTU]⟩,
  ⟨0x44, 0x0, 1, 1, [ETH_ADDR_LO_ADDR]⟩,
  ⟨0x48, 0x0, 1, 1, [ETH_ADDR_HI_ADDR]⟩,
  ⟨0x4C, 0x0, 1, 1, [ETH_IPV4_ADDR]⟩,
  ⟨0x50, 0x4, 4, 1, [ETH_IPV6_ADDR]⟩,
  ⟨0x60, 0x0, 1, 1, [ETH_UDP_SPORT_BASE]⟩,
  ⟨0x64, 0x0, 1, 1, [ETH_LINK_UP, ETH_LINK_AN_DONE, ETH_LINK_FEC_LOCK]⟩,
  ⟨0x68, 0x0, 1, 1, [ETH_EVT_SEQ, ETH_EVT_FLOW, ETH_EVT_OVF, ETH_EVT_LINK_DOWN, ETH_EVT_NAK_RX, ETH_EVT_RTO, ETH_EVT_STALLED, ETH_EVT_STATUS_BAD, ETH_EVT_LAUNCH_LATE, ETH_EVT_LAUNCH_DISCARD]⟩,
  ⟨0x6C, 0x0, 1, 1, [ETH_TS_CORR_TX_CORR, ETH_TS_CORR_RX_CORR]⟩,
  ⟨0x70, 0x0, 1, 1, [ETH_TS_ADJ_TX_ADJ, ETH_TS_ADJ_RX_ADJ]⟩,
  ⟨0x74, 0x0, 1, 1, [ETH_LQ_POL_DISCARD]⟩,
  ⟨0x80, 0x4, 14, 1, [ETH_CNT_COUNT]⟩,
  ⟨0xC0, 0x0, 1, 1, [ETH_SEL_FLOW]⟩,
  ⟨0xC4, 0x0, 1, 1, [ETH_TXTS_NS_TS]⟩,
  ⟨0xC8, 0x0, 1, 1, [ETH_TXTS_SEC_TS]⟩,
  ⟨0xCC, 0x0, 1, 1, [ETH_RXTS_NS_TS]⟩,
  ⟨0xD0, 0x0, 1, 1, [ETH_RXTS_SEC_TS]⟩,
  ⟨0xD4, 0x4, 4, 1, [ETH_LQ_LAST_TAG, ETH_LQ_LAST_OUTCOME]⟩]
def mapETH : List RegRow := mapETH_0

/-! ### FLOW -/
def ETH_FLOW_CFG_VALID : Fld := ⟨0x100, 31, 31, .ro, 0x0, false⟩
def ETH_FLOW_CFG_IPV6 : Fld := ⟨0x100, 30, 30, .ro, 0x0, false⟩
def ETH_FLOW_CFG_VLAN_EN : Fld := ⟨0x100, 29, 29, .ro, 0x0, false⟩
def ETH_FLOW_CFG_STATE : Fld := ⟨0x100, 14, 12, .ro, 0x0, false⟩
def ETH_FLOW_CFG_CONS : Fld := ⟨0x100, 11, 0, .ro, 0x0, false⟩
def ETH_FLOW_DMAC_LO_DMAC : Fld := ⟨0x104, 31, 0, .ro, 0x0, false⟩
def ETH_FLOW_DMAC_HI_TCI : Fld := ⟨0x108, 31, 16, .ro, 0x0, false⟩
def ETH_FLOW_DMAC_HI_DMAC : Fld := ⟨0x108, 15, 0, .ro, 0x0, false⟩
def ETH_FLOW_DIP_DIP : Fld := ⟨0x10C, 31, 0, .ro, 0x0, false⟩
def ETH_FLOW_PORT_DPORT : Fld := ⟨0x11C, 15, 0, .ro, 0x0, false⟩
def ETH_FLOW_RTO_FAILS : Fld := ⟨0x120, 31, 24, .ro, 0x0, false⟩
def ETH_FLOW_RTO_RTO : Fld := ⟨0x120, 23, 0, .ro, 0x64, false⟩
def ETH_FLOW_SESSION_SESSION : Fld := ⟨0x124, 31, 0, .ro, 0x0, false⟩
def ETH_FLOW_ATTEMPT_ATTEMPT : Fld := ⟨0x128, 31, 0, .ro, 0x0, false⟩
def mapFLOW_0 : List RegRow := [
  ⟨0x100, 0x0, 1, 1, [ETH_FLOW_CFG_VALID, ETH_FLOW_CFG_IPV6, ETH_FLOW_CFG_VLAN_EN, ETH_FLOW_CFG_STATE, ETH_FLOW_CFG_CONS]⟩,
  ⟨0x104, 0x0, 1, 1, [ETH_FLOW_DMAC_LO_DMAC]⟩,
  ⟨0x108, 0x0, 1, 1, [ETH_FLOW_DMAC_HI_TCI, ETH_FLOW_DMAC_HI_DMAC]⟩,
  ⟨0x10C, 0x4, 4, 1, [ETH_FLOW_DIP_DIP]⟩,
  ⟨0x11C, 0x0, 1, 1, [ETH_FLOW_PORT_DPORT]⟩,
  ⟨0x120, 0x0, 1, 1, [ETH_FLOW_RTO_FAILS, ETH_FLOW_RTO_RTO]⟩,
  ⟨0x124, 0x0, 1, 1, [ETH_FLOW_SESSION_SESSION]⟩,
  ⟨0x128, 0x0, 1, 1, [ETH_FLOW_ATTEMPT_ATTEMPT]⟩]
def mapFLOW : List RegRow := mapFLOW_0

/-! ### PTP -/
def PTP_CFG_SOURCE : Fld := ⟨0x40, 27, 24, .ro, 0x0, false⟩
def PTP_CFG_DOMAIN : Fld := ⟨0x40, 23, 16, .ro, 0x0, false⟩
def PTP_CFG_MAC : Fld := ⟨0x40, 11, 9, .ro, 0x0, false⟩
def PTP_CFG_DIE : Fld := ⟨0x40, 8, 6, .ro, 0x0, false⟩
def PTP_CFG_TRANSPORT : Fld := ⟨0x40, 5, 4, .ro, 0x0, false⟩
def PTP_CFG_P2P : Fld := ⟨0x40, 3, 3, .ro, 0x0, false⟩
def PTP_CFG_ONESTEP : Fld := ⟨0x40, 2, 2, .ro, 0x0, false⟩
def PTP_CFG_ROLE : Fld := ⟨0x40, 1, 0, .ro, 0x0, false⟩
def PTP_STATE_LOCKED : Fld := ⟨0x44, 31, 31, .ro, 0x0, false⟩
def PTP_STATE_PORT_STATE : Fld := ⟨0x44, 3, 0, .ro, 0x1, false⟩
def PTP_OFFSET_OFFSET : Fld := ⟨0x48, 31, 0, .ro, 0x0, false⟩
def PTP_UTC_VALID : Fld := ⟨0x4C, 31, 31, .ro, 0x0, false⟩
def PTP_UTC_LEAP61 : Fld := ⟨0x4C, 30, 30, .ro, 0x0, false⟩
def PTP_UTC_LEAP59 : Fld := ⟨0x4C, 29, 29, .ro, 0x0, false⟩
def PTP_UTC_OFFSET : Fld := ⟨0x4C, 15, 0, .ro, 0x0, false⟩
def PTP_TIME_SEC_LO_SEC : Fld := ⟨0x50, 31, 0, .ro, 0x0, false⟩
def PTP_TIME_SEC_HI_SEC : Fld := ⟨0x54, 15, 0, .ro, 0x0, false⟩
def PTP_TIME_NS_NS : Fld := ⟨0x58, 31, 0, .ro, 0x0, false⟩
def PTP_TIME_FRAC_FRAC : Fld := ⟨0x5C, 31, 0, .ro, 0x0, false⟩
def PTP_CAL_DATE_YEAR : Fld := ⟨0x60, 27, 16, .ro, 0x7B2, false⟩
def PTP_CAL_DATE_MONTH : Fld := ⟨0x60, 11, 8, .ro, 0x1, false⟩
def PTP_CAL_DATE_DAY : Fld := ⟨0x60, 4, 0, .ro, 0x1, false⟩
def PTP_CAL_TIME_HOUR : Fld := ⟨0x64, 20, 16, .ro, 0x0, false⟩
def PTP_CAL_TIME_MIN : Fld := ⟨0x64, 13, 8, .ro, 0x0, false⟩
def PTP_CAL_TIME_SEC : Fld := ⟨0x64, 5, 0, .ro, 0x0, false⟩
def PTP_EVT_SEQ : Fld := ⟨0x68, 31, 24, .seq, 0x0, false⟩
def PTP_EVT_OVF : Fld := ⟨0x68, 10, 10, .seq, 0x0, false⟩
def PTP_EVT_UNLOCKED : Fld := ⟨0x68, 9, 9, .seq, 0x0, false⟩
def PTP_EVT_STEP_DENIED : Fld := ⟨0x68, 8, 8, .seq, 0x0, false⟩
def PTP_EVT_PPS_IN : Fld := ⟨0x68, 7, 7, .seq, 0x0, false⟩
def PTP_EVT_LEAP_DONE : Fld := ⟨0x68, 6, 6, .seq, 0x0, false⟩
def PTP_EVT_CAL_RANGE : Fld := ⟨0x68, 5, 5, .seq, 0x0, false⟩
def PTP_EVT_CAL_REJECTED : Fld := ⟨0x68, 4, 4, .seq, 0x0, false⟩
def PTP_EVT_STEP_REJECTED : Fld := ⟨0x68, 3, 3, .seq, 0x0, false⟩
def PTP_EVT_INC_REJECTED : Fld := ⟨0x68, 2, 2, .seq, 0x0, false⟩
def PTP_EVT_STEPPED : Fld := ⟨0x68, 0, 0, .seq, 0x0, false⟩
def PTP_EVT_E : EvtReg := ⟨0x68, 0x7FD, 0x400⟩
def PTP_PPSIN_SEC_SEC : Fld := ⟨0x6C, 31, 0, .ro, 0x0, false⟩
def PTP_PPSIN_NS_NS : Fld := ⟨0x70, 31, 0, .ro, 0x0, false⟩
def PTP_CNT_COUNT : Fld := ⟨0x80, 31, 0, .ro, 0x0, false⟩
def mapPTP_0 : List RegRow := [
  ⟨0x40, 0x0, 1, 1, [PTP_CFG_SOURCE, PTP_CFG_DOMAIN, PTP_CFG_MAC, PTP_CFG_DIE, PTP_CFG_TRANSPORT, PTP_CFG_P2P, PTP_CFG_ONESTEP, PTP_CFG_ROLE]⟩,
  ⟨0x44, 0x0, 1, 1, [PTP_STATE_LOCKED, PTP_STATE_PORT_STATE]⟩,
  ⟨0x48, 0x0, 1, 1, [PTP_OFFSET_OFFSET]⟩,
  ⟨0x4C, 0x0, 1, 1, [PTP_UTC_VALID, PTP_UTC_LEAP61, PTP_UTC_LEAP59, PTP_UTC_OFFSET]⟩,
  ⟨0x50, 0x0, 1, 1, [PTP_TIME_SEC_LO_SEC]⟩,
  ⟨0x54, 0x0, 1, 1, [PTP_TIME_SEC_HI_SEC]⟩,
  ⟨0x58, 0x0, 1, 1, [PTP_TIME_NS_NS]⟩,
  ⟨0x5C, 0x0, 1, 1, [PTP_TIME_FRAC_FRAC]⟩,
  ⟨0x60, 0x0, 1, 1, [PTP_CAL_DATE_YEAR, PTP_CAL_DATE_MONTH, PTP_CAL_DATE_DAY]⟩,
  ⟨0x64, 0x0, 1, 1, [PTP_CAL_TIME_HOUR, PTP_CAL_TIME_MIN, PTP_CAL_TIME_SEC]⟩,
  ⟨0x68, 0x0, 1, 1, [PTP_EVT_SEQ, PTP_EVT_OVF, PTP_EVT_UNLOCKED, PTP_EVT_STEP_DENIED, PTP_EVT_PPS_IN, PTP_EVT_LEAP_DONE, PTP_EVT_CAL_RANGE, PTP_EVT_CAL_REJECTED, PTP_EVT_STEP_REJECTED, PTP_EVT_INC_REJECTED, PTP_EVT_STEPPED]⟩,
  ⟨0x6C, 0x0, 1, 1, [PTP_PPSIN_SEC_SEC]⟩,
  ⟨0x70, 0x0, 1, 1, [PTP_PPSIN_NS_NS]⟩,
  ⟨0x80, 0x4, 7, 1, [PTP_CNT_COUNT]⟩]
def mapPTP : List RegRow := mapPTP_0

/-! ### PTPI -/
def TIME_INC_LO_FRAC : Fld := ⟨0x0, 31, 0, .rw, 0x0, false⟩
def TIME_INC_HI_NS : Fld := ⟨0x4, 31, 0, .rw, 0x2, false⟩
def TIME_STEP_SEC_LO_SEC : Fld := ⟨0x8, 31, 0, .rw, 0x0, false⟩
def TIME_STEP_SEC_HI_SEC : Fld := ⟨0xC, 15, 0, .rw, 0x0, false⟩
def TIME_STEP_NS_NS : Fld := ⟨0x10, 31, 0, .rw, 0x0, false⟩
def TIME_STEP_FRAC_FRAC : Fld := ⟨0x14, 31, 0, .rw, 0x0, false⟩
def TIME_STEP_CTRL_MODE : Fld := ⟨0x18, 1, 1, .rw, 0x0, false⟩
def TIME_STEP_CTRL_GO : Fld := ⟨0x18, 0, 0, .w1p, 0x0, false⟩
def CAL_SET_DATE_YEAR : Fld := ⟨0x20, 31, 16, .rw, 0x0, false⟩
def CAL_SET_DATE_MONTH : Fld := ⟨0x20, 15, 8, .rw, 0x0, false⟩
def CAL_SET_DATE_DAY : Fld := ⟨0x20, 7, 0, .rw, 0x0, false⟩
def CAL_SET_TIME_HOUR : Fld := ⟨0x24, 23, 16, .rw, 0x0, false⟩
def CAL_SET_TIME_MIN : Fld := ⟨0x24, 15, 8, .rw, 0x0, false⟩
def CAL_SET_TIME_SEC : Fld := ⟨0x24, 7, 0, .rw, 0x0, false⟩
def CAL_CTRL_GO : Fld := ⟨0x28, 0, 0, .w1p, 0x0, false⟩
def TIME_PPS_EN : Fld := ⟨0x30, 31, 31, .rw, 0x0, false⟩
def TIME_PPS_WIDTH : Fld := ⟨0x30, 19, 0, .rw, 0x3E8, false⟩
def mapPTPI_0 : List RegRow := [
  ⟨0x0, 0x0, 1, 1, [TIME_INC_LO_FRAC]⟩,
  ⟨0x4, 0x0, 1, 1, [TIME_INC_HI_NS]⟩,
  ⟨0x8, 0x0, 1, 1, [TIME_STEP_SEC_LO_SEC]⟩,
  ⟨0xC, 0x0, 1, 1, [TIME_STEP_SEC_HI_SEC]⟩,
  ⟨0x10, 0x0, 1, 1, [TIME_STEP_NS_NS]⟩,
  ⟨0x14, 0x0, 1, 1, [TIME_STEP_FRAC_FRAC]⟩,
  ⟨0x18, 0x0, 1, 1, [TIME_STEP_CTRL_MODE, TIME_STEP_CTRL_GO]⟩,
  ⟨0x20, 0x0, 1, 1, [CAL_SET_DATE_YEAR, CAL_SET_DATE_MONTH, CAL_SET_DATE_DAY]⟩,
  ⟨0x24, 0x0, 1, 1, [CAL_SET_TIME_HOUR, CAL_SET_TIME_MIN, CAL_SET_TIME_SEC]⟩,
  ⟨0x28, 0x0, 1, 1, [CAL_CTRL_GO]⟩,
  ⟨0x30, 0x0, 1, 1, [TIME_PPS_EN, TIME_PPS_WIDTH]⟩]
def mapPTPI : List RegRow := mapPTPI_0

/-! ### COL -/
def COL_VSEL_VOL : Fld := ⟨0x40, 3, 0, .rw, 0x0, false⟩
def COL_TSEL_TGT : Fld := ⟨0x44, 7, 0, .rw, 0x0, false⟩
def COL_EVT_SEQ : Fld := ⟨0x48, 31, 24, .seq, 0x0, false⟩
def COL_EVT_VOL : Fld := ⟨0x48, 23, 20, .ro, 0x0, false⟩
def COL_EVT_TGT : Fld := ⟨0x48, 19, 12, .ro, 0x0, false⟩
def COL_EVT_OVF : Fld := ⟨0x48, 6, 6, .seq, 0x0, false⟩
def COL_EVT_STRIPE_LOST : Fld := ⟨0x48, 5, 5, .seq, 0x0, false⟩
def COL_EVT_REBUILD_DONE : Fld := ⟨0x48, 4, 4, .seq, 0x0, false⟩
def COL_EVT_DEGRADED : Fld := ⟨0x48, 3, 3, .seq, 0x0, false⟩
def COL_EVT_TGT_FAILED : Fld := ⟨0x48, 2, 2, .seq, 0x0, false⟩
def COL_EVT_SHARD_REISSUE : Fld := ⟨0x48, 1, 1, .seq, 0x0, false⟩
def COL_EVT_RETRY : Fld := ⟨0x48, 0, 0, .seq, 0x0, false⟩
def COL_EVT_E : EvtReg := ⟨0x48, 0x7F, 0x40⟩
def COL_TRK_USED : Fld := ⟨0x4C, 13, 0, .ro, 0x0, false⟩
def COL_CNT_COUNT : Fld := ⟨0x80, 31, 0, .ro, 0x0, false⟩
def mapCOL_0 : List RegRow := [
  ⟨0x40, 0x0, 1, 1, [COL_VSEL_VOL]⟩,
  ⟨0x44, 0x0, 1, 1, [COL_TSEL_TGT]⟩,
  ⟨0x48, 0x0, 1, 1, [COL_EVT_SEQ, COL_EVT_VOL, COL_EVT_TGT, COL_EVT_OVF, COL_EVT_STRIPE_LOST, COL_EVT_REBUILD_DONE, COL_EVT_DEGRADED, COL_EVT_TGT_FAILED, COL_EVT_SHARD_REISSUE, COL_EVT_RETRY]⟩,
  ⟨0x4C, 0x0, 1, 1, [COL_TRK_USED]⟩,
  ⟨0x80, 0x4, 11, 1, [COL_CNT_COUNT]⟩]
def mapCOL : List RegRow := mapCOL_0

/-! ### VOL -/
def COL_VOL_CFG_VALID : Fld := ⟨0x100, 31, 31, .ro, 0x0, false⟩
def COL_VOL_CFG_STATE : Fld := ⟨0x100, 30, 28, .ro, 0x0, false⟩
def COL_VOL_CFG_PORTS : Fld := ⟨0x100, 27, 24, .ro, 0x0, false⟩
def COL_VOL_CFG_M : Fld := ⟨0x100, 23, 21, .ro, 0x0, false⟩
def COL_VOL_CFG_K : Fld := ⟨0x100, 20, 16, .ro, 0x0, false⟩
def COL_VOL_CFG_SHIFT : Fld := ⟨0x100, 15, 12, .ro, 0x0, false⟩
def COL_VOL_CFG_CONS : Fld := ⟨0x100, 11, 0, .ro, 0x0, false⟩
def COL_VOL_BASE_LO_BASE : Fld := ⟨0x104, 31, 0, .ro, 0x0, false⟩
def COL_VOL_BASE_HI_BASE : Fld := ⟨0x108, 31, 0, .ro, 0x0, false⟩
def COL_VOL_SIZE_LO_SIZE : Fld := ⟨0x10C, 31, 0, .ro, 0x0, false⟩
def COL_VOL_SIZE_HI_SIZE : Fld := ⟨0x110, 31, 0, .ro, 0x0, false⟩
def COL_VOL_WPTR_LO_WPTR : Fld := ⟨0x114, 31, 0, .ro, 0x0, false⟩
def COL_VOL_WPTR_HI_WPTR : Fld := ⟨0x118, 31, 0, .ro, 0x0, false⟩
def COL_VOL_DPTR_LO_DPTR : Fld := ⟨0x11C, 31, 0, .ro, 0x0, false⟩
def COL_VOL_DPTR_HI_DPTR : Fld := ⟨0x120, 31, 0, .ro, 0x0, false⟩
def COL_VOL_CTO_CTO : Fld := ⟨0x124, 23, 0, .ro, 0x3E8, false⟩
def COL_VOL_DTO_DTO : Fld := ⟨0x128, 23, 0, .ro, 0x2710, false⟩
def COL_VOL_SEAL_RETRIES : Fld := ⟨0x12C, 31, 28, .ro, 0x2, false⟩
def COL_VOL_SEAL_STRIPE_T : Fld := ⟨0x12C, 23, 0, .ro, 0x64, false⟩
def COL_VOL_RBRATE_RATE : Fld := ⟨0x130, 15, 0, .ro, 0x78, false⟩
def COL_VOL_RB_ACTIVE : Fld := ⟨0x134, 31, 31, .ro, 0x0, false⟩
def COL_VOL_RB_COPY : Fld := ⟨0x134, 30, 30, .ro, 0x0, false⟩
def COL_VOL_RB_TGT : Fld := ⟨0x134, 15, 8, .ro, 0xFF, false⟩
def COL_VOL_RB_SLOT : Fld := ⟨0x134, 4, 0, .ro, 0x0, false⟩
def COL_VOL_RBPTR_LO_STRIPE : Fld := ⟨0x138, 31, 0, .ro, 0x0, false⟩
def COL_VOL_RBPTR_HI_STRIPE : Fld := ⟨0x13C, 31, 0, .ro, 0x0, false⟩
def COL_VOL_SLOT_TGT : Fld := ⟨0x140, 31, 0, .ro, 0xFFFFFFFF, false⟩
def COL_VOL_PORT_DIE : Fld := ⟨0x154, 10, 8, .ro, 0x0, false⟩
def COL_VOL_PORT_MAC : Fld := ⟨0x154, 2, 0, .ro, 0x0, false⟩
def COL_VOL_SPARE_TGT : Fld := ⟨0x174, 31, 0, .ro, 0xFFFFFFFF, false⟩
def COL_VOL_LOST_LO_ADDR : Fld := ⟨0x17C, 31, 0, .ro, 0x0, false⟩
def COL_VOL_LOST_HI_ADDR : Fld := ⟨0x180, 31, 0, .ro, 0x0, false⟩
def mapVOL_0 : List RegRow := [
  ⟨0x100, 0x0, 1, 1, [COL_VOL_CFG_VALID, COL_VOL_CFG_STATE, COL_VOL_CFG_PORTS, COL_VOL_CFG_M, COL_VOL_CFG_K, COL_VOL_CFG_SHIFT, COL_VOL_CFG_CONS]⟩,
  ⟨0x104, 0x0, 1, 1, [COL_VOL_BASE_LO_BASE]⟩,
  ⟨0x108, 0x0, 1, 1, [COL_VOL_BASE_HI_BASE]⟩,
  ⟨0x10C, 0x0, 1, 1, [COL_VOL_SIZE_LO_SIZE]⟩,
  ⟨0x110, 0x0, 1, 1, [COL_VOL_SIZE_HI_SIZE]⟩,
  ⟨0x114, 0x0, 1, 1, [COL_VOL_WPTR_LO_WPTR]⟩,
  ⟨0x118, 0x0, 1, 1, [COL_VOL_WPTR_HI_WPTR]⟩,
  ⟨0x11C, 0x0, 1, 1, [COL_VOL_DPTR_LO_DPTR]⟩,
  ⟨0x120, 0x0, 1, 1, [COL_VOL_DPTR_HI_DPTR]⟩,
  ⟨0x124, 0x0, 1, 1, [COL_VOL_CTO_CTO]⟩,
  ⟨0x128, 0x0, 1, 1, [COL_VOL_DTO_DTO]⟩,
  ⟨0x12C, 0x0, 1, 1, [COL_VOL_SEAL_RETRIES, COL_VOL_SEAL_STRIPE_T]⟩,
  ⟨0x130, 0x0, 1, 1, [COL_VOL_RBRATE_RATE]⟩,
  ⟨0x134, 0x0, 1, 1, [COL_VOL_RB_ACTIVE, COL_VOL_RB_COPY, COL_VOL_RB_TGT, COL_VOL_RB_SLOT]⟩,
  ⟨0x138, 0x0, 1, 1, [COL_VOL_RBPTR_LO_STRIPE]⟩,
  ⟨0x13C, 0x0, 1, 1, [COL_VOL_RBPTR_HI_STRIPE]⟩,
  ⟨0x140, 0x4, 5, 1, [COL_VOL_SLOT_TGT]⟩,
  ⟨0x154, 0x4, 8, 1, [COL_VOL_PORT_DIE, COL_VOL_PORT_MAC]⟩,
  ⟨0x174, 0x4, 2, 1, [COL_VOL_SPARE_TGT]⟩,
  ⟨0x17C, 0x0, 1, 1, [COL_VOL_LOST_LO_ADDR]⟩]
def mapVOL_1 : List RegRow := [
  ⟨0x180, 0x0, 1, 1, [COL_VOL_LOST_HI_ADDR]⟩]
def mapVOL : List RegRow := mapVOL_0 ++ mapVOL_1

/-! ### TGT -/
def COL_TGT_CFG_VALID : Fld := ⟨0x200, 31, 31, .ro, 0x0, false⟩
def COL_TGT_CFG_IPV6 : Fld := ⟨0x200, 30, 30, .ro, 0x0, false⟩
def COL_TGT_CFG_STATE : Fld := ⟨0x200, 29, 27, .ro, 0x0, false⟩
def COL_TGT_CFG_SLOT : Fld := ⟨0x200, 24, 20, .ro, 0x0, false⟩
def COL_TGT_CFG_VOL : Fld := ⟨0x200, 19, 16, .ro, 0x0, false⟩
def COL_TGT_CFG_DPORT : Fld := ⟨0x200, 15, 0, .ro, 0x0, false⟩
def COL_TGT_DMAC_LO_DMAC : Fld := ⟨0x204, 31, 0, .ro, 0x0, false⟩
def COL_TGT_DMAC_HI_DMAC : Fld := ⟨0x208, 31, 0, .ro, 0x0, false⟩
def COL_TGT_DIP_DIP : Fld := ⟨0x20C, 31, 0, .ro, 0x0, false⟩
def COL_TGT_SESSION_SESSION : Fld := ⟨0x21C, 31, 0, .ro, 0x0, false⟩
def COL_TGT_XID_XID : Fld := ⟨0x220, 31, 0, .ro, 0x0, false⟩
def COL_TGT_CAP_MIB : Fld := ⟨0x224, 31, 0, .ro, 0x0, false⟩
def COL_TGT_MISS_MISS : Fld := ⟨0x228, 7, 0, .ro, 0x0, false⟩
def mapTGT_0 : List RegRow := [
  ⟨0x200, 0x0, 1, 1, [COL_TGT_CFG_VALID, COL_TGT_CFG_IPV6, COL_TGT_CFG_STATE, COL_TGT_CFG_SLOT, COL_TGT_CFG_VOL, COL_TGT_CFG_DPORT]⟩,
  ⟨0x204, 0x0, 1, 1, [COL_TGT_DMAC_LO_DMAC]⟩,
  ⟨0x208, 0x0, 1, 1, [COL_TGT_DMAC_HI_DMAC]⟩,
  ⟨0x20C, 0x4, 4, 1, [COL_TGT_DIP_DIP]⟩,
  ⟨0x21C, 0x0, 1, 1, [COL_TGT_SESSION_SESSION]⟩,
  ⟨0x220, 0x0, 1, 1, [COL_TGT_XID_XID]⟩,
  ⟨0x224, 0x0, 1, 1, [COL_TGT_CAP_MIB]⟩,
  ⟨0x228, 0x0, 1, 1, [COL_TGT_MISS_MISS]⟩]
def mapTGT : List RegRow := mapTGT_0

/-! ### XDF -/
def XDF_LINK_STATE : Fld := ⟨0x40, 31, 28, .ro, 0x0, false⟩
def XDF_LINK_PEER : Fld := ⟨0x40, 23, 16, .ro, 0xFF, false⟩
def XDF_LINK_REPAIRED : Fld := ⟨0x40, 7, 4, .ro, 0x0, false⟩
def XDF_LINK_SPARE_LEFT : Fld := ⟨0x40, 3, 0, .ro, 0x0, false⟩
def XDF_EVT_SEQ : Fld := ⟨0x44, 31, 24, .seq, 0x0, false⟩
def XDF_EVT_LANE : Fld := ⟨0x44, 23, 16, .ro, 0x0, false⟩
def XDF_EVT_OVF : Fld := ⟨0x44, 4, 4, .seq, 0x0, false⟩
def XDF_EVT_LINK_LOST : Fld := ⟨0x44, 3, 3, .seq, 0x0, false⟩
def XDF_EVT_LANE_REPAIRED : Fld := ⟨0x44, 2, 2, .seq, 0x0, false⟩
def XDF_EVT_RETRY : Fld := ⟨0x44, 1, 1, .seq, 0x0, false⟩
def XDF_EVT_SB_COPY_BAD : Fld := ⟨0x44, 0, 0, .seq, 0x0, false⟩
def XDF_EVT_E : EvtReg := ⟨0x44, 0x1F, 0x10⟩
def XDF_LOAD_RATE : Fld := ⟨0x48, 15, 0, .ro, 0x0, false⟩
def XDF_CNT_COUNT : Fld := ⟨0x80, 31, 0, .ro, 0x0, false⟩
def mapXDF_0 : List RegRow := [
  ⟨0x40, 0x0, 1, 1, [XDF_LINK_STATE, XDF_LINK_PEER, XDF_LINK_REPAIRED, XDF_LINK_SPARE_LEFT]⟩,
  ⟨0x44, 0x0, 1, 1, [XDF_EVT_SEQ, XDF_EVT_LANE, XDF_EVT_OVF, XDF_EVT_LINK_LOST, XDF_EVT_LANE_REPAIRED, XDF_EVT_RETRY, XDF_EVT_SB_COPY_BAD]⟩,
  ⟨0x48, 0x0, 1, 1, [XDF_LOAD_RATE]⟩,
  ⟨0x80, 0x4, 8, 1, [XDF_CNT_COUNT]⟩]
def mapXDF : List RegRow := mapXDF_0

/-! ### FLT -/
def FLT_SEL_SRC : Fld := ⟨0x40, 31, 16, .rw, 0x0, false⟩
def FLT_SEL_INST : Fld := ⟨0x40, 11, 0, .rw, 0x0, false⟩
def FLT_EVT_SEQ : Fld := ⟨0x44, 31, 24, .seq, 0x0, false⟩
def FLT_EVT_OVF : Fld := ⟨0x44, 3, 3, .seq, 0x0, false⟩
def FLT_EVT_VALUE_REFUSED : Fld := ⟨0x44, 2, 2, .seq, 0x0, false⟩
def FLT_EVT_INJ_REFUSED : Fld := ⟨0x44, 1, 1, .seq, 0x0, false⟩
def FLT_EVT_PLIST_FULL : Fld := ⟨0x44, 0, 0, .seq, 0x0, false⟩
def FLT_EVT_E : EvtReg := ⟨0x44, 0xF, 0x8⟩
def FLT_TMR_INJ_ADDR_SLOT : Fld := ⟨0x48, 25, 16, .rw, 0x0, false⟩
def FLT_TMR_INJ_ADDR_OFFSET : Fld := ⟨0x48, 13, 2, .rw, 0x0, false⟩
def FLT_TMR_INJ_CTRL_BIT : Fld := ⟨0x4C, 12, 8, .rw, 0x0, false⟩
def FLT_TMR_INJ_CTRL_COPY : Fld := ⟨0x4C, 5, 4, .rw, 0x1, false⟩
def FLT_TMR_INJ_CTRL_GO : Fld := ⟨0x4C, 0, 0, .w1p, 0x0, false⟩
def FLT_GSUM_GROUP : Fld := ⟨0x50, 24, 0, .ro, 0x0, false⟩
def FLT_PCOUNT_HIGHEST : Fld := ⟨0x54, 10, 8, .ro, 0x0, false⟩
def FLT_PCOUNT_COUNT : Fld := ⟨0x54, 5, 0, .ro, 0x0, false⟩
def FLT_CNT_COUNT : Fld := ⟨0x80, 31, 0, .ro, 0x0, false⟩
def FLT_PLIST_VALID : Fld := ⟨0x200, 31, 31, .ro, 0x0, false⟩
def FLT_PLIST_LEVEL : Fld := ⟨0x200, 30, 28, .ro, 0x0, false⟩
def FLT_PLIST_INST : Fld := ⟨0x200, 27, 16, .ro, 0x0, false⟩
def FLT_PLIST_SRC : Fld := ⟨0x200, 15, 0, .ro, 0x0, false⟩
def mapFLT_0 : List RegRow := [
  ⟨0x40, 0x0, 1, 1, [FLT_SEL_SRC, FLT_SEL_INST]⟩,
  ⟨0x44, 0x0, 1, 1, [FLT_EVT_SEQ, FLT_EVT_OVF, FLT_EVT_VALUE_REFUSED, FLT_EVT_INJ_REFUSED, FLT_EVT_PLIST_FULL]⟩,
  ⟨0x48, 0x0, 1, 1, [FLT_TMR_INJ_ADDR_SLOT, FLT_TMR_INJ_ADDR_OFFSET]⟩,
  ⟨0x4C, 0x0, 1, 1, [FLT_TMR_INJ_CTRL_BIT, FLT_TMR_INJ_CTRL_COPY, FLT_TMR_INJ_CTRL_GO]⟩,
  ⟨0x50, 0x0, 1, 1, [FLT_GSUM_GROUP]⟩,
  ⟨0x54, 0x0, 1, 1, [FLT_PCOUNT_HIGHEST, FLT_PCOUNT_COUNT]⟩,
  ⟨0x80, 0x4, 6, 1, [FLT_CNT_COUNT]⟩,
  ⟨0x200, 0x4, 32, 1, [FLT_PLIST_VALID, FLT_PLIST_LEVEL, FLT_PLIST_INST, FLT_PLIST_SRC]⟩]
def mapFLT : List RegRow := mapFLT_0

/-! ### FLTS -/
def FLT_SRC_SEV_SEV : Fld := ⟨0x100, 2, 0, .rw, 0x0, true⟩
def FLT_SRC_ESC_ESC : Fld := ⟨0x104, 16, 0, .rw, 0x3E8, true⟩
def FLT_SRC_STAT_SEQ : Fld := ⟨0x108, 31, 24, .seq, 0x0, false⟩
def FLT_SRC_STAT_LEVEL : Fld := ⟨0x108, 23, 21, .ro, 0x0, false⟩
def FLT_SRC_STAT_ESCALATED : Fld := ⟨0x108, 20, 20, .ro, 0x0, false⟩
def FLT_SRC_STAT_PEND : Fld := ⟨0x108, 0, 0, .seq, 0x0, false⟩
def FLT_SRC_STAT_E : EvtReg := ⟨0x108, 0x1, 0x0⟩
def FLT_SRC_INFO_INFO : Fld := ⟨0x10C, 31, 0, .ro, 0x0, false⟩
def FLT_SRC_TLEFT_TLEFT : Fld := ⟨0x110, 16, 0, .ro, 0x0, false⟩
def FLT_SRC_CNT_COUNT : Fld := ⟨0x114, 31, 0, .ro, 0x0, false⟩
def FLT_SRC_LOST_LOST : Fld := ⟨0x118, 15, 0, .ro, 0x0, false⟩
def FLT_SRC_INJ_GO : Fld := ⟨0x11C, 8, 8, .w1p, 0x0, false⟩
def FLT_SRC_INJ_MODE : Fld := ⟨0x11C, 1, 0, .rw, 0x0, false⟩
def mapFLTS_0 : List RegRow := [
  ⟨0x100, 0x0, 1, 1, [FLT_SRC_SEV_SEV]⟩,
  ⟨0x104, 0x0, 1, 1, [FLT_SRC_ESC_ESC]⟩,
  ⟨0x108, 0x0, 1, 1, [FLT_SRC_STAT_SEQ, FLT_SRC_STAT_LEVEL, FLT_SRC_STAT_ESCALATED, FLT_SRC_STAT_PEND]⟩,
  ⟨0x10C, 0x0, 1, 1, [FLT_SRC_INFO_INFO]⟩,
  ⟨0x110, 0x0, 1, 1, [FLT_SRC_TLEFT_TLEFT]⟩,
  ⟨0x114, 0x0, 1, 1, [FLT_SRC_CNT_COUNT]⟩,
  ⟨0x118, 0x0, 1, 1, [FLT_SRC_LOST_LOST]⟩,
  ⟨0x11C, 0x0, 1, 1, [FLT_SRC_INJ_GO, FLT_SRC_INJ_MODE]⟩]
def mapFLTS : List RegRow := mapFLTS_0

/-! ### FLTP -/
def FLT_PKG_HEALTH_CLUSTER : Fld := ⟨0x40, 31, 24, .ro, 0x0, true⟩
def FLT_PKG_HEALTH_HEALTHY : Fld := ⟨0x40, 23, 16, .ro, 0x0, true⟩
def FLT_PKG_HEALTH_PRESENT : Fld := ⟨0x40, 15, 8, .ro, 0x0, false⟩
def FLT_PKG_HEALTH_DEGRADED : Fld := ⟨0x40, 7, 0, .ro, 0x0, false⟩
def FLT_PKG_EVT_SEQ : Fld := ⟨0x44, 31, 24, .seq, 0x0, false⟩
def FLT_PKG_EVT_DIE : Fld := ⟨0x44, 18, 16, .ro, 0x0, false⟩
def FLT_PKG_EVT_OVF : Fld := ⟨0x44, 4, 4, .seq, 0x0, false⟩
def FLT_PKG_EVT_DEGRADED : Fld := ⟨0x44, 3, 3, .seq, 0x0, false⟩
def FLT_PKG_EVT_HALT : Fld := ⟨0x44, 2, 2, .seq, 0x0, false⟩
def FLT_PKG_EVT_DIE_ISOLATED : Fld := ⟨0x44, 1, 1, .seq, 0x0, false⟩
def FLT_PKG_EVT_UNMAPPED : Fld := ⟨0x44, 0, 0, .seq, 0x0, false⟩
def FLT_PKG_EVT_E : EvtReg := ⟨0x44, 0x1F, 0x10⟩
def FLT_PKG_UNMAP_ADDR : Fld := ⟨0x48, 29, 2, .ro, 0x0, false⟩
def FLT_IRQ_EN : Fld := ⟨0x4C, 31, 31, .rw, 0x0, false⟩
def FLT_IRQ_MINLEV : Fld := ⟨0x4C, 30, 28, .rw, 0x2, false⟩
def FLT_IRQ_PORT : Fld := ⟨0x4C, 26, 24, .rw, 0x0, false⟩
def FLT_IRQ_VECTOR : Fld := ⟨0x4C, 10, 0, .rw, 0x0, false⟩
def FLT_ALIVE_TOGGLING : Fld := ⟨0x50, 31, 31, .ro, 0x0, false⟩
def FLT_ALIVE_HALTED : Fld := ⟨0x50, 30, 30, .ro, 0x0, false⟩
def FLT_ALIVE_INST : Fld := ⟨0x50, 27, 16, .ro, 0x0, false⟩
def FLT_ALIVE_SRC : Fld := ⟨0x50, 15, 0, .ro, 0x0, false⟩
def FLT_ALIVE_DIE_DIE : Fld := ⟨0x54, 2, 0, .ro, 0x0, false⟩
def FLT_PKG_UNPROT_GROUPS : Fld := ⟨0x60, 4, 0, .ro, 0x0, false⟩
def mapFLTP_0 : List RegRow := [
  ⟨0x40, 0x0, 1, 1, [FLT_PKG_HEALTH_CLUSTER, FLT_PKG_HEALTH_HEALTHY, FLT_PKG_HEALTH_PRESENT, FLT_PKG_HEALTH_DEGRADED]⟩,
  ⟨0x44, 0x0, 1, 1, [FLT_PKG_EVT_SEQ, FLT_PKG_EVT_DIE, FLT_PKG_EVT_OVF, FLT_PKG_EVT_DEGRADED, FLT_PKG_EVT_HALT, FLT_PKG_EVT_DIE_ISOLATED, FLT_PKG_EVT_UNMAPPED]⟩,
  ⟨0x48, 0x0, 1, 1, [FLT_PKG_UNMAP_ADDR]⟩,
  ⟨0x4C, 0x0, 1, 1, [FLT_IRQ_EN, FLT_IRQ_MINLEV, FLT_IRQ_PORT, FLT_IRQ_VECTOR]⟩,
  ⟨0x50, 0x0, 1, 1, [FLT_ALIVE_TOGGLING, FLT_ALIVE_HALTED, FLT_ALIVE_INST, FLT_ALIVE_SRC]⟩,
  ⟨0x54, 0x0, 1, 1, [FLT_ALIVE_DIE_DIE]⟩,
  ⟨0x60, 0x4, 8, 1, [FLT_PKG_UNPROT_GROUPS]⟩]
def mapFLTP : List RegRow := mapFLTP_0

/-! ### CAN -/
def CAN_STATUS_STATE : Fld := ⟨0x40, 31, 30, .ro, 0x0, false⟩
def CAN_STATUS_OPSTATE : Fld := ⟨0x40, 29, 27, .ro, 0x0, false⟩
def CAN_STATUS_TEC : Fld := ⟨0x40, 24, 16, .ro, 0x0, false⟩
def CAN_STATUS_REC : Fld := ⟨0x40, 7, 0, .ro, 0x0, false⟩
def CAN_EVT_SEQ : Fld := ⟨0x44, 31, 24, .seq, 0x0, false⟩
def CAN_EVT_OVF : Fld := ⟨0x44, 13, 13, .seq, 0x0, false⟩
def CAN_EVT_TIMING_BAD : Fld := ⟨0x44, 12, 12, .seq, 0x0, false⟩
def CAN_EVT_Q_BAD : Fld := ⟨0x44, 11, 11, .seq, 0x0, false⟩
def CAN_EVT_SLEEP_REFUSED : Fld := ⟨0x44, 10, 10, .seq, 0x0, false⟩
def CAN_EVT_TXB_LOCKED : Fld := ⟨0x44, 9, 9, .seq, 0x0, false⟩
def CAN_EVT_DET_FAIL : Fld := ⟨0x44, 8, 8, .seq, 0x0, false⟩
def CAN_EVT_DET_OK : Fld := ⟨0x44, 7, 7, .seq, 0x0, false⟩
def CAN_EVT_WAKE : Fld := ⟨0x44, 6, 6, .seq, 0x0, false⟩
def CAN_EVT_BUS_OFF : Fld := ⟨0x44, 5, 5, .seq, 0x0, false⟩
def CAN_EVT_ERR_PASSIVE : Fld := ⟨0x44, 4, 4, .seq, 0x0, false⟩
def CAN_EVT_RX_LOST : Fld := ⟨0x44, 3, 3, .seq, 0x0, false⟩
def CAN_EVT_RX_STORED : Fld := ⟨0x44, 2, 2, .seq, 0x0, false⟩
def CAN_EVT_TX_FAIL : Fld := ⟨0x44, 1, 1, .seq, 0x0, false⟩
def CAN_EVT_TX_DONE : Fld := ⟨0x44, 0, 0, .seq, 0x0, false⟩
def CAN_EVT_E : EvtReg := ⟨0x44, 0x3FFF, 0x2000⟩
def CAN_IRQ_EN : Fld := ⟨0x48, 31, 31, .rw, 0x0, false⟩
def CAN_IRQ_PORT : Fld := ⟨0x48, 30, 28, .rw, 0x0, false⟩
def CAN_IRQ_MASK : Fld := ⟨0x48, 23, 11, .rw, 0x0, false⟩
def CAN_IRQ_VECTOR : Fld := ⟨0x48, 10, 0, .rw, 0x0, false⟩
def CAN_CNT_COUNT : Fld := ⟨0x80, 31, 0, .ro, 0x0, false⟩
def mapCAN_0 : List RegRow := [
  ⟨0x40, 0x0, 1, 1, [CAN_STATUS_STATE, CAN_STATUS_OPSTATE, CAN_STATUS_TEC, CAN_STATUS_REC]⟩,
  ⟨0x44, 0x0, 1, 1, [CAN_EVT_SEQ, CAN_EVT_OVF, CAN_EVT_TIMING_BAD, CAN_EVT_Q_BAD, CAN_EVT_SLEEP_REFUSED, CAN_EVT_TXB_LOCKED, CAN_EVT_DET_FAIL, CAN_EVT_DET_OK, CAN_EVT_WAKE, CAN_EVT_BUS_OFF, CAN_EVT_ERR_PASSIVE, CAN_EVT_RX_LOST, CAN_EVT_RX_STORED, CAN_EVT_TX_FAIL, CAN_EVT_TX_DONE]⟩,
  ⟨0x48, 0x0, 1, 1, [CAN_IRQ_EN, CAN_IRQ_PORT, CAN_IRQ_MASK, CAN_IRQ_VECTOR]⟩,
  ⟨0x80, 0x4, 8, 1, [CAN_CNT_COUNT]⟩]
def mapCAN : List RegRow := mapCAN_0

/-! ### CANI -/
def CAN_MODE_FILTMODE : Fld := ⟨0x0, 31, 31, .ro, 0x0, false⟩
def CAN_MODE_AUTO_RECOV : Fld := ⟨0x0, 11, 11, .rwd, 0x1, false⟩
def CAN_MODE_TXORD : Fld := ⟨0x0, 10, 10, .rwd, 0x0, false⟩
def CAN_MODE_LBACK : Fld := ⟨0x0, 9, 9, .rwd, 0x0, false⟩
def CAN_MODE_LOM : Fld := ⟨0x0, 8, 8, .rwd, 0x0, false⟩
def CAN_MODE_FD_EN : Fld := ⟨0x0, 7, 7, .rwd, 0x0, false⟩
def CAN_MODE_RETRY : Fld := ⟨0x0, 4, 0, .rwd, 0x1F, false⟩
def CAN_NBT_BRP_M1 : Fld := ⟨0x4, 31, 24, .rwd, 0x0, false⟩
def CAN_NBT_NSEG1_M1 : Fld := ⟨0x4, 23, 16, .rwd, 0x3E, false⟩
def CAN_NBT_NSEG2_M1 : Fld := ⟨0x4, 14, 8, .rwd, 0xF, false⟩
def CAN_NBT_NSJW_M1 : Fld := ⟨0x4, 6, 0, .rwd, 0xF, false⟩
def CAN_DBT_DBRP_M1 : Fld := ⟨0x8, 28, 24, .rwd, 0x0, false⟩
def CAN_DBT_DSEG1_M1 : Fld := ⟨0x8, 20, 16, .rwd, 0xE, false⟩
def CAN_DBT_DSEG2_M1 : Fld := ⟨0x8, 11, 8, .rwd, 0x3, false⟩
def CAN_DBT_DSJW_M1 : Fld := ⟨0x8, 3, 0, .rwd, 0x3, false⟩
def CAN_TDC_EN : Fld := ⟨0xC, 31, 31, .rwd, 0x0, false⟩
def CAN_TDC_TDCO : Fld := ⟨0xC, 14, 8, .rwd, 0x0, false⟩
def CAN_TDC_TDCV : Fld := ⟨0xC, 6, 0, .ro, 0x0, false⟩
def CAN_OPCTL_DETECT : Fld := ⟨0x10, 3, 3, .w1p, 0x0, false⟩
def CAN_OPCTL_RECOVER : Fld := ⟨0x10, 2, 2, .w1p, 0x0, false⟩
def CAN_OPCTL_WAKE : Fld := ⟨0x10, 1, 1, .w1p, 0x0, false⟩
def CAN_OPCTL_SLEEP : Fld := ⟨0x10, 0, 0, .w1p, 0x0, false⟩
def CAN_TSCFG_DIV : Fld := ⟨0x14, 3, 0, .rw, 0x0, false⟩
def CAN_TS_TS : Fld := ⟨0x18, 31, 0, .ro, 0x0, false⟩
def CAN_WAKECFG_EN_EDGE : Fld := ⟨0x20, 31, 31, .rw, 0x1, false⟩
def CAN_WAKECFG_EN_FRAME : Fld := ⟨0x20, 30, 30, .rw, 0x0, false⟩
def CAN_WAKECFG_DATA_EN : Fld := ⟨0x20, 29, 29, .rw, 0x0, false⟩
def CAN_WAKECFG_WK_IDE : Fld := ⟨0x20, 28, 28, .rw, 0x0, false⟩
def CAN_WAKECFG_WK_DLC : Fld := ⟨0x20, 19, 16, .rw, 0x0, false⟩
def CAN_WAKECFG_WFILT : Fld := ⟨0x20, 15, 0, .rw, 0x28, false⟩
def CAN_WK_ID_ID : Fld := ⟨0x24, 28, 0, .rw, 0x0, false⟩
def CAN_WK_MASK_MASK : Fld := ⟨0x28, 28, 0, .rw, 0x0, false⟩
def CAN_WK_DATA_LO_DATA : Fld := ⟨0x2C, 31, 0, .rw, 0x0, false⟩
def CAN_WK_DATA_HI_DATA : Fld := ⟨0x30, 31, 0, .rw, 0x0, false⟩
def CAN_DETSTAT_DATA_UNVERIFIED : Fld := ⟨0x34, 8, 8, .ro, 0x0, false⟩
def CAN_DETSTAT_INDEX : Fld := ⟨0x34, 7, 0, .ro, 0xFF, false⟩
def CAN_DWELL_DWELL : Fld := ⟨0x38, 15, 0, .rw, 0x64, false⟩
def CAN_DET_NBT_VAL : Fld := ⟨0x40, 31, 0, .rw, 0x0, false⟩
def CAN_DET_DBT_VAL : Fld := ⟨0x44, 31, 0, .rw, 0x0, false⟩
def CAN_DET_TDC_VAL : Fld := ⟨0x48, 31, 0, .rw, 0x0, false⟩
def TXB_ID_IDE : Fld := ⟨0x100, 31, 31, .rw, 0x0, false⟩
def TXB_ID_FDF : Fld := ⟨0x100, 30, 30, .rw, 0x0, false⟩
def TXB_ID_BRS : Fld := ⟨0x100, 29, 29, .rw, 0x0, false⟩
def TXB_ID_ID : Fld := ⟨0x100, 28, 0, .rw, 0x0, false⟩
def TXB_CTL_REQ : Fld := ⟨0x104, 31, 31, .rw, 0x0, false⟩
def TXB_CTL_ABORT : Fld := ⟨0x104, 30, 30, .w1p, 0x0, false⟩
def TXB_CTL_RTR : Fld := ⟨0x104, 29, 29, .rw, 0x0, false⟩
def TXB_CTL_DLC : Fld := ⟨0x104, 3, 0, .rw, 0x0, false⟩
def TXB_STAT_SEQ : Fld := ⟨0x108, 31, 24, .seq, 0x0, false⟩
def TXB_STAT_TRIES : Fld := ⟨0x108, 11, 7, .ro, 0x0, false⟩
def TXB_STAT_LEC : Fld := ⟨0x108, 6, 4, .ro, 0x0, false⟩
def TXB_STAT_OUTCOME : Fld := ⟨0x108, 3, 0, .ro, 0x0, false⟩
def TXB_STAT_E : EvtReg := ⟨0x108, 0x0, 0x0⟩
def TXB_TS_TS : Fld := ⟨0x10C, 31, 0, .ro, 0x0, false⟩
def TXB_DATA_DATA : Fld := ⟨0x120, 31, 0, .rw, 0x0, false⟩
def OBJ_CFG_EN : Fld := ⟨0x400, 31, 31, .rw, 0x0, false⟩
def OBJ_CFG_IDE : Fld := ⟨0x400, 30, 30, .rw, 0x0, false⟩
def OBJ_CFG_ID : Fld := ⟨0x400, 28, 0, .rw, 0x0, false⟩
def OBJ_STAT_SEQ : Fld := ⟨0x404, 31, 24, .seq, 0x0, false⟩
def OBJ_STAT_NEW : Fld := ⟨0x404, 23, 23, .seq, 0x0, false⟩
def OBJ_STAT_LOST : Fld := ⟨0x404, 22, 22, .seq, 0x0, false⟩
def OBJ_STAT_FDF : Fld := ⟨0x404, 21, 21, .ro, 0x0, false⟩
def OBJ_STAT_BRS : Fld := ⟨0x404, 20, 20, .ro, 0x0, false⟩
def OBJ_STAT_ESI : Fld := ⟨0x404, 19, 19, .ro, 0x0, false⟩
def OBJ_STAT_RTR : Fld := ⟨0x404, 18, 18, .ro, 0x0, false⟩
def OBJ_STAT_DLC : Fld := ⟨0x404, 3, 0, .ro, 0x0, false⟩
def OBJ_STAT_E : EvtReg := ⟨0x404, 0xC00000, 0x0⟩
def OBJ_TS_TS : Fld := ⟨0x408, 31, 0, .ro, 0x0, false⟩
def OBJ_DATA_DATA : Fld := ⟨0x420, 31, 0, .ro, 0x0, false⟩
def FLT_MATCH_EN : Fld := ⟨0x400, 31, 31, .rw, 0x0, false⟩
def FLT_MATCH_IDE : Fld := ⟨0x400, 30, 30, .rw, 0x0, false⟩
def FLT_MATCH_Q : Fld := ⟨0x400, 29, 29, .rw, 0x0, false⟩
def FLT_MATCH_MATCH : Fld := ⟨0x400, 28, 0, .rw, 0x0, false⟩
def FLT_MASK_MASK : Fld := ⟨0x404, 28, 0, .rw, 0x1FFFFFFF, false⟩
def Q_PUT_PUT : Fld := ⟨0x800, 6, 0, .ro, 0x0, false⟩
def Q_GET_GET : Fld := ⟨0x804, 6, 0, .rw, 0x0, false⟩
def QE_INFO_LOST : Fld := ⟨0x1004, 31, 24, .ro, 0x0, false⟩
def QE_INFO_ESI : Fld := ⟨0x1004, 23, 23, .ro, 0x0, false⟩
def QE_INFO_RTR : Fld := ⟨0x1004, 22, 22, .ro, 0x0, false⟩
def QE_INFO_FILTER : Fld := ⟨0x1004, 21, 15, .ro, 0x0, false⟩
def QE_INFO_DLC : Fld := ⟨0x1004, 3, 0, .ro, 0x0, false⟩
def QE_TS_TS : Fld := ⟨0x1008, 31, 0, .ro, 0x0, false⟩
def QE_DATA_DATA : Fld := ⟨0x1020, 31, 0, .ro, 0x0, false⟩
def mapCANI_0 : List RegRow := [
  ⟨0x0, 0x0, 1, 1, [CAN_MODE_FILTMODE, CAN_MODE_AUTO_RECOV, CAN_MODE_TXORD, CAN_MODE_LBACK, CAN_MODE_LOM, CAN_MODE_FD_EN, CAN_MODE_RETRY]⟩,
  ⟨0x4, 0x0, 1, 1, [CAN_NBT_BRP_M1, CAN_NBT_NSEG1_M1, CAN_NBT_NSEG2_M1, CAN_NBT_NSJW_M1]⟩,
  ⟨0x8, 0x0, 1, 1, [CAN_DBT_DBRP_M1, CAN_DBT_DSEG1_M1, CAN_DBT_DSEG2_M1, CAN_DBT_DSJW_M1]⟩,
  ⟨0xC, 0x0, 1, 1, [CAN_TDC_EN, CAN_TDC_TDCO, CAN_TDC_TDCV]⟩,
  ⟨0x10, 0x0, 1, 1, [CAN_OPCTL_DETECT, CAN_OPCTL_RECOVER, CAN_OPCTL_WAKE, CAN_OPCTL_SLEEP]⟩,
  ⟨0x14, 0x0, 1, 1, [CAN_TSCFG_DIV]⟩,
  ⟨0x18, 0x0, 1, 1, [CAN_TS_TS]⟩,
  ⟨0x20, 0x0, 1, 1, [CAN_WAKECFG_EN_EDGE, CAN_WAKECFG_EN_FRAME, CAN_WAKECFG_DATA_EN, CAN_WAKECFG_WK_IDE, CAN_WAKECFG_WK_DLC, CAN_WAKECFG_WFILT]⟩,
  ⟨0x24, 0x0, 1, 1, [CAN_WK_ID_ID]⟩,
  ⟨0x28, 0x0, 1, 1, [CAN_WK_MASK_MASK]⟩,
  ⟨0x2C, 0x0, 1, 1, [CAN_WK_DATA_LO_DATA]⟩,
  ⟨0x30, 0x0, 1, 1, [CAN_WK_DATA_HI_DATA]⟩,
  ⟨0x34, 0x0, 1, 1, [CAN_DETSTAT_DATA_UNVERIFIED, CAN_DETSTAT_INDEX]⟩,
  ⟨0x38, 0x0, 1, 1, [CAN_DWELL_DWELL]⟩,
  ⟨0x40, 0x10, 8, 1, [CAN_DET_NBT_VAL]⟩,
  ⟨0x44, 0x10, 8, 1, [CAN_DET_DBT_VAL]⟩,
  ⟨0x48, 0x10, 8, 1, [CAN_DET_TDC_VAL]⟩,
  ⟨0x100, 0x60, 3, 1, [TXB_ID_IDE, TXB_ID_FDF, TXB_ID_BRS, TXB_ID_ID]⟩,
  ⟨0x104, 0x60, 3, 1, [TXB_CTL_REQ, TXB_CTL_ABORT, TXB_CTL_RTR, TXB_CTL_DLC]⟩,
  ⟨0x108, 0x60, 3, 1, [TXB_STAT_SEQ, TXB_STAT_TRIES, TXB_STAT_LEC, TXB_STAT_OUTCOME]⟩]
def mapCANI_1 : List RegRow := [
  ⟨0x10C, 0x60, 3, 1, [TXB_TS_TS]⟩,
  ⟨0x120, 0x60, 3, 16, [TXB_DATA_DATA]⟩,
  ⟨0x400, 0x60, 64, 1, [OBJ_CFG_EN, OBJ_CFG_IDE, OBJ_CFG_ID]⟩,
  ⟨0x404, 0x60, 64, 1, [OBJ_STAT_SEQ, OBJ_STAT_NEW, OBJ_STAT_LOST, OBJ_STAT_FDF, OBJ_STAT_BRS, OBJ_STAT_ESI, OBJ_STAT_RTR, OBJ_STAT_DLC]⟩,
  ⟨0x408, 0x60, 64, 1, [OBJ_TS_TS]⟩,
  ⟨0x420, 0x60, 64, 16, [OBJ_DATA_DATA]⟩,
  ⟨0x400, 0x8, 128, 1, [FLT_MATCH_EN, FLT_MATCH_IDE, FLT_MATCH_Q, FLT_MATCH_MATCH]⟩,
  ⟨0x404, 0x8, 128, 1, [FLT_MASK_MASK]⟩,
  ⟨0x800, 0x10, 2, 1, [Q_PUT_PUT]⟩,
  ⟨0x804, 0x10, 2, 1, [Q_GET_GET]⟩,
  ⟨0x1000, 0x60, 64, 1, []⟩,
  ⟨0x2800, 0x60, 64, 1, []⟩,
  ⟨0x1004, 0x60, 64, 1, [QE_INFO_LOST, QE_INFO_ESI, QE_INFO_RTR, QE_INFO_FILTER, QE_INFO_DLC]⟩,
  ⟨0x2804, 0x60, 64, 1, [QE_INFO_LOST, QE_INFO_ESI, QE_INFO_RTR, QE_INFO_FILTER, QE_INFO_DLC]⟩,
  ⟨0x1008, 0x60, 64, 1, [QE_TS_TS]⟩,
  ⟨0x2808, 0x60, 64, 1, [QE_TS_TS]⟩,
  ⟨0x1020, 0x60, 64, 16, [QE_DATA_DATA]⟩,
  ⟨0x2820, 0x60, 64, 16, [QE_DATA_DATA]⟩]
def mapCANI : List RegRow := mapCANI_0 ++ mapCANI_1

/-! ### SYS -/
def SYS_STATUS_READY : Fld := ⟨0x40, 31, 31, .ro, 0x0, false⟩
def SYS_STATUS_LANES_READY : Fld := ⟨0x40, 30, 30, .ro, 0x0, false⟩
def SYS_STATUS_RECOVERY : Fld := ⟨0x40, 29, 29, .ro, 0x0, false⟩
def SYS_STATUS_SLOT : Fld := ⟨0x40, 25, 24, .ro, 0x3, false⟩
def SYS_RESET_CAUSE_COUNT : Fld := ⟨0x44, 31, 16, .ro, 0x0, false⟩
def SYS_RESET_CAUSE_CAUSE : Fld := ⟨0x44, 3, 0, .ro, 0x0, false⟩
def SYS_TEMP_HIGH : Fld := ⟨0x48, 23, 16, .rw, 0x64, true⟩
def SYS_TEMP_PEAK : Fld := ⟨0x48, 15, 8, .ro, 0x80, false⟩
def SYS_TEMP_TEMP : Fld := ⟨0x48, 7, 0, .ro, 0x0, false⟩
def SYS_BOOTTIME_US : Fld := ⟨0x4C, 31, 0, .ro, 0x0, false⟩
def SYS_SUPPLY_INWIN : Fld := ⟨0x50, 9, 0, .ro, 0x0, false⟩
def SYS_FLASH_RATE : Fld := ⟨0x54, 15, 8, .ro, 0x0, false⟩
def SYS_FLASH_MODE : Fld := ⟨0x54, 2, 0, .ro, 0x0, false⟩
def mapSYS_0 : List RegRow := [
  ⟨0x40, 0x0, 1, 1, [SYS_STATUS_READY, SYS_STATUS_LANES_READY, SYS_STATUS_RECOVERY, SYS_STATUS_SLOT]⟩,
  ⟨0x44, 0x0, 1, 1, [SYS_RESET_CAUSE_COUNT, SYS_RESET_CAUSE_CAUSE]⟩,
  ⟨0x48, 0x0, 1, 1, [SYS_TEMP_HIGH, SYS_TEMP_PEAK, SYS_TEMP_TEMP]⟩,
  ⟨0x4C, 0x0, 1, 1, [SYS_BOOTTIME_US]⟩,
  ⟨0x50, 0x0, 1, 1, [SYS_SUPPLY_INWIN]⟩,
  ⟨0x54, 0x0, 1, 1, [SYS_FLASH_RATE, SYS_FLASH_MODE]⟩]
def mapSYS : List RegRow := mapSYS_0

/-! ### MFP -/
def MFP_EVT_SEQ : Fld := ⟨0x40, 31, 24, .seq, 0x0, false⟩
def MFP_EVT_PIN : Fld := ⟨0x40, 21, 16, .ro, 0x0, false⟩
def MFP_EVT_OVF : Fld := ⟨0x40, 3, 3, .seq, 0x0, false⟩
def MFP_EVT_SWITCHED : Fld := ⟨0x40, 2, 2, .seq, 0x0, false⟩
def MFP_EVT_FUNC_BAD : Fld := ⟨0x40, 1, 1, .seq, 0x0, false⟩
def MFP_EVT_CONFLICT : Fld := ⟨0x40, 0, 0, .seq, 0x0, false⟩
def MFP_EVT_E : EvtReg := ⟨0x40, 0xF, 0x8⟩
def MFP_IN_LO_LEVEL : Fld := ⟨0x44, 31, 0, .ro, 0x0, false⟩
def MFP_IN_HI_LEVEL : Fld := ⟨0x48, 15, 0, .ro, 0x0, false⟩
def MFP_OUT_LO_OUT : Fld := ⟨0x4C, 31, 0, .rw, 0x0, false⟩
def MFP_OUT_HI_OUT : Fld := ⟨0x50, 15, 0, .rw, 0x0, false⟩
def MFP_OE_LO_OE : Fld := ⟨0x54, 31, 0, .rw, 0x0, false⟩
def MFP_OE_HI_OE : Fld := ⟨0x58, 15, 0, .rw, 0x0, false⟩
def MFP_CFG_PULL : Fld := ⟨0x100, 15, 14, .rw, 0x2, true⟩
def MFP_CFG_DRIVE : Fld := ⟨0x100, 13, 12, .rw, 0x1, true⟩
def MFP_CFG_INDEX : Fld := ⟨0x100, 11, 8, .rw, 0x0, true⟩
def MFP_CFG_FUNC : Fld := ⟨0x100, 5, 0, .rw, 0x0, true⟩
def mapMFP_0 : List RegRow := [
  ⟨0x40, 0x0, 1, 1, [MFP_EVT_SEQ, MFP_EVT_PIN, MFP_EVT_OVF, MFP_EVT_SWITCHED, MFP_EVT_FUNC_BAD, MFP_EVT_CONFLICT]⟩,
  ⟨0x44, 0x0, 1, 1, [MFP_IN_LO_LEVEL]⟩,
  ⟨0x48, 0x0, 1, 1, [MFP_IN_HI_LEVEL]⟩,
  ⟨0x4C, 0x0, 1, 1, [MFP_OUT_LO_OUT]⟩,
  ⟨0x50, 0x0, 1, 1, [MFP_OUT_HI_OUT]⟩,
  ⟨0x54, 0x0, 1, 1, [MFP_OE_LO_OE]⟩,
  ⟨0x58, 0x0, 1, 1, [MFP_OE_HI_OE]⟩,
  ⟨0x100, 0x4, 48, 1, [MFP_CFG_PULL, MFP_CFG_DRIVE, MFP_CFG_INDEX, MFP_CFG_FUNC]⟩]
def mapMFP : List RegRow := mapMFP_0

end Sys2Proof.Machine.R
end

