-- ==== Sys2Proof/Machine/Ops.lean ====
section
/-!
DEFINITION. The shape of the package, where every register lies, and the named operations over registers, sequence-clearing
events, counters and fault sources (R1, R2, R13, R23 to R29, R36 to R45, R56, R314 to R321).
Storage addresses: a plain register lies at its BAR0 address; the banks behind selectors and the indirect words lie above 2^32.
-/
namespace Sys2Proof.Machine
open Sys2Proof

/-- What a command answers. -/
abbrev Res := Host.Outcome State Fault Refusal

/-! ### The package (R1, R2, R13) -/

/-- Dies of a part. -/
def Part.dies : Part → Nat
  | .msd2 => 2
  | .msd4 => 4
  | .msd8 => 8

/-- The code of a part in the Knot Book (R34). -/
def Part.code : Part → Nat
  | .msd2 => 2
  | .msd4 => 4
  | .msd8 => 8

def State.nd (s : State) : Nat := s.part.dies

/-- Package channels (R2): 24 to a die. -/
def State.nch (s : State) : Nat := 24 * s.nd

/-- The die placed by R13 at the other end of a die's port N, E, S, W (0 to 3); none where the port faces no die. -/
def neighbour (p : Part) (d port : Nat) : Option Nat :=
  match p with
  | .msd2 => if d = 0 && port = 1 then some 1 else if d = 1 && port = 3 then some 0 else none
  | .msd4 =>
    if port = 1 && d % 2 = 0 then some (d + 1) else if port = 3 && d % 2 = 1 then some (d - 1)
    else if port = 2 && d < 2 then some (d + 2) else if port = 0 && 2 ≤ d && d < 4 then some (d - 2) else none
  | .msd8 =>
    if port = 1 && d % 4 < 3 then some (d + 1) else if port = 3 && 0 < d % 4 then some (d - 1)
    else if port = 2 && d < 4 then some (d + 4) else if port = 0 && 4 ≤ d && d < 8 then some (d - 4) else none

/-- The port at the far end of a link. -/
def farPort (port : Nat) : Nat := (port + 2) % 4

/-- Whether a die is present and not isolated. -/
def State.dieUp (s : State) (d : Nat) : Bool := d < s.nd && !s.isolated.contains d

/-- Whether a unit (die, group code, instance of R315) has been taken out by an ISOLATE reaction (R316). -/
def State.unitOut (s : State) (d g i : Nat) : Bool := s.outUnits.contains (d, g, i)

/-- The dies that are not isolated, ascending. -/
def State.upDies (s : State) : List Nat := (List.range s.nd).filter fun d => s.dieUp d

/-! ### Blocks and addresses (R23, R26, R28, R29, R56) -/

/-- The kinds of block. -/
inductive Blk where
  | sys | flt | xdf | web | trg | sta | spl | csm | hld | dma | pci | ptp | col | can | mfp | lnq | str | cor | dms | eth
  | knb | prt | fltp | mbx
  deriving DecidableEq, Repr

/-- The block of a die's slot (R28). -/
def slotBlk (slot : Nat) : Option Blk :=
  if slot = 0 then some .sys else if slot = 1 then some .flt else if 2 ≤ slot && slot ≤ 5 then some .xdf
  else if slot = 8 then some .web else if slot = 9 then some .trg else if slot = 0xA then some .sta
  else if slot = 0xB then some .spl else if slot = 0xC then some .csm else if slot = 0xD then some .hld
  else if slot = 0xE then some .dma else if slot = 0xF then some .pci else if slot = 0x10 then some .ptp
  else if slot = 0x11 then some .col else if slot = 0x12 then some .can else if slot = 0x13 then some .mfp
  else if 0x20 ≤ slot && slot ≤ 0x30 then some .lnq else if 0x40 ≤ slot && slot ≤ 0x57 then some .str
  else if 0x60 ≤ slot && slot ≤ 0x64 then some .cor else if 0x68 ≤ slot && slot ≤ 0x6C then some .dms
  else if 0x70 ≤ slot && slot ≤ 0x77 then some .eth else none

/-- The block of a slot of the package-global region (R29). -/
def globalBlk (slot : Nat) : Option Blk :=
  if slot = 0 then some .knb else if slot = 1 then some .prt else if slot = 2 then some .fltp
  else if 4 ≤ slot && slot ≤ 7 then some .mbx else none

/-- The block type code (R56). -/
def Blk.code : Blk → Nat
  | .sys => 0 | .knb => 1 | .prt => 2 | .flt => 3 | .fltp => 3 | .mbx => 4 | .lnq => 5 | .str => 6 | .web => 7 | .trg => 8
  | .cor => 9 | .dms => 0xA | .sta => 0xB | .csm => 0xC | .hld => 0xD | .dma => 0xE | .pci => 0xF | .eth => 0x10 | .ptp => 0x11
  | .col => 0x12 | .can => 0x13 | .mfp => 0x14 | .xdf => 0x15 | .spl => 0x17

/-- The block mnemonic in ASCII, first character lowest (R38). -/
def Blk.mnem : Blk → Nat
  | .sys => 0x535953 | .knb => 0x424E4B | .prt => 0x545250 | .flt => 0x544C46 | .fltp => 0x544C46 | .mbx => 0x58424D
  | .lnq => 0x514E4C | .str => 0x525453 | .web => 0x424557 | .trg => 0x475254 | .cor => 0x524F43 | .dms => 0x534D44
  | .sta => 0x415453 | .csm => 0x4D5343 | .hld => 0x444C48 | .dma => 0x414D44 | .pci => 0x494350 | .eth => 0x485445
  | .ptp => 0x505450 | .col => 0x4C4F43 | .can => 0x4E4143 | .mfp => 0x50464D | .xdf => 0x464458 | .spl => 0x4C5053

/-- Whether a block has RWD fields; one that has none is never disabled (R42). -/
def Blk.hasRwd : Blk → Bool
  | .lnq => true | .str => true | .web => true | .trg => true | .cor => true | .dms => true | .sta => true | .spl => true
  | .eth => true | .can => true
  | _ => false

/-- The plain registers of a block, the header first (R38). -/
def Blk.rows : Blk → List RegRow
  | .knb => R.mapKNB
  | .sys => R.mapHDR ++ R.mapSYS | .prt => R.mapHDR ++ R.mapPRT | .flt => R.mapHDR ++ R.mapFLT | .fltp => R.mapHDR ++ R.mapFLTP
  | .mbx => R.mapHDR ++ R.mapMBX | .lnq => R.mapHDR ++ R.mapLNQ | .str => R.mapHDR ++ R.mapSTR | .web => R.mapHDR ++ R.mapWEB
  | .trg => R.mapHDR ++ R.mapTRG | .cor => R.mapHDR ++ R.mapCOR | .dms => R.mapHDR ++ R.mapDMS | .sta => R.mapHDR ++ R.mapSTA
  | .csm => R.mapHDR ++ R.mapCSM | .hld => R.mapHDR ++ R.mapHLD | .dma => R.mapHDR ++ R.mapDMA | .pci => R.mapHDR ++ R.mapPCI
  | .eth => R.mapHDR ++ R.mapETH | .ptp => R.mapHDR ++ R.mapPTP | .col => R.mapHDR ++ R.mapCOL | .can => R.mapHDR ++ R.mapCAN
  | .mfp => R.mapHDR ++ R.mapMFP | .xdf => R.mapHDR ++ R.mapXDF | .spl => R.mapHDR ++ R.mapSPL

/-- Whether a block has an indirect space (R47). -/
def Blk.hasInd : Blk → Bool
  | .lnq => true | .hld => true | .ptp => true | .can => true
  | _ => false

/-- The indirect registers of a block (R47). The CAN map has the objects of object mode or the filters and queues of queue mode. -/
def Blk.indRows (p : Part) : Blk → List RegRow
  | .lnq => R.mapLANEI
  | .hld => R.mapHLDI
  | .ptp => R.mapPTPI
  | .can => if p = .msd8 then R.mapCANI.filter (fun r => r.off < 0x400 || (r.off = 0x400 && r.stride = 8)
      || (r.off = 0x404 && r.stride = 8) || 0x800 ≤ r.off) else R.mapCANI.filter (fun r => r.off < 0x800 && r.stride ≠ 8)
  | _ => []

/-- The window base of slot t of die d (R26). -/
def blkAddr (d t : Nat) : Nat := d * 0x4000000 + t * 0x10000

/-- Bases of the package-global blocks (R29). -/
def knbBase : Nat := 0x20000000
def prtBase : Nat := 0x20010000
def fltpBase : Nat := 0x20020000
def mbxBase (w : Nat) : Nat := 0x20040000 + w * 0x10000

/-- Bases of a die's blocks (R28). -/
def sysB (d : Nat) : Nat := blkAddr d 0
def fltB (d : Nat) : Nat := blkAddr d 1
def xdfB (d p : Nat) : Nat := blkAddr d (2 + p)
def webB (d : Nat) : Nat := blkAddr d 8
def trgB (d : Nat) : Nat := blkAddr d 9
def staB (d : Nat) : Nat := blkAddr d 0xA
def splB (d : Nat) : Nat := blkAddr d 0xB
def csmB (d : Nat) : Nat := blkAddr d 0xC
def hldB (d : Nat) : Nat := blkAddr d 0xD
def dmaB (d : Nat) : Nat := blkAddr d 0xE
def pciB (d : Nat) : Nat := blkAddr d 0xF
def ptpB (d : Nat) : Nat := blkAddr d 0x10
def colB (d : Nat) : Nat := blkAddr d 0x11
def canB (d : Nat) : Nat := blkAddr d 0x12
def mfpB (d : Nat) : Nat := blkAddr d 0x13
def lnqB (d q : Nat) : Nat := blkAddr d (0x20 + q)
def corB (d p : Nat) : Nat := blkAddr d (0x60 + p)
def dmsB (d p : Nat) : Nat := blkAddr d (0x68 + p)
def ethB (d m : Nat) : Nat := blkAddr d (0x70 + m)
/-- The STR block of a package channel (R2). -/
def strB (ch : Nat) : Nat := blkAddr (ch / 24) (0x40 + ch % 24)

/-- Storage bases of the banks behind selectors and of the indirect spaces. -/
def indBase (d t : Nat) : Nat := 0x100000000 + (d * 1024 + t) * 0x1000000
def ctxBase (c : Nat) : Nat := 2 ^ 40 + c * 0x1000
def ringBase (d r : Nat) : Nat := 2 ^ 41 + (d * 1024 + r) * 0x1000
def flowBase (d m f : Nat) : Nat := 2 ^ 42 + ((d * 8 + m) * 256 + f) * 0x1000
def volBase (v : Nat) : Nat := 2 ^ 43 + v * 0x1000
def tgtBase (t : Nat) : Nat := 2 ^ 44 + t * 0x1000
def srcBase (d src inst : Nat) : Nat := 2 ^ 45 + ((d * 65536 + src) * 65536 + inst) * 0x1000

/-! ### Fault sources (R314, R315, R357) -/

/-- The instances and the default severity of a source (R315); none where no source has the id. -/
def srcDef (src : Nat) : Option (Nat × Nat) :=
  let g := src / 256
  let i := src % 256
  let pick (n : Nat) (l : List Nat) : Option (Nat × Nat) := l[i]?.map fun v => (n, v)
  if i = 0xFF then
    if g = 0 || g = 2 || g = 3 || g = 7 || g = 8 || g = 0xB || g = 0xC || g = 0xD || g = 0xE || g = 0xF || g = 0x11 || g = 0x12
        || g = 0x13 || g = 0x14 || g = 0x17 then some (1, 1)
    else if g = 4 || g = 0x15 then some (4, 1)
    else if g = 5 then some (17, 1) else if g = 6 then some (24, 1)
    else if g = 9 || g = 0xA then some (5, 1) else if g = 0x10 then some (8, 1) else none
  else if g = 0 then pick 1 [4, 4, 4, 2, 2, 5, 4, 4]
  else if g = 2 then pick 1 [0, 0]
  else if g = 3 then pick 1 [0]
  else if g = 4 then pick 1 [4, 2]
  else if g = 5 then pick 68 [3, 3, 2, 3, 2, 1]
  else if g = 6 then pick 24 [1, 0, 0, 0, 0, 2, 0]
  else if g = 7 then pick 12 [0, 2, 0, 4]
  else if g = 8 then pick 8 [2]
  else if g = 9 then pick 5 [3, 1, 2, 2, 1, 0]
  else if g = 0xA then pick 5 [1, 2, 0]
  else if g = 0xB then pick 24 [1, 2, 2]
  else if g = 0xC then pick 4096 [0]
  else if g = 0xD then pick 17 [1, 2, 2, 3, 2]
  else if g = 0xE then pick 1024 [0, 0]
  else if g = 0xF then pick 1 [2, 1, 2, 2]
  else if g = 0x10 then pick 8 [2, 0, 2, 0]
  else if g = 0x11 then pick 1 [2, 0]
  else if g = 0x12 then if i = 1 then some (256, 3) else pick 16 [0, 3, 2, 2, 2]
  else if g = 0x13 then pick 1 [2, 0, 0, 0, 1, 2, 0]
  else if g = 0x15 then pick 4 [3, 1, 4]
  else if g = 0x17 then pick 8 [0, 0, 1, 1, 2]
  else if g = 0x18 then pick 512 [1, 3, 2]
  else none

/-- Whether a die keeps a source (R314): PRT, PTP 0x1100 and 0x1101 and the TMR source of PRT are kept by die 0 alone; so is that of
the package-global MBX block. -/
def srcOnDie (d src : Nat) : Bool :=
  d == 0 || !(src / 256 == 2 || src == 0x1100 || src == 0x1101 || src == 0x04FF)

/-- Whether a die keeps an instance of a source. -/
def srcValid (d src inst : Nat) : Bool :=
  match srcDef src with
  | some (n, _) => srcOnDie d src && inst < n
  | none => false

/-! ### The reset value of a storage address -/

/-- What a storage address names: the rows of its map, its offset in them, its block, die and slot. -/
structure Home where
  rows : List RegRow
  off  : Nat
  blk  : Option Blk
  die  : Nat
  slot : Nat
  ind  : Bool

/-- The home of a storage address. -/
def home (p : Part) (a : Nat) : Home :=
  if a < 0x20000000 then
    let t := a / 0x10000 % 1024
    { rows := ((slotBlk t).map Blk.rows).getD [], off := a % 0x10000, blk := slotBlk t, die := a / 0x4000000, slot := t, ind := false }
  else if a < 0x40000000 then
    let t := (a - 0x20000000) / 0x10000
    { rows := ((globalBlk t).map Blk.rows).getD [], off := a % 0x10000, blk := globalBlk t, die := 8, slot := t, ind := false }
  else if a < 2 ^ 40 then
    let k := (a - 0x100000000) / 0x1000000
    let t := k % 1024
    let o := a % 0x1000000
    { rows := ((slotBlk t).map (Blk.indRows p)).getD [], off := if slotBlk t = some .lnq then (if o < 0x4000 then o % 0x1000 else o) else o,
      blk := slotBlk t, die := k / 1024, slot := t, ind := true }
  else if a < 2 ^ 41 then { rows := R.mapCTX, off := a % 0x1000, blk := some .csm, die := 8, slot := 0xC, ind := false }
  else if a < 2 ^ 42 then
    { rows := R.mapRING, off := a % 0x1000, blk := some .dma, die := (a - 2 ^ 41) / 0x400000, slot := 0xE, ind := false }
  else if a < 2 ^ 43 then
    let k := (a - 2 ^ 42) / 0x100000
    { rows := R.mapFLOW, off := a % 0x1000, blk := some .eth, die := k / 8, slot := 0x70 + k % 8, ind := false }
  else if a < 2 ^ 44 then { rows := R.mapVOL, off := a % 0x1000, blk := some .col, die := 8, slot := 0x11, ind := false }
  else if a < 2 ^ 45 then { rows := R.mapTGT, off := a % 0x1000, blk := some .col, die := 8, slot := 0x11, ind := false }
  else { rows := R.mapFLTS, off := a % 0x1000, blk := some .flt, die := (a - 2 ^ 45) / 0x1000 / 65536 / 65536, slot := 1, ind := false }

/-- A mask with one bit for each die of the part. -/
def Part.mask (p : Part) : Nat := 2 ^ p.dies - 1

/-- The reset values that the maps give per block, part, slice, link, channel, window or source. -/
def resetSpecial (p : Part) (a : Nat) (h : Home) : Option Nat :=
  if 2 ^ 45 ≤ a then
    if h.off = 0x100 then (srcDef ((a - 2 ^ 45) / 0x1000 / 65536 % 65536)).map (·.2) else none
  else if h.ind then
    match h.blk with
    | some .hld => if h.off < 0x44 then some (0x1F00 + if h.off = 0x40 then 1 else 0) else none
    | some .can => if h.off = 0 && p = .msd8 then some (0x80000000 + (R.CAN_MODE_AUTO_RECOV.rst * 2 ^ 11) + 0x1F) else none
    | _ => none
  else match h.blk with
    | none => none
    | some .knb => none
    | some b =>
      if 0x40000000 ≤ a then none
      else if h.off = 0 then some (0x01000000 + b.mnem)
      else if h.off = 4 && !b.hasRwd then some 1
      else match b with
        | .prt => if h.off = 0x100 then some 0x10 else if h.off = 0x104 then some 0x33 else if h.off = 0x108 then some 0x10
            else if h.off = 0x110 then some 0x22 else if 0x10C ≤ h.off && h.off ≤ 0x15C then some 0x11 else none
        | .mbx => if h.off = 0x54 then some (if h.slot = 4 then 0 else if h.slot = 5 then 1 else 2)
            else if 0x2100 ≤ h.off && h.off < 0x4000 && h.off % 0x200 = 0x100 then some 1 else none
        | .fltp => if h.off = 0x40 then some (p.mask * 0x1000000 + p.mask * 0x10000 + p.mask * 0x100) else none
        | .xdf => if h.off = 0x40 then some (match neighbour p h.die (h.slot - 2) with
            | some _ => 0xFF0004
            | none => 0xFF0000) else none
        | .mfp => if h.die = 0 && (h.off = 0x1B8 || h.off = 0x1BC) then some (0x9008 + (h.off - 0x1B8) / 4) else none
        | .cor => if h.off = 0x40 then some (if h.slot = 0x64 then 0x701 else (h.slot - 0x60) * 0x100) else none
        | _ => none

/-- The value a storage address reads after reset. -/
def resetWord (p : Part) (a : Nat) : Word :=
  let h := home p a
  match resetSpecial p a h with
  | some v => BitVec.ofNat 32 v
  | none => ((rowAt h.rows h.off).map RegRow.rst).getD 0

/-! ### Registers -/

/-- The stored word of a register. -/
def State.rd (s : State) (a : Nat) : Word := (tget s.regs a).getD (resetWord s.part a)

/-- Store a word in a register. -/
def State.wr (s : State) (a : Nat) (v : Word) : State := { s with regs := tput s.regs a (resetWord s.part a) v }

/-- A field of a register of the block, context or bank at base b. -/
def State.g (s : State) (b : Nat) (f : Fld) : Nat := bits (s.rd (b + f.off)) f.hi f.lo

/-- A field as a Bool. -/
def State.gb (s : State) (b : Nat) (f : Fld) : Bool := s.g b f != 0

/-- Store a value in a field: all three copies of a TMR field (R51). -/
def State.p (s : State) (b : Nat) (f : Fld) (v : Nat) : State :=
  let s := s.wr (b + f.off) (putBits (s.rd (b + f.off)) f.hi f.lo v)
  { s with tmr := s.tmr.filter fun e => !(e.1 == b + f.off && f.lo ≤ e.2.1 && e.2.1 ≤ f.hi) }

/-- Store a whole word: all three copies of it (R51). -/
def State.put (s : State) (a : Nat) (v : Word) : State := { s.wr a v with tmr := s.tmr.filter (·.1 != a) }

/-- Store several fields. -/
def State.ps (s : State) (b : Nat) (l : List (Fld × Nat)) : State := l.foldl (fun s e => s.p b e.1 e.2) s

/-- The mask of flags. -/
def flagMask (l : List Fld) : Nat := (l.map fun f => 2 ^ f.lo).foldl (· + ·) 0

/-- A set event of a SEQ register (R39): the flags are set, OVF if a flag was set already, the capture fields latch only in a clear
register, and the sequence number advances. -/
def State.evt (s : State) (b : Nat) (e : EvtReg) (flags : List Fld) (caps : List (Fld × Nat) := []) : State :=
  let w := s.rd (b + e.off)
  let busy := w.toNat &&& e.mask != 0
  let w1 := if busy then w else caps.foldl (fun w c => putBits w c.1.hi c.1.lo c.2) w
  let w2 := w1 ||| BitVec.ofNat 32 (flagMask flags) ||| (if busy then BitVec.ofNat 32 e.ovf else 0)
  s.wr (b + e.off) (putBits w2 31 24 (bits w 31 24 + 1))

/-- `n` events of one CORE cycle: one set event, in which every event after the first sets OVF (R39). -/
def State.evtN (s : State) (b : Nat) (e : EvtReg) (flags : List Fld) (caps : List (Fld × Nat)) (n : Nat) : State :=
  if n = 0 then s
  else
    let s := s.evt b e flags caps
    if n = 1 then s else s.wr (b + e.off) (s.rd (b + e.off) ||| BitVec.ofNat 32 e.ovf)

/-- A clearing write to a SEQ register (R40). `caps` is the mask of its capture fields, which read 0 once no flag is set (R39). -/
def seqClearWord (old new : Word) (mask caps : Word) : Word :=
  if bits new 31 24 = bits old 31 24 then
    let w := old &&& ~~~(new &&& mask)
    if w &&& mask = 0 && old &&& mask ≠ 0 then w &&& ~~~caps else w
  else old

/-- Count n on the live counter of a register. -/
def State.bump (s : State) (a : Nat) (n : Nat := 1) : State := { s with live := tmod s.live a 0 (· + n) }

/-- Count on a counter that stops at `top`. -/
def State.bumpSat (s : State) (a top : Nat) : State := { s with live := tmod s.live a 0 fun v => if v < top then v + 1 else top }

/-- The live count of a counter. -/
def State.cnt (s : State) (a : Nat) : Nat := tgetD s.live a 0

/-- What the part puts out. -/
def State.emit (s : State) (o : Out) : State := { s with out := s.out ++ [o] }

/-- An open value (log entry 2), and the state that has used it. -/
def State.fresh (s : State) : Nat × State := ((Config.freeWord s.free).toNat, { s with free := s.free + 1 })

/-- A field that shows what the part measured: an open value (log entry 187). -/
def State.measured (s : State) (b : Nat) (f : Fld) : State :=
  let (v, s) := s.fresh
  s.p b f v

/-- A count of what the links below the model carried: it stands at an open value (log entry 187). -/
def State.linkCount (s : State) (a : Nat) : State :=
  let (v, s) := s.fresh
  { s with live := tput s.live a 0 v }

/-- The flits and messages that the linked ports of a die have carried (R387). -/
def State.xdfCarried (s : State) (d : Nat) : State :=
  upTo 4 (fun p s => if (neighbour s.part d p).isSome then
    each [0, 1, 4, 5, 6, 7] (fun i s => s.linkCount (xdfB d p + R.XDF_CNT_COUNT.off + 4 * i)) s else s) s

/-- Transaction layer packets of the port of die d: `tx` sent and `rx` received (PCI_CNT 0 and 1 of R257's map). -/
def pciCnt (d i : Nat) : Nat := pciB d + R.PCI_CNT_COUNT.off + 4 * i
def State.tlps (s : State) (d tx rx : Nat) : State :=
  let s := if tx = 0 then s else s.bump (pciCnt d 0) tx
  if rx = 0 then s else s.bump (pciCnt d 1) rx

/-- A read of host memory is put out (R253): its tag, one of 0x0000 to 0x1FFF, is an open value (log entry 224). -/
def State.readReq (s : State) (d a n : Nat) : State :=
  let (t, s) := s.fresh
  s.emit (.hostRead d a n (t % 8192))

/-- A read of n bytes of host memory that has completed: its requests and completions (one completion to a request), and its tracker entry
in the most ever in use (R253, R270; log entry 100). -/
def State.hostRead (s : State) (d n : Nat) : State :=
  if n = 0 then s
  else (s.tlps d ((n + 511) / 512) ((n + 511) / 512)).p (dmaB d) R.DMA_TRK_MAX (max (s.g (dmaB d) R.DMA_TRK_MAX) (s.g (dmaB d) R.DMA_TRK_USED + 1))

/-- The read of a command, put out and completed. -/
def State.hostFetch (s : State) (d a n : Nat) : State := (s.readReq d a n).hostRead d n

def maskOf (l : List Nat) : Nat := l.foldl (fun m d => m + 2 ^ d) 0

/-! ### MSI-X and fault sources (R254, R316 to R321) -/

/-- An entry of a port's MSI-X table. -/
def State.vec (s : State) (d v : Nat) : MsixVec := tgetD s.vecs (d * 2048 + v) {}

/-- Whether a mask keeps a vector of a port back: the port's function mask, or the vector's own (R254). -/
def State.vecMasked (s : State) (d v : Nat) : Bool := s.msixFm.contains d || (s.vec d v).masked

/-- Send MSI-X vector v on the port of die d: while its link is up and Bus Master Enable is set (R254, R255; log entry 22); under a mask it stays
pending. -/
def State.msix (s : State) (d v : Nat) : State :=
  if !(s.gb (pciB d) R.PCI_LINK_DL_UP && s.gb (pciB d) R.PCI_CFG_BME) then s
  else if s.vecMasked d v then (if s.msixPend.contains (d, v) then s else { s with msixPend := s.msixPend ++ [(d, v)] })
  else (s.emit (.msix d v (s.vec d v).addr (s.vec d v).data)).tlps d 1 0

/-- The pending messages of a port that no mask keeps back any more go out. -/
def State.msixUnmask (s : State) (d : Nat) : State :=
  let now := s.msixPend.filter fun e => e.1 == d && !s.vecMasked d e.2
  each now (fun e s => s.msix e.1 e.2) { s with msixPend := s.msixPend.filter fun e => !now.contains e }

/-- The configuration header, the MSI-X table and its masks at reset (R254, R255). -/
def State.cfgReset (s : State) (d : Nat) : State :=
  let s := (s.wr (pciB d + R.PCI_CFG_BME.off) 0).wr (pciB d + R.PCI_CTO_CTO.off) (resetWord s.part (pciB d + R.PCI_CTO_CTO.off))
  { s with msixFm := s.msixFm.filter (· != d), msixPend := s.msixPend.filter (·.1 != d), vecs := s.vecs.filter (·.1 / 2048 != d),
           bars := s.bars.filter (·.1 / 2 != d) }

/-- Send the fault interrupt and begin a hold-off interval (R321). -/
def State.irqSend (s : State) : State :=
  let s := { s with irqAt := some s.clock.now, irqHeld := false }
  if s.gb fltpBase R.FLT_IRQ_EN then s.msix (s.g fltpBase R.FLT_IRQ_PORT) (s.g fltpBase R.FLT_IRQ_VECTOR) else s

/-- A call for the fault interrupt while fault interrupts are enabled: sent at once, or held while a hold-off interval runs (R321). -/
def State.irqCall (s : State) : State := if !s.gb fltpBase R.FLT_IRQ_EN then s else if s.irqAt.isSome then { s with irqHeld := true } else s.irqSend

/-- A set event of FLT_PKG_EVT with the die it concerns. -/
def State.pkgEvt (s : State) (f : Fld) (die : Nat) : State := s.evt fltpBase R.FLT_PKG_EVT_E [f] [(R.FLT_PKG_EVT_DIE, die)]

/-- Entry i of a die's pending list. -/
def plistBase (d i : Nat) : Nat := fltB d + 4 * i

/-- The entry of the pending list that shows a source, if one does. -/
def State.plistOf (s : State) (d src inst : Nat) : Option Nat :=
  (List.range 32).find? fun i => s.gb (plistBase d i) R.FLT_PLIST_VALID && s.g (plistBase d i) R.FLT_PLIST_SRC == src
    && s.g (plistBase d i) R.FLT_PLIST_INST == inst

/-- The lowest free entry of the pending list. -/
def State.plistFree (s : State) (d : Nat) : Option Nat :=
  (List.range 32).find? fun i => !s.gb (plistBase d i) R.FLT_PLIST_VALID

/-- An event of an instance of a source without a listing of its own: the record of R316 and R318 for a source whose PEND is set
(the event is lost), or PEND, level and capture for one whose PEND is clear. -/
def State.srcRecord (s : State) (d src inst info : Nat) : State :=
  let b := srcBase d src inst
  let s := (s.bump (fltB d + 0x80)).bump (b + R.FLT_SRC_CNT_COUNT.off)
  if s.gb b R.FLT_SRC_STAT_PEND then
    ((s.bump (fltB d + 0x88)).bumpSat (b + R.FLT_SRC_LOST_LOST.off) 0xFFFF).evt b R.FLT_SRC_STAT_E [R.FLT_SRC_STAT_PEND]
  else
    (s.evt b R.FLT_SRC_STAT_E [R.FLT_SRC_STAT_PEND] [(R.FLT_SRC_STAT_LEVEL, s.g b R.FLT_SRC_SEV_SEV)]).p b R.FLT_SRC_INFO_INFO info

/-- List a pending source in FLT_PLIST (R321); with a full list PLIST_FULL is set and PLIST_OVF (source 0x0300) is recorded. -/
def State.plistAdd (s : State) (d src inst lev : Nat) : State :=
  match s.plistFree d with
  | some i => s.ps (plistBase d i) [(R.FLT_PLIST_VALID, 1), (R.FLT_PLIST_LEVEL, lev), (R.FLT_PLIST_INST, inst), (R.FLT_PLIST_SRC, src)]
  | none => (s.evt (fltB d) R.FLT_EVT_E [R.FLT_EVT_PLIST_FULL]).srcRecord d 0x0300 0 0

/-- An event of a source (R316): its record, its place in the pending list, the escalation time, the interrupt call, and, at SPARE
or above, its reaction put in hand (FaultOps.lean carries it out before the command ends). -/
def State.raise (s : State) (d src inst : Nat) (info : Nat := 0) : State :=
  if !(d < s.nd && srcValid d src inst) then s
  else
    let b := srcBase d src inst
    let pend := s.gb b R.FLT_SRC_STAT_PEND
    let lev := s.g b R.FLT_SRC_SEV_SEV
    let s := s.srcRecord d src inst info
    if pend then s
    else
      let s := if 2 ≤ lev then s.plistAdd d src inst lev else s
      let s := if lev = 2 then { s with srcs := tset s.srcs b { deadline := s.clock.now + 500 * s.g b R.FLT_SRC_ESC_ESC } } else s
      let s := if s.g fltpBase R.FLT_IRQ_MINLEV ≤ lev then s.irqCall else s
      if 3 ≤ lev then { s with todo := s.todo ++ [(d, src, inst, lev)] } else s

/-- Take the injection that waits for the next check of one of a few sources of an instance (R332): its mode, or 0 for none. -/
def State.takeInj (s : State) (d : Nat) (srcs : List Nat) (inst : Nat) : Nat × State :=
  match s.inj.find? fun e => e.1 == d && srcs.contains e.2.1 && e.2.2.1 == inst with
  | some e => (e.2.2.2, { s with inj := s.inj.erase e })
  | none => (0, s)

/-- PEND of a source has been cleared: it leaves the pending list and its escalation time ends (R319, R321). -/
def State.srcCleared (s : State) (d src inst : Nat) : State :=
  let s := match s.plistOf d src inst with
    | some i => s.wr (plistBase d i + R.FLT_PLIST_VALID.off) 0
    | none => s
  { s with srcs := tdel s.srcs (srcBase d src inst) }

/-- A discarded write or an all-ones read (R25): UNMAPPED with the die of the port, the address of the first, and the source. A discarded
write to the KNB block or the Knot Book body is recorded in the same way (R30; log entry 188). -/
def State.unmapped (s : State) (port addr : Nat) : State :=
  let clear := !s.gb fltpBase R.FLT_PKG_EVT_UNMAPPED
  let s := s.pkgEvt R.FLT_PKG_EVT_UNMAPPED port
  let s := if clear then s.p fltpBase R.FLT_PKG_UNMAP_ADDR (addr / 4) else s
  s.raise 0 0x0201 0 addr

/-- The queue of a block's indirect accesses (R48). -/
def State.indQ (s : State) (base : Nat) : List IndOp := tgetD s.indq base []

/-- The indirect accesses in flight to an isolated die complete as the isolated-die row of R25 states: a read with all ones, a write
discarded, each recorded as an unmapped access. -/
def State.indIsolated (s : State) (d : Nat) : State :=
  let mine := s.indq.filter fun e => e.1 / 0x4000000 == d
  let s : State := { s with indq := s.indq.filter fun e => e.1 / 0x4000000 != d }
  each mine (fun e s => each e.2 (fun x s =>
    match x with
    | .write _ _ _ port => s.unmapped port (e.1 + 0x1C)
    | .read _ m port => (s.unmapped port (e.1 + 0x1C)).emit (.readDone (e.1 + 0x1C) (0xFFFFFFFF &&& m))) s) s

/-- A correctable error or count of a source by the channel that owns it. -/
def State.raiseCh (s : State) (ch src : Nat) (info : Nat := 0) : State := s.raise (ch / 24) src (ch % 24) info

/-! ### Answers -/

/-- What no command changes: which part it is, and the commands that wait behind it. -/
def State.own (t s : State) : State := { t with part := s.part, pending := s.pending }

/-- What only a commit or a reset changes besides (R57): the protection table in force and the commits on their way. -/
def State.keeps (t s : State) : State := { t.own s with prt := s.prt, commits := s.commits }

/-- Answer with a next state where the part has the unit the command names (R1, R2). -/
def State.having (s : State) (has : Bool) (f : State → State) : Res :=
  if has then .next ((f s).keeps s) else .fault .noSuchUnit

/-- The same for a commit's completion and for a reset, which change the protection table. -/
def State.reaching (s : State) (has : Bool) (f : State → State) : Res :=
  if has then .next ((f s).own s) else .fault .noSuchUnit

end Sys2Proof.Machine
end

