-- ==== Sys2Proof/Machine/Mail.lean ====
section
/-!
DEFINITION. The Lanyard mailboxes: the defined commands with their levels, kinds and parameter bytes, the command and response areas,
the journal, and how a command completes or is aborted (R63 to R76).
-/
namespace Sys2Proof.Machine
open Sys2Proof

/-- A row of a chapter's command table: opcode, name, minimum level, whether it is a query, whether it is a barrier, and the bytes of
the command area that its parameters use (offset and length). -/
structure CmdRow where
  opc     : Nat
  name    : String
  level   : Nat
  query   : Bool
  barrier : Bool
  used    : List (Nat × Nat)
  deriving DecidableEq, Repr

def cmdTable0 : List CmdRow := [
  ⟨0x000, "DEV_NOP", 2, true, false, [(8, 248)]⟩,
  ⟨0x001, "DEV_INFO", 2, true, false, []⟩,
  ⟨0x003, "DEV_SET_WINDOW_LEVEL", 0, false, false, [(8, 2)]⟩,
  ⟨0x004, "DEV_WARM_RESET", 0, false, true, [(8, 1)]⟩,
  ⟨0x010, "FW_QUERY", 1, true, false, []⟩,
  ⟨0x011, "FW_STAGE", 0, false, false, [(8, 13)]⟩,
  ⟨0x012, "FW_VERIFY", 0, true, false, [(8, 1)]⟩,
  ⟨0x013, "FW_ACTIVATE", 0, false, true, [(8, 3)]⟩,
  ⟨0x014, "FW_SET_BOOT", 0, false, false, [(8, 1)]⟩,
  ⟨0x015, "FW_REVOKE_KEY", 0, false, false, [(8, 2)]⟩,
  ⟨0x100, "LANE_QUERY", 1, true, false, [(8, 2)]⟩,
  ⟨0x101, "LANE_SET_MODE", 1, false, false, [(8, 4)]⟩,
  ⟨0x102, "LANE_SET_POWER", 1, false, false, [(8, 4)]⟩,
  ⟨0x103, "LANE_PRBS", 1, false, false, [(8, 5), (16, 4)]⟩,
  ⟨0x104, "LANE_SWAP", 0, false, false, [(8, 2)]⟩,
  ⟨0x105, "LANE_RESTORE", 0, false, false, [(8, 2)]⟩,
  ⟨0x106, "LANE_SET_EQ", 1, false, false, [(8, 6)]⟩,
  ⟨0x107, "LANE_RECAL", 1, false, false, [(8, 2)]⟩,
  ⟨0x200, "STR_SET_OPEN", 1, false, false, []⟩,
  ⟨0x201, "STR_SET_ADD", 1, false, false, [(8, 1), (10, 21), (32, 7), (40, 7), (48, 7)]⟩,
  ⟨0x202, "STR_SET_COMMIT", 1, false, false, [(8, 1)]⟩,
  ⟨0x203, "STR_SET_DISCARD", 1, false, false, [(8, 1)]⟩,
  ⟨0x204, "STR_REMOVE", 1, false, false, [(8, 24)]⟩,
  ⟨0x205, "STR_TUNNEL", 1, false, false, [(8, 136)]⟩,
  ⟨0x206, "STR_QUERY", 2, true, false, [(8, 2)]⟩]

def cmdTable1 : List CmdRow := [
  ⟨0x300, "WEB_SET_ENCODER", 1, false, false, [(8, 5), (16, 4)]⟩,
  ⟨0x301, "WEB_LOAD", 1, false, false, [(8, 2), (16, 8)]⟩,
  ⟨0x302, "WEB_QUERY", 2, true, false, [(8, 1)]⟩,
  ⟨0x310, "TRG_SET_GEN", 1, false, false, [(8, 5), (16, 32)]⟩,
  ⟨0x311, "TRG_ATTACH", 1, false, false, [(8, 2), (16, 24)]⟩,
  ⟨0x312, "TRG_START", 1, false, false, [(8, 1)]⟩,
  ⟨0x313, "TRG_STOP", 1, false, false, [(8, 2)]⟩,
  ⟨0x314, "TRG_SET_PITCH", 1, false, false, [(8, 1), (12, 16)]⟩,
  ⟨0x315, "TRG_SET_OUTPUT", 1, false, false, [(8, 12)]⟩,
  ⟨0x316, "TRG_QUERY", 2, true, false, [(8, 1)]⟩,
  ⟨0x400, "COR_SET_CHANNEL", 1, false, false, [(8, 7), (16, 2), (20, 18)]⟩,
  ⟨0x401, "COR_LOAD_TABLE", 1, false, false, [(8, 3), (16, 16)]⟩,
  ⟨0x402, "COR_APPLY", 1, false, false, [(8, 2)]⟩,
  ⟨0x403, "COR_DISCARD", 1, false, false, [(8, 2)]⟩,
  ⟨0x404, "COR_QUERY", 2, true, false, [(8, 2)]⟩,
  ⟨0x405, "COR_SLICE_SWAP", 0, false, false, [(8, 2)]⟩,
  ⟨0x410, "DMS_SET_CHANNEL", 1, false, false, [(8, 10), (20, 12)]⟩,
  ⟨0x411, "DMS_SET_TAPS", 1, false, false, [(8, 3)]⟩,
  ⟨0x412, "DMS_QUERY", 2, true, false, [(8, 2)]⟩,
  ⟨0x500, "STA_SET_CHANNEL", 1, false, false, [(8, 5), (16, 12)]⟩,
  ⟨0x501, "STA_QUERY", 2, true, false, [(8, 2)]⟩,
  ⟨0x502, "STA_QUERY_DIE", 1, true, false, [(8, 1)]⟩,
  ⟨0x600, "SPL_SET_GROUP", 1, false, false, [(8, 11), (20, 20)]⟩,
  ⟨0x601, "SPL_SET_MEMBER", 1, false, false, [(8, 1), (10, 5), (16, 10), (28, 14)]⟩,
  ⟨0x602, "SPL_APPLY", 1, false, false, [(8, 1)]⟩]

def cmdTable2 : List CmdRow := [
  ⟨0x603, "SPL_DISCARD", 1, false, false, [(8, 1)]⟩,
  ⟨0x604, "SPL_REMOVE", 1, false, false, [(8, 1)]⟩,
  ⟨0x605, "SPL_QUERY", 2, true, false, [(8, 1)]⟩,
  ⟨0x700, "CSM_BIND", 1, false, false, [(8, 28), (40, 26)]⟩,
  ⟨0x701, "CSM_UNBIND", 1, false, false, [(8, 3)]⟩,
  ⟨0x702, "CSM_SET_PRIORITY", 1, false, false, [(8, 3)]⟩,
  ⟨0x703, "CSM_SET_HOLD", 1, false, false, [(8, 2), (12, 4)]⟩,
  ⟨0x704, "CSM_QUERY", 2, true, false, [(8, 2)]⟩,
  ⟨0x705, "HLD_QUERY", 1, true, false, [(8, 1)]⟩,
  ⟨0x800, "DMA_RING_SETUP", 1, false, false, [(8, 3), (16, 18)]⟩,
  ⟨0x801, "DMA_RING_FREE", 1, false, false, [(8, 3)]⟩,
  ⟨0x802, "DMA_RING_RESTART", 2, false, false, [(8, 3)]⟩,
  ⟨0x803, "DMA_RING_QUERY", 2, true, false, [(8, 3)]⟩,
  ⟨0x804, "PCI_QUERY", 1, true, false, [(8, 1)]⟩,
  ⟨0x805, "PCI_SET_PORT", 0, false, false, [(8, 4)]⟩,
  ⟨0x900, "ETH_SET_PORT", 1, false, false, [(8, 14), (24, 22)]⟩,
  ⟨0x901, "ETH_SET_FLOW", 1, false, false, [(8, 14), (24, 20)]⟩,
  ⟨0x902, "ETH_FLOW_FREE", 1, false, false, [(8, 3)]⟩,
  ⟨0x903, "ETH_QUERY", 2, true, false, [(8, 2)]⟩,
  ⟨0x904, "ETH_SEND", 1, false, false, [(8, 3), (12, 18), (32, 4)]⟩,
  ⟨0x910, "PTP_SET", 0, false, false, [(8, 12)]⟩,
  ⟨0x911, "PTP_QUERY", 2, true, false, []⟩,
  ⟨0x912, "TIME_STEP", 0, false, false, [(8, 1), (16, 16)]⟩,
  ⟨0x913, "TIME_SET_INC", 0, false, false, [(8, 8)]⟩,
  ⟨0x914, "CAL_SET", 0, false, false, [(8, 7)]⟩]

def cmdTable3 : List CmdRow := [
  ⟨0x915, "PTP_SET_UTC", 0, false, false, [(8, 3)]⟩,
  ⟨0xA00, "COIL_TARGET_SET", 1, false, false, [(8, 10), (24, 16)]⟩,
  ⟨0xA01, "COIL_TARGET_FREE", 1, false, false, [(8, 1)]⟩,
  ⟨0xA02, "COIL_VOL_SETUP", 1, false, false, [(8, 5), (16, 76)]⟩,
  ⟨0xA03, "COIL_VOL_FREE", 1, false, false, [(8, 1)]⟩,
  ⟨0xA04, "COIL_ADD_SPARE", 1, false, false, [(8, 2)]⟩,
  ⟨0xA05, "COIL_REPLACE", 1, false, false, [(8, 3)]⟩,
  ⟨0xA06, "COIL_QUERY", 2, true, false, [(8, 1)]⟩,
  ⟨0xA07, "COIL_TARGET_QUERY", 1, true, false, [(8, 1)]⟩,
  ⟨0xB00, "FLT_QUERY", 1, true, false, [(8, 1), (10, 4)]⟩,
  ⟨0xB01, "FLT_SET_SEVERITY", 0, false, false, [(8, 1), (10, 5), (16, 4)]⟩,
  ⟨0xB02, "FLT_ACK", 1, false, false, [(8, 1), (10, 5)]⟩,
  ⟨0xB03, "FLT_LIST", 1, true, false, [(8, 1)]⟩,
  ⟨0xB04, "FLT_INJECT", 0, false, false, [(8, 1), (10, 5)]⟩,
  ⟨0xB05, "FLT_UNIT_RESET", 0, false, false, [(8, 4)]⟩,
  ⟨0xB06, "FLT_DIE_RESET", 0, false, true, [(8, 3)]⟩,
  ⟨0xC00, "CAN_SET_PORT", 1, false, false, [(8, 16)]⟩,
  ⟨0xC01, "CAN_SET_FILTER", 1, false, false, [(8, 3), (12, 8)]⟩,
  ⟨0xC02, "CAN_SEND", 1, false, false, [(8, 72)]⟩,
  ⟨0xC03, "CAN_RECV", 1, false, false, [(8, 4)]⟩,
  ⟨0xC04, "CAN_QUERY", 2, true, false, [(8, 1)]⟩,
  ⟨0xC05, "CAN_DETECT", 1, false, false, [(8, 4), (16, 96)]⟩,
  ⟨0xC06, "CAN_SET_WAKE", 1, false, false, [(8, 1), (12, 20)]⟩,
  ⟨0xC07, "CAN_SLEEP", 1, false, false, [(8, 2)]⟩,
  ⟨0xC08, "CAN_RECOVER", 1, false, false, [(8, 1)]⟩]

def cmdTable4 : List CmdRow := [
  ⟨0xD00, "MFP_SET", 1, false, false, [(8, 6)]⟩,
  ⟨0xD01, "MFP_QUERY", 2, true, false, [(8, 1)]⟩,
  ⟨0xD10, "BOOT_SET_PLAN", 0, false, false, [(8, 32)]⟩,
  ⟨0xD11, "BOOT_QUERY", 1, true, false, []⟩]

/-- The defined commands (R76 and the command tables of the chapters). -/
def cmdTable : List CmdRow := cmdTable0 ++ cmdTable1 ++ cmdTable2 ++ cmdTable3 ++ cmdTable4

def cmdRow (opc : Nat) : Option CmdRow := cmdTable.find? (·.opc == opc)

/-- The class of an opcode (R71). -/
def cmdClass (opc : Nat) : Nat := if opc < 0x10 then 0 else if opc < 0x100 then 1 else 1 + opc / 0x100

/-- Status codes (R76). -/
def stOK : Nat := 0
def stNOT_READY : Nat := 1
def stABORTED : Nat := 2
def stREFUSED : Nat := 3
def stBAD : Nat := 4
def stNOPRIV : Nat := 5
def stBUSY : Nat := 6
def stUNKNOWN : Nat := 7

/-- The key of a slot. -/
def slotKey (w slot : Nat) : Nat := w * 16 + slot

def State.slot (s : State) (w slot : Nat) : Slot := tgetD s.slots (slotKey w slot) {}

def State.setSlot (s : State) (w slot : Nat) (x : Slot) : State := { s with slots := tset s.slots (slotKey w slot) x }

/-- Base of a slot's command area (R64) and response area (R65). -/
def cmdBase (w slot : Nat) : Nat := mbxBase w + 0x2000 + 0x200 * slot
def rspBase (w slot : Nat) : Nat := mbxBase w + 0x2100 + 0x200 * slot

/-- Byte o of a command area. -/
def State.cmdByte (s : State) (w slot o : Nat) : Nat := (s.rd (cmdBase w slot + o / 4 * 4)).toNat / 2 ^ (8 * (o % 4)) % 256

/-- The little-endian number of n bytes at offset o of a command area (R64). -/
def State.cp (s : State) (w slot o : Nat) : Nat → Nat
  | 0 => 0
  | n + 1 => s.cmdByte w slot o + 256 * s.cp w slot (o + 1) n

/-- The bytes at offset o of a command area. -/
def State.cmdBytes (s : State) (w slot o n : Nat) : List Byte :=
  (List.range n).map fun i => BitVec.ofNat 8 (s.cmdByte w slot (o + i))

def State.opcode (s : State) (w slot : Nat) : Nat := s.cp w slot 0 2
def State.flagsOf (s : State) (w slot : Nat) : Nat := s.cp w slot 4 4

/-- Write the words of bytes from an address up. -/
def State.wrBytes (s : State) (a : Nat) : List Byte → State
  | b0 :: b1 :: b2 :: b3 :: t => (s.wr a (BitVec.ofNat 32 (ofLe [b0, b1, b2, b3]))).wrBytes (a + 4) t
  | _ => s

/-- The response area's 256 bytes (R65). -/
def rspBytes (status tag opc detail rflags epoch : Nat) (result : List Byte) : List Byte :=
  leBytes 2 status ++ leBytes 2 tag ++ leBytes 2 opc ++ leBytes 2 (min result.length 240) ++ leBytes 2 detail ++ leBytes 2 rflags
    ++ leBytes 4 epoch ++ bytesAt result 0 240

/-- Write a response and make the slot DONE (R67, R69), with its event, its count and its completion interrupt. -/
def State.finish (s : State) (w slot status detail : Nat) (result : List Byte) (rflags : Nat := 0) : State :=
  let x := s.slot w slot
  let opc := s.opcode w slot
  let irq := tbit (s.flagsOf w slot) 2 || status == stABORTED
  let s := s.wrBytes (rspBase w slot) (rspBytes status x.tag opc detail rflags s.epoch result)
  let s := (s.setSlot w slot { x with st := .done, held := false }).evt (mbxBase w) R.MBX_DONE_EV_E [R.MBX_DONE_EV_DONE]
  let s := s.bump (mbxBase w + R.MBX_COMPLETED_COUNT.off)
  if irq && s.gb (mbxBase w) R.MBX_IRQ_EN then s.msix x.port (s.g (mbxBase w) R.MBX_IRQ_VECTOR) else s

/-- Return a slot to FREE with the response area of R69: NOT_READY and the latched TAG. -/
def State.clearRsp (s : State) (w slot : Nat) : State :=
  (s.wrBytes (rspBase w slot) (List.replicate 256 0)).wr (rspBase w slot) (BitVec.ofNat 32 (stNOT_READY + (s.slot w slot).tag * 65536))

/-- Every slot's number, ascending. -/
def allSlots : List (Nat × Nat) := (List.range 64).map fun k => (k / 16, k % 16)

/-- Whether a slot holds a command that has not completed. -/
def Slot.inFlight (x : Slot) : Bool := x.st == .posted || x.st == .running

/-- The image slot that a FW_STAGE under way was writing holds no valid image (R80); it never names the slot of the running image. -/
def State.dropImage (s : State) (i : Nat) : State :=
  if (tgetD s.clusters s.leader {}).slot = i then s
  else { s with boot := if i = 0 then { s.boot with img0 := [] } else if i = 1 then { s.boot with img1 := [] } else s.boot }

/-! ### Firmware images (R78, R79) -/

def Boot.img (b : Boot) (i : Nat) : List Byte := if i = 0 then b.img0 else b.img1
def Boot.setImg (b : Boot) (i : Nat) (l : List Byte) : Boot := if i = 0 then { b with img0 := l } else { b with img1 := l }

def imgKey (l : List Byte) : Nat := leAt l 6 1
def imgSvn (l : List Byte) : Nat := leAt l 16 4
def imgBody (l : List Byte) : Nat := leAt l 20 4

/-- The checks of R79 in order: 0 where every check passes, else the code of the first that fails. -/
def Boot.check (b : Boot) (l : List Byte) : Nat :=
  if leAt l 0 4 != 0x49574659 || leAt l 4 2 != 1 then 1
  else if imgBody l % 4096 != 0 || 16773120 < imgBody l then 2
  else if 3 < imgKey l || Config.sha384 (bytesAt l 80 96) != Config.otpDigest (imgKey l) then 3
  else if tbit b.revoked (imgKey l) then 4
  else if imgSvn l < b.svnFloor then 5
  else if Config.sha384 (bytesAt l 512 (imgBody l)) != bytesAt l 32 48 then 6
  else if Config.ecdsaP384 (bytesAt l 80 96) (bytesAt l 176 48) (bytesAt l 224 48) (bytesAt l 0 176) then 0 else 7

def Boot.valid (b : Boot) (i : Nat) : Bool := b.check (b.img i) == 0

/-- What a cluster records of the image it runs (FIRMWARE entry), and its copy (R59). -/
def Cluster.load (x : Cluster) (img : List Byte) (slot : Nat) : Cluster :=
  { x with major := leAt img 8 1, minor := leAt img 9 1, patch := leAt img 10 2, build := leAt img 12 4, slot := slot, key := imgKey img, copy := img }

/-- A fault reaction or a change of leader (R74): EPOCH advances, and every command POSTED or RUNNING completes ABORTED_REISSUE but
the one at `keep`. Work that a command left in hand no longer answers a slot,
and an image that FW_STAGE was writing is not valid. -/
def State.abortAll (s : State) (keep : Option (Nat × Nat) := none) : State :=
  let staging := allSlots.filter fun q => (s.slot q.1 q.2).st == .running && s.opcode q.1 q.2 == 0x011 && keep != some q
  let s := each staging (fun q s => s.dropImage (s.cmdByte q.1 q.2 20)) s
  let s := { s with epoch := (s.epoch + 1) % 0x1000000 }
  let s := each allSlots (fun q s => if (s.slot q.1 q.2).inFlight && keep != some q then s.finish q.1 q.2 stABORTED 0 [] else s) s
  { s with
    chans := s.chans.map fun (k, c) => (k, { c with tun := c.tun.map fun t => { t with gone := true } }),
    cans := s.cans.map fun (k, c) => (k, { c with detSlot := none, slSlot := none }),
    clock := { s.clock with calSet := s.clock.calSet.map fun (t, _) => (t, none) },
    boot := { s.boot with update := s.boot.update.map fun u => { u with ans := if u.ans == keep then u.ans else none } } }

/-- Enter a command's result in the journal at its commit point (R75), `opened` where the result is not known yet. -/
def State.journalise (s : State) (w slot status detail : Nat) (result : List Byte) (opened : Bool := false) : State :=
  let e : JEntry := { opcode := s.opcode w slot, tag := (s.slot w slot).tag, status := status, detail := detail, result := result, opened := opened }
  { s with journal := tset s.journal (slotKey w slot) e }

/-- How the body of a command ends: committed with a result, refused with a status and a DETAIL (nothing has changed, or, with `errAt`,
only an event is recorded), or committed and left RUNNING until an event of the part completes it, with the result that its journal entry records at the commit point
(none: the entry is opened then and takes status and result with the answer; log entry 85). -/
inductive Rsp where
  | ok (s : State) (result : List Byte)
  | err (status detail : Nat) (result : List Byte)
  | errAt (s : State) (status detail : Nat)
  | wait (s : State) (result : Option (List Byte) := some [])

/-- BAD_PARAM with a DETAIL, and BUSY with a reason. -/
def bad (d : Nat) : Rsp := .err stBAD d []
def busy (d : Nat) : Rsp := .err stBUSY d []
def refused (d : Nat) : Rsp := .err stREFUSED d []

/-- The lowest offset whose byte is bad (R72 step 4), over the listed checks. -/
def lowBad : List (Nat × Bool) → Option Nat
  | [] => none
  | (o, b) :: t =>
    match lowBad t with
    | none => if b then some o else none
    | some m => if b then some (min o m) else some m

/-- The lowest byte of the command area outside a command's parameters that is not 0 (R64, R72 step 4; log entry 24). -/
def State.reservedBad (s : State) (w slot : Nat) (used : List (Nat × Nat)) : Option Nat :=
  ((List.range 248).map (· + 8)).find? fun o => !used.any (fun u => u.1 ≤ o && o < u.1 + u.2) && s.cmdByte w slot o != 0

/-- Step 4 of R72: the lowest bad offset among the listed checks and the bytes outside the parameters. -/
def State.paramBad (s : State) (w slot : Nat) (checks : List (Nat × Bool)) : Option Nat :=
  let r := s.reservedBad w slot (((cmdRow (s.opcode w slot)).map (·.used)).getD [])
  match lowBad checks, r with
  | some a, some b => some (min a b)
  | some a, none => some a
  | none, r => r

/-- The checks of step 4, then the rest of the command. -/
def State.checked (s : State) (w slot : Nat) (checks : List (Nat × Bool)) (f : Rsp) : Rsp :=
  match s.paramBad w slot checks with
  | some o => bad o
  | none => f

end Sys2Proof.Machine
end

