-- ==== Sys2Proof/Machine/LanesOps.lean ====
section
/-!
DEFINITION. Lanes: state, mode, mapping and power of a lane core, held transmit requests, swap onto a spare and restore (R83 to R100).
-/
namespace Sys2Proof.Machine
open Sys2Proof

/-- The lane states (R86). -/
def laOFF : Nat := 0
def laCAL : Nat := 1
def laTRAIN : Nat := 2
def laACTIVE : Nat := 3
def laIDLE : Nat := 4
def laDEEP : Nat := 5
def laEXIT : Nat := 6
def laSTANDBY : Nat := 7
def laFAILED : Nat := 8

def laneKey (d l : Nat) : Nat := d * 128 + l

def State.lane (s : State) (d l : Nat) : Lane := tgetD s.lanes (laneKey d l) {}

def State.setLane (s : State) (d l : Nat) (x : Lane) : State := { s with lanes := tset s.lanes (laneKey d l) x }

/-- The nibble of LNQ_LSTATE of a physical lane. -/
def lstateFld (l : Nat) : Fld := { off := 0x44, hi := 4 * (l % 4) + 3, lo := 4 * (l % 4), acc := .ro, rst := 0, tmr := false }

/-- The TGT field of a physical lane in LNQ_LP. -/
def tgtFld (l : Nat) : Fld := { off := 0x48, hi := 2 * (l % 4) + 1, lo := 2 * (l % 4), acc := .rw, rst := 0, tmr := false }

/-- The TRIGDUTY bit of a physical lane in LNQ_LP. -/
def dutyFld (l : Nat) : Fld := { off := 0x48, hi := 8 + l % 4, lo := 8 + l % 4, acc := .ro, rst := 0, tmr := false }

def laneB (d l : Nat) : Nat := lnqB d (l / 4)

def State.laneSt (s : State) (d l : Nat) : Nat := s.g (laneB d l) (lstateFld l)
def State.setLaneSt (s : State) (d l v : Nat) : State := s.p (laneB d l) (lstateFld l) v
def State.trigDuty (s : State) (d l : Nat) : Bool := s.gb (laneB d l) (dutyFld l)

/-- The IND registers of a physical lane. -/
def laneI (d l : Nat) : Nat := indBase d (0x20 + l / 4) + 0x1000 * (l % 4)

/-- The spare's registers of group g stand in quad 16. -/
def spareB (d g : Nat) : Nat := lnqB d 16 + 4 * g

/-- The mode of a quad, of a lane group (the mode of its quads that are not OFF), and of a physical lane (R84). -/
def State.quadMode (s : State) (d q : Nat) : Nat := s.g (lnqB d q) R.LNQ_MODE_MODE
def State.groupMode (s : State) (d g : Nat) : Nat :=
  (((List.range 4).map fun i => s.quadMode d (4 * g + i)).find? (· != 0)).getD 0
def State.laneMode (s : State) (d l : Nat) : Nat :=
  if l < 64 then s.quadMode d (l / 4) else s.g (spareB d (l - 64)) R.LNQ_SPARE_STAT_MODE

/-- The physical lane that carries a logical lane. -/
def State.physOf (s : State) (d l : Nat) : Nat := tgetD s.lmap (laneKey d l) l

/-- The logical lane that a physical lane carries, if one. -/
def State.logOf (s : State) (d p : Nat) : Option Nat :=
  if p < 64 then (if s.physOf d p = p then some p else none)
  else (List.range 16).map (· + 16 * (p - 64)) |>.find? fun l => s.physOf d l == p

/-- The channel whose bond holds a logical lane of a die. -/
def State.chanOfLane (s : State) (d l : Nat) : Option Nat :=
  (s.chans.find? fun e => e.1 / 24 == d && e.2.st != .idle && e.2.first ≤ l && l < e.2.first + e.2.lanes).map (·.1)

/-- The MAC that uses a logical lane: enabled, with its 1, 2, 4 or 8 lanes from FIRST_LANE. -/
def State.macOfLane (s : State) (d l : Nat) : Option Nat :=
  (List.range 8).find? fun m => s.gb (ethB d m) R.HDR_CTRL_EN && s.g (ethB d m) R.ETH_CFG_FIRST_LANE ≤ l
    && l < s.g (ethB d m) R.ETH_CFG_FIRST_LANE + 2 ^ s.g (ethB d m) R.ETH_CFG_RATE

/-- Whether a logical lane carries an admitted stream or a port (R95). -/
def State.laneUsed (s : State) (d l : Nat) : Bool :=
  (s.chanOfLane d l).isSome || (s.macOfLane d l).isSome || (48 ≤ l && s.groupMode d 3 == 3)

/-- Whether a lane of a group carries an admitted stream or a port. -/
def State.groupUsed (s : State) (d g : Nat) : Bool := (List.range 16).any fun i => s.laneUsed d (16 * g + i)

/-- Whether pattern generators, checkers and loopback act on a physical lane (R95): it carries no logical lane in use and is no spare in use. -/
def State.laneFree (s : State) (d p : Nat) : Bool :=
  if p < 64 then !((s.logOf d p).any (s.laneUsed d)) else s.g (spareB d (p - 64)) R.LNQ_SPARE_STAT_STATE != 1

/-- Firmware keeps ELIGIBLE equal to the lanes that carry admitted traffic (R97). -/
def State.syncEligible (s : State) (d : Nat) : State :=
  upTo 4 (fun g s => s.p (spareB d g) R.LNQ_SPARE_POL_ELIGIBLE
    ((List.range 16).foldl (fun m i => if s.laneUsed d (16 * g + i) then m + 2 ^ i else m) 0)) s

/-- A set event of a quad's LNQ_EVT with its lane. -/
def State.lnqEvt (s : State) (d l : Nat) (f : Fld) : State := s.evt (laneB d l) R.LNQ_EVT_E [f] [(R.LNQ_EVT_LANE, l % 4)]

/-- The protection-group bits of a die (R322): set or clear one, with the package event when the die becomes degraded. -/
def State.setUnprot (s : State) (d bit : Nat) (on : Bool) : State :=
  let b := fltpBase + 4 * d
  let old := s.g b R.FLT_PKG_UNPROT_GROUPS
  let new := if on then setb old bit else clrb old bit
  let s := s.p b R.FLT_PKG_UNPROT_GROUPS new
  if old = 0 && new != 0 then s.pkgEvt R.FLT_PKG_EVT_DEGRADED d else s

/-- A lane group is unprotected while its spare is in use or failed (R322). -/
def State.syncLaneProt (s : State) (d : Nat) : State :=
  s.setUnprot d 0 ((List.range 4).any fun g => s.g (spareB d g) R.LNQ_SPARE_STAT_STATE != 0)

/-- Send one comma block (R87) on a physical lane. -/
def State.sendComma (s : State) (d p : Nat) : State := s.emit (.comma d p commaBlock)

/-- A lane enters TRAIN (R86): in Strand mode its transmitter sends a comma block every 16 words. -/
def State.toTrain (s : State) (d l : Nat) : State :=
  let s := s.setLaneSt d l laTRAIN
  if s.laneMode d l = 1 then s.emit (.commaEvery d l 16) else s

/-- A Strand lane that reaches ACTIVE puts its link in HELLO (R110); links are held by logical lane. -/
def State.linkHello (s : State) (d l : Nat) : State :=
  let key := laneKey d ((s.logOf d l).getD l)
  match tget s.links key with
  | some k => { s with links := tset s.links key { k with up := false, dead := false } }
  | none => s

/-- Send one comma block and then the requests held for lane l in order (R90) on physical lane `out`, with the longest wait in 10 ns units in
LNQ_HOLDMAX. -/
def State.releaseTo (s : State) (d l out : Nat) : State :=
  let x := s.lane d l
  let q := x.hold ++ x.user
  if q.isEmpty then s
  else
    let longest := q.foldl (fun m e => max m ((s.clock.now - e.2) / 5)) 0
    let b := laneB d l + 4 * (l % 4)
    let s := s.p b R.LNQ_HOLDMAX_MAX (min 18000 (max longest (s.g b R.LNQ_HOLDMAX_MAX)))
    let s := each q (fun e s => s.emit (.sent d out e.1)) (s.sendComma d out)
    s.setLane d l { x with hold := [], user := [] }
def State.releaseHeld (s : State) (d l : Nat) : State := s.releaseTo d l l

/-- The swap in progress of the group of a physical lane, if it concerns that lane. -/
def State.swapOf (s : State) (d l : Nat) : Option Swap :=
  (tget s.swaps (d * 4 + if l < 64 then l / 16 else l - 64)).filter fun w => 64 ≤ l || w.phys == l

/-- The physical lane whose transmitter sends what lane l is given: l itself; while a swap runs, the old core until the spare's transmitter has
aligned, and after that the spare; none while neither sends (R98). -/
def State.sendsOn (s : State) (d l : Nat) : Option Nat :=
  match s.swapOf d l with
  | none => some l
  | some w => if w.txDone then some (64 + w.logical / 16) else if w.txBad then none else some w.phys

/-- Hold a transmit request (R90): 32 words in the lane, the rest with the lane's user, in order. -/
def State.holdReq (s : State) (d l unit : Nat) : State :=
  let x := s.lane d l
  let x := if x.user.isEmpty && x.hold.length < 32 then { x with hold := x.hold ++ [(unit, s.clock.now)] }
    else { x with user := x.user ++ [(unit, s.clock.now)] }
  ((s.setLane d l x).lnqEvt d l R.LNQ_EVT_TX_HELD).bump (laneB d l + R.LNQ_HOLDCNT_COUNT.off + 4 * (l % 4))

/-- Begin an exit from IDLE or DEEP (R91, R93); an exit from DEEP owes a calibration. -/
def State.beginExit (s : State) (d l : Nat) : State :=
  if s.laneSt d l = laIDLE || s.laneSt d l = laDEEP then
    (s.setLane d l { s.lane d l with calOwed := s.laneSt d l = laDEEP, lpNext := 0 }).setLaneSt d l laEXIT
  else s

/-- Whether a lane may enter IDLE or DEEP: never with trigger duty (R92), in Ethernet mode only while its MAC is disabled, and in PCIe
mode only with the PCIe link state L1, which the host brings about and no power target (R91, State.linkPower). -/
def State.lpAllowed (s : State) (d l : Nat) : Bool :=
  !s.trigDuty d l && s.laneMode d l != 3 && !(s.laneMode d l == 2 && ((s.logOf d l).bind (s.macOfLane d)).isSome)

/-- Whether a lane is in a state in which no power target can be reached. -/
def laneDark (st : Nat) : Bool := st == laOFF || st == laFAILED || st == laSTANDBY

/-- Apply a power target to a lane (R91, R93): ACTIVE begins an exit, or joins one and then withdraws a low-power target that waits for its end
(log entry 198); IDLE and DEEP are taken at once from ACTIVE, and after CAL, TRAIN or an exit in progress. DEEP is reached from IDLE directly, and
IDLE from DEEP through an exit (log entry 200). -/
def State.applyTgt (s : State) (d l t : Nat) : State :=
  let st := s.laneSt d l
  let wait (s : State) (t : Nat) : State := s.setLane d l { s.lane d l with lpNext := t }
  if t = 0 then
    if st = laEXIT || st = laCAL || st = laTRAIN then wait s 0 else s.beginExit d l
  else if t = 3 || !s.lpAllowed d l then s
  else if st = laACTIVE then s.setLaneSt d l (if t = 1 then laIDLE else laDEEP)
  else if st = laIDLE then (if t = 1 then s else s.setLaneSt d l laDEEP)
  else if st = laDEEP then (if t = 1 then wait (s.beginExit d l) 1 else s)
  else if st = laEXIT || st = laCAL || st = laTRAIN then wait s t
  else s

/-- Whether a lane stands at a power target; a lane that may not take it, or that is OFF, FAILED or standing by, is not waited for (log entry
199). -/
def State.atTarget (s : State) (d l t : Nat) : Bool :=
  let st := s.laneSt d l
  laneDark st || (if t = 0 then st == laACTIVE else st == (if t = 1 then laIDLE else laDEEP) || t == 3 || !s.lpAllowed d l)

/-- Complete every LANE_SET_POWER and LANE_SET_MODE that waits on lanes which have reached their state (R100; log entry 30): the target of the
command, or the one that has taken its place since. -/
def State.laneWaits (s : State) : State :=
  each allSlots (fun q s =>
    let (w, k) := q
    if (s.slot w k).st != .running || !(s.slot w k).held then s
    else if s.opcode w k = 0x102 then
      let d := s.cmdByte w k 8
      let qd := s.cmdByte w k 9
      let t := s.cmdByte w k 11
      if (List.range 4).all fun i =>
          let now := s.g (lnqB d qd) (tgtFld i)
          !tbit (s.cmdByte w k 10) i || s.atTarget d (4 * qd + i) t || (now != t && s.atTarget d (4 * qd + i) now)
      then s.finish w k stOK 0 [] else s
    else if s.opcode w k = 0x101 then
      let d := s.cmdByte w k 8
      let g := s.cmdByte w k 9
      if (List.range 16).all fun i => !tbit (s.cmdByte w k 10) (i / 4) || !(s.laneSt d (16 * g + i) == laCAL || s.laneSt d (16 * g + i) == laTRAIN)
      then s.finish w k stOK 0 [] else s
    else s) s

/-- Lane l reaches ACTIVE: what is held goes out, the link is in HELLO, commands that wait for it complete, and then a low-power target that
waited is taken (R90, R93, R110). -/
def State.laneUp (s : State) (d l : Nat) : State :=
  let t := (s.lane d l).lpNext
  let s := (((s.setLaneSt d l laACTIVE).releaseHeld d l).linkHello d l).laneWaits
  if t = 0 then s else ((s.setLane d l { s.lane d l with lpNext := 0 }).applyTgt d l t).laneWaits

/-- A change of a quad's mode (R84): its lanes run CAL, or are OFF; the group's spare follows the group's mode, and firmware arms the
group when it first leaves OFF (R97). -/
def State.setQuadMode (s : State) (d q m : Nat) : State :=
  let g := q / 4
  let s := s.p (lnqB d q) R.LNQ_MODE_MODE m
  let s := upTo 4 (fun i s =>
    let l := 4 * q + i
    if s.laneSt d l = laFAILED || (s.lane d l).isolated then s else s.setLaneSt d l (if m = 0 then laOFF else laCAL)) s
  let gm := s.groupMode d g
  let sp := 64 + g
  let s := if s.g (spareB d g) R.LNQ_SPARE_STAT_MODE = gm then s
    else
      let s := s.p (spareB d g) R.LNQ_SPARE_STAT_MODE gm
      if s.laneSt d sp = laFAILED then s else s.setLaneSt d sp (if gm = 0 then laOFF else laCAL)
  let s := s.syncEligible d
  if gm != 0 && !(s.lane d sp).wasOn then
    (s.setLane d sp { s.lane d sp with wasOn := true }).p (spareB d g) R.LNQ_SPARE_POL_ARMED 1
  else s

/-- The receiver of a lane has adapted its equaliser: the codes are open values (log entry 187). -/
def State.adapted (s : State) (d l : Nat) : State :=
  ((s.measured (laneI d l) R.LANE_RXEQ_DFE1).measured (laneI d l) R.LANE_RXEQ_CTLE).measured (laneI d l) R.LANE_RXEQ_VGA

/-- A full calibration has ended (R86, R90): in range, the synthesiser is locked and held requests go out; out of range, CAL_FAIL. An exit from
DEEP keeps its equaliser state (R91). A spare that carries no lane stands by; one in use trains again. -/
def State.calDone (s : State) (d l : Nat) (ok : Bool) : State :=
  let x := s.lane d l
  let s := s.p (laneI d l) R.LANE_CAL_LAST (if ok then 1 else 2)
  if !ok then (s.setLane d l { x with txBad := true }).raise d 0x0503 l
  else
    let s := (if s.laneSt d l = laEXIT then s else s.adapted d l).setLane d l { x with calOwed := false, txBad := false } |>.releaseHeld d l
    if s.laneSt d l = laEXIT then s
    else if 64 ≤ l && s.g (spareB d (l - 64)) R.LNQ_SPARE_STAT_STATE != 1 then s.setLaneSt d l laSTANDBY
    else s.toTrain d l

/-- A lane leaving IDLE or DEEP has aligned (R91, R93): comma blocks and held requests are sent. -/
def State.exitDone (s : State) (d l : Nat) : State := (s.sendComma d l).laneUp d l

/-- The word of an indirect register copied from one lane to another. -/
def State.copyInd (s : State) (d l to' off : Nat) : State := s.wr (laneI d to' + off) (s.rd (laneI d l + off))

/-- Begin a swap of a lane onto its group's spare (R98, steps 1 and 2): the spare's equaliser is seeded with the failed lane's last settings, and
it expects comma blocks at the link's PERIOD. -/
def State.beginSwap (s : State) (d logical phys : Nat) (txBad : Bool) : State :=
  let g := logical / 16
  let s := s.ps (spareB d g) [(R.LNQ_SPARE_STAT_STATE, 1), (R.LNQ_SPARE_STAT_LANE, phys)]
  let s := ((s.setLaneSt d phys laFAILED).setLaneSt d (64 + g) laTRAIN).copyInd d phys (64 + g) R.LANE_RXEQ_VGA.off
  let s := s.copyInd d phys (64 + g) R.LANE_ALIGN_PERIOD.off
  let s := { s with swaps := tset s.swaps (d * 4 + g) { logical := logical, phys := phys, txBad := txBad } }
  s.syncLaneProt d

/-- The swap's spare receive path is ACTIVE (R98, step 5): traffic resumes on it, SWAP_DONE is set in both quads, and a LANE_SWAP that
waits is answered with the lane now used. -/
def State.swapRx (s : State) (d g : Nat) (w : Swap) : State :=
  let sp := 64 + g
  let duty := s.trigDuty d w.phys
  let s := { s with lmap := tset s.lmap (laneKey d w.logical) sp }
  let s := ((s.setLaneSt d sp laACTIVE).p (laneB d sp) (dutyFld sp) (if duty then 1 else 0)).p (laneB d w.phys) (dutyFld w.phys) 0
  let x := s.lane d w.phys
  let y := s.lane d sp
  let s := (s.setLane d sp { y with hold := y.hold ++ x.hold, user := y.user ++ x.user }).setLane d w.phys { x with hold := [], user := [] }
  let s := (s.lnqEvt d w.phys R.LNQ_EVT_SWAP_DONE).lnqEvt d sp R.LNQ_EVT_SWAP_DONE
  let s := { s with swaps := if w.txDone then tdel s.swaps (d * 4 + g) else tset s.swaps (d * 4 + g) { w with rxDone := true } }
  let s := if w.txDone || !w.txBad then s.releaseTo d sp (if w.txDone then sp else w.phys) else s
  each allSlots (fun q s =>
    if (s.slot q.1 q.2).st == .running && (s.slot q.1 q.2).held && s.opcode q.1 q.2 == 0x104 && s.cmdByte q.1 q.2 8 == d && s.cmdByte q.1 q.2 9 == w.logical
    then s.finish q.1 q.2 stOK 0 [BitVec.ofNat 8 sp] else s) s

/-- Requests held in a lane go back to its user, in order: nothing is discarded (R90). -/
def Lane.kept (x : Lane) : List (Nat × Nat) := x.hold ++ x.user

/-- Isolate a lane (R97, R316). -/
def State.isolateLane (s : State) (d p : Nat) : State :=
  let x := s.lane d p
  (s.setLaneSt d p laFAILED).setLane d p { x with isolated := true, hold := [], user := x.kept }

/-- The SPARE reaction of a lane fault (R97): a swap, a core retired without one, or, as a second fault of the group, isolation. Of a spare in use
the bit is that of the lane it carries. -/
def State.laneSpare (s : State) (d p src : Nat) : State :=
  let txBad := src % 256 == 0 || src % 256 == 3
  let g := if p < 64 then p / 16 else p - 64
  if p < 64 then
    if s.laneSt d p = laFAILED || s.physOf d p != p then s
    else
      let elig := tbit (s.g (spareB d g) R.LNQ_SPARE_POL_ELIGIBLE) (p % 16) && s.gb (spareB d g) R.LNQ_SPARE_POL_ARMED
      if !elig then s.setLaneSt d p laFAILED
      else if s.laneSt d (64 + g) = laSTANDBY then s.beginSwap d p p txBad
      else s.isolateLane d p
  else if s.g (spareB d g) R.LNQ_SPARE_STAT_STATE = 1 then
    let i := ((s.logOf d p).getD (s.g (spareB d g) R.LNQ_SPARE_STAT_LANE)) % 16
    let elig := tbit (s.g (spareB d g) R.LNQ_SPARE_POL_ELIGIBLE) i && s.gb (spareB d g) R.LNQ_SPARE_POL_ARMED
    let s : State := { s with swaps := tdel s.swaps (d * 4 + g) }
    (if elig then s.isolateLane d p else s.setLaneSt d p laFAILED).p (spareB d g) R.LNQ_SPARE_STAT_STATE 2
  else ((s.setLaneSt d p laFAILED).p (spareB d g) R.LNQ_SPARE_STAT_STATE 2).syncLaneProt d

/-- Traffic returns from the spare to the original core (R98): SWAP_DONE in both quads, the spare STANDBY again. -/
def State.restoreLane (s : State) (d g : Nat) : State :=
  let sp := 64 + g
  let p := s.g (spareB d g) R.LNQ_SPARE_STAT_LANE
  let duty := s.trigDuty d sp
  let s := { s with lmap := tdel s.lmap (laneKey d p), swaps := tdel s.swaps (d * 4 + g) }
  let s := ((s.setLaneSt d p laACTIVE).setLaneSt d sp laSTANDBY).p (laneB d sp) (dutyFld sp) 0
  let s := s.copyInd d sp p R.LANE_ALIGN_PERIOD.off
  let s := s.p (laneB d p) (dutyFld p) (if duty then 1 else 0)
  let s := s.ps (spareB d g) [(R.LNQ_SPARE_STAT_STATE, 0), (R.LNQ_SPARE_STAT_LANE, 0x7F)]
  ((s.lnqEvt d p R.LNQ_EVT_SWAP_DONE).lnqEvt d sp R.LNQ_EVT_SWAP_DONE).syncLaneProt d

/-- A lane core passes its unit reset (R330): STANDBY, ready for LANE_RESTORE; a spare that was failed stands by again. -/
def State.laneReset (s : State) (d p : Nat) : State :=
  let s := (s.setLane d p { wasOn := (s.lane d p).wasOn, user := (s.lane d p).kept }).setLaneSt d p laSTANDBY
  let s := s.p (laneI d p) R.LANE_CAL_LAST 1
  if 64 ≤ p then (s.ps (spareB d (p - 64)) [(R.LNQ_SPARE_STAT_STATE, 0), (R.LNQ_SPARE_STAT_LANE, 0x7F)]).syncLaneProt d else s

/-! ### The rows of this chapter -/

def laneCalDoneF (d l : Nat) (ok : Bool) (s : State) : State :=
  if s.laneSt d l = laCAL || (s.laneSt d l = laEXIT && (s.lane d l).calOwed) then (s.calDone d l ok).laneWaits else s

/-- Whether `n` received words, one comma period apart, are all there; of a lane in another mode than Strand the alignment is that of its own
protocol, and the words are not looked at (R86, R88). -/
def State.commas (s : State) (d l n : Nat) (words : List (List Int)) (f : List Int → Bool) : Bool :=
  s.laneMode d l != 1 || (words.length == n && words.all f)

/-- Four consecutive expected comma positions that do not match (R88, R113). -/
def alignLossF (d l : Nat) (words : List (List Int)) (s : State) : State :=
  if s.laneSt d l = laACTIVE && s.commas d l 4 words (fun w => !commaSeen w) then ((s.lnqEvt d l R.LNQ_EVT_ALIGN_LOSS).toTrain d l).raise d 0x0505 l
  else s

/-- A background step (R89): applied at a permitted boundary; with trigger duty it waits for a gap; at the end of the range a Strand
lane without trigger duty calibrates fully and one with it raises CAL_RANGE. -/
def backgroundCalF (d l : Nat) (st : CalStep) (s : State) : State :=
  let x := s.lane d l
  let run := s.laneSt d l = laACTIVE || s.laneSt d l = laIDLE || s.laneSt d l = laSTANDBY
  if !run then s
  else match st with
    | .inGap => ((s.adapted d l).p (laneI d l) R.LANE_CAL_STEPS (s.g (laneI d l) R.LANE_CAL_STEPS + 1 + x.calHeld)).setLane d l { x with calHeld := 0 }
    | .noGap =>
      if s.trigDuty d l then s.setLane d l { x with calHeld := x.calHeld + 1 }
      else (s.adapted d l).p (laneI d l) R.LANE_CAL_STEPS (s.g (laneI d l) R.LANE_CAL_STEPS + 1)
    | .rangeEnd =>
      if s.trigDuty d l then s.raise d 0x0504 l
      else if s.laneMode d l = 1 then s.setLaneSt d l laCAL else s

/-- A transmit request (R90, R93, R98): sent while the lane is ACTIVE, and while a swap runs by the transmitter that then sends; held in CAL, in
TRAIN (log entry 197) and during an exit, which it begins. A lane that carries no traffic leaves the request with its user (log entry 31). -/
def transmitRequestF (d l unit : Nat) (s : State) : State :=
  let st := s.laneSt d l
  if st = laACTIVE || (s.swapOf d l).isSome then
    match s.sendsOn d l with
    | some p => s.emit (.sent d p unit)
    | none => s.holdReq d l unit
  else if st = laIDLE || st = laDEEP then (s.beginExit d l).holdReq d l unit
  else if st = laCAL || st = laTRAIN || st = laEXIT then s.holdReq d l unit
  else s.setLane d l { s.lane d l with user := (s.lane d l).user ++ [(unit, s.clock.now)] }

def headWakeF (d l : Nat) (s : State) : State :=
  if s.laneSt d l = laEXIT then s.lnqEvt d l R.LNQ_EVT_WAKE_MERGED else s.beginExit d l

def laneExitDoneF (d l : Nat) (s : State) : State :=
  if s.laneSt d l = laEXIT && !(s.lane d l).calOwed then s.exitDone d l else s

/-- The effect of a written LNQ_LP word on a quad (R92, R93). -/
def lnqLpApply (b d q : Nat) (v : Word) (s : State) : State :=
  let refused := (List.range 4).find? fun i => s.gb b (dutyFld i) && (bits v (2 * i + 1) (2 * i) = 1 || bits v (2 * i + 1) (2 * i) = 2)
  let s := s.p b R.LNQ_LP_HEAD_LP (bits v 12 12)
  let s := upTo 4 (fun i s =>
    let t := bits v (2 * i + 1) (2 * i)
    let t := if s.gb b (dutyFld i) && (t = 1 || t = 2) then 0 else t
    (s.p b (tgtFld i) t).applyTgt d (4 * q + i) t) s
  let s := match refused with
    | some i => s.lnqEvt d (4 * q + i) R.LNQ_EVT_LP_REFUSED
    | none => s
  s.laneWaits

/-- Whether a lane's checker runs: enabled, on a lane on which it acts (R95). -/
def State.checking (s : State) (d l : Nat) : Bool := tbit (s.g (laneB d l) R.LNQ_PRBS_CHK_EN) (l % 4) && s.laneFree d l

/-- Whether a lane's checker sees its own generator through near-end serial loopback, with its own pattern (R94, R95): no bit is in error then. -/
def State.looped (s : State) (d l : Nat) : Bool :=
  let b := laneB d l
  tbit (s.g b R.LNQ_LOOP_NESL) (l % 4) && tbit (s.g b R.LNQ_PRBS_GEN_EN) (l % 4) && s.g b R.LNQ_PRBS_RXPAT == s.g b R.LNQ_PRBS_TXPAT

/-- Add to PRBS_BITS and PRBS_ERR, which stop at all ones (R94). -/
def State.prbsAdd (s : State) (d l bitsN errs : Nat) : State :=
  let add (a n : Nat) (s : State) : State := { s with live := tmod s.live a 0 fun v => min (2 ^ 48 - 1) (v + n) }
  add (laneI d l + R.PRBS_BITS_LO_BITS.off) bitsN (add (laneI d l + R.PRBS_ERR_LO_ERR.off) errs s)

/-- What a locked checker has counted since it was last looked at (R94): how many bits passed and how many were wrong the spec does not fix (log
entry 208). -/
def State.prbsCount (s : State) (d l : Nat) : State :=
  if s.checking d l && (s.lane d l).prbsLock then
    let (n, s) := s.fresh
    if s.looped d l then s.prbsAdd d l n 0
    else
      let (e, s) := s.fresh
      s.prbsAdd d l n (min e n)
  else s

/-- The checkers of a quad are read (R45, R94). -/
def State.prbsSnap (s : State) (d q : Nat) : State := upTo 4 (fun i s => s.prbsCount d (4 * q + i)) s

/-- The effect of a written LNQ_PRBS word (R94, R95): what the checkers counted under the old word is counted first; a checker whose enable or
pattern changes seeds itself anew; an injected bit is one error at a checker that sees it through the loopback. -/
def lnqPrbsApply (b d q : Nat) (v : Word) (s : State) : State :=
  let s := s.prbsSnap d q
  let old := s.rd (b + R.LNQ_PRBS_CHK_EN.off)
  let s := s.ps b [(R.LNQ_PRBS_CHK_EN, bits v 15 12), (R.LNQ_PRBS_GEN_EN, bits v 11 8), (R.LNQ_PRBS_RXPAT, bits v 6 4), (R.LNQ_PRBS_TXPAT, bits v 2 0)]
  upTo 4 (fun i s =>
    let l := 4 * q + i
    let s := if bits v (12 + i) (12 + i) = bits old (12 + i) (12 + i) && bits v 6 4 = bits old 6 4 then s
      else s.setLane d l { s.lane d l with prbsLock := false }
    if bits v (16 + i) (16 + i) = 1 && bits v (8 + i) (8 + i) = 1 && s.laneFree d l then
      let s := s.emit (.prbsInvert d l)
      if s.looped d l && s.checking d l && (s.lane d l).prbsLock then s.prbsAdd d l 0 1 else s
    else s) s

/-- A write of LNQ_HOLDMAX (R90). -/
def holdmaxApply (a : Nat) (v : Word) (s : State) : State := if bits v 31 31 = 1 then s.wr a 0 else s

def cdrLossF (d l : Nat) (s : State) : State :=
  if s.laneSt d l = laACTIVE then (s.lnqEvt d l R.LNQ_EVT_CDR_LOSS).setLane d l { s.lane d l with selfChk := true } else s

def synthUnlockF (d l : Nat) (s : State) : State :=
  if s.laneSt d l = laOFF || s.laneSt d l = laDEEP then s else (s.setLane d l { s.lane d l with txBad := true }).raise d 0x0500 l

/-- The spare's transmitter has aligned (R98). -/
def spareTxAlignedF (d g : Nat) (s : State) : State :=
  match tget s.swaps (d * 4 + g) with
  | none => s
  | some w =>
    if w.txDone then s
    else
      let s : State := { s with swaps := if w.rxDone then tdel s.swaps (d * 4 + g) else tset s.swaps (d * 4 + g) { w with txDone := true } }
      if w.txBad then (s.sendComma d (64 + g)).releaseTo d (if w.rxDone then 64 + g else w.phys) (64 + g) else s

/-- The pattern checker (R94, R95). -/
def prbsRelockF (d l : Nat) (loss : Bool) (s : State) : State :=
  let x := s.lane d l
  if !s.checking d l then s
  else if loss then
    if x.prbsLock then (((s.prbsCount d l).setLane d l { x with prbsLock := false }).bump (laneI d l + R.PRBS_LOSS_LOSS.off)).lnqEvt d l R.LNQ_EVT_PRBS_LOSS else s
  else s.setLane d l { x with prbsLock := true }

/-! ### The lane commands (R100) -/

def laneQueryB (w k : Nat) (s : State) : Rsp :=
  let d := s.cmdByte w k 8
  let g := s.cmdByte w k 9
  s.checked w k [(8, s.nd ≤ d), (9, 3 < g)] <|
  if !s.dieUp d then busy 5
  else
    let rec1 (p : Nat) (elig : Bool) : List Byte :=
      leBytes 1 p ++ leBytes 1 (s.laneSt d p) ++ leBytes 1 (s.laneMode d p) ++ leBytes 1 ((if s.trigDuty d p then 1 else 0) + if elig then 2 else 0)
    .ok s (((List.range 16).map fun i => rec1 (s.physOf d (16 * g + i)) (tbit (s.g (spareB d g) R.LNQ_SPARE_POL_ELIGIBLE) i)).flatten ++ rec1 (64 + g) false)

/-- LANE_SET_MODE (R84, R85). A command that would leave only some of group 3's quads in PCIe mode is refused with the DETAIL of the other wrong
modes (log entry 203). -/
def laneSetModeB (w k : Nat) (s : State) : Rsp :=
  let d := s.cmdByte w k 8
  let g := s.cmdByte w k 9
  let mask := s.cmdByte w k 10
  let m := s.cmdByte w k 11
  let after (i : Nat) : Nat := if tbit mask i then m else s.quadMode d (4 * g + i)
  s.checked w k [(8, s.nd ≤ d), (9, 3 < g), (10, 15 < mask), (11, 3 < m)] <|
  if (m = 3 && g != 3) || (m != 0 && (List.range 4).any fun i => after i != 0 && after i != m)
      || ((List.range 4).any (after · == 3) && !(List.range 4).all (after · == 3)) then bad 11
  else if !s.dieUp d then busy 5
  else if s.groupUsed d g then busy 1
  else
    let s1 := upTo 4 (fun i s => if tbit mask i && !s.gb (lnqB d (4 * g + i)) R.HDR_CTRL_EN && s.gb (lnqB d (4 * g + i)) R.HDR_CTRL_QUIESCED
      then s.setQuadMode d (4 * g + i) m else s) s
    .wait s1

def laneSetPowerB (w k : Nat) (s : State) : Rsp :=
  let d := s.cmdByte w k 8
  let q := s.cmdByte w k 9
  let mask := s.cmdByte w k 10
  let t := s.cmdByte w k 11
  s.checked w k [(8, s.nd ≤ d), (9, 15 < q), (10, 15 < mask), (11, 2 < t)] <|
  if !s.dieUp d || (List.range 4).any (fun i => tbit mask i && (s.lane d (4 * q + i)).isolated) then busy 5
  else if t != 0 && (List.range 4).any (fun i => tbit mask i && s.trigDuty d (4 * q + i)) then busy 2
  else .wait (upTo 4 (fun i s => if tbit mask i then (s.p (lnqB d q) (tgtFld i) t).applyTgt d (4 * q + i) t else s) s)

/-- `n` set events of a quad's LNQ_EVT in as many cycles. -/
def State.lnqEvts (s : State) (d l : Nat) (f : Fld) (n : Nat) : State := upTo n (fun _ s => s.lnqEvt d l f) s

/-- LANE_PRBS. A spare in use of an idle group is refused as a lane that carries traffic (R95; log entry 204). -/
def lanePrbsB (bitsN errs relocks : Nat) (w k : Nat) (s : State) : Rsp :=
  let d := s.cmdByte w k 8
  let l := s.cmdByte w k 9
  let dur := s.cp w k 16 4
  s.checked w k [(8, s.nd ≤ d), (9, 67 < l), (10, 6 < s.cmdByte w k 10), (11, 6 < s.cmdByte w k 11), (12, 1 < s.cmdByte w k 12),
    (16, dur = 0 || 10000000 < dur)] <|
  if !s.dieUp d || (s.lane d l).isolated then busy 5
  else if s.groupUsed d (if l < 64 then l / 16 else l - 64) || !s.laneFree d l then busy 1
  else
    let top := 2 ^ 48 - 1
    let s1 := s.prbsAdd d l bitsN errs
    let s2 := (s1.bump (laneI d l + R.PRBS_LOSS_LOSS.off) relocks).lnqEvts d l R.LNQ_EVT_PRBS_LOSS relocks
    .ok s2 (leBytes 8 (min top bitsN) ++ leBytes 8 (min top errs) ++ leBytes 2 relocks)

def laneSwapB (w k : Nat) (s : State) : Rsp :=
  let d := s.cmdByte w k 8
  let l := s.cmdByte w k 9
  let p := s.physOf d l
  s.checked w k [(8, s.nd ≤ d), (9, 63 < l)] <|
  if !s.dieUp d || (s.lane d p).isolated then busy 5
  else if p != l || s.laneSt d (64 + l / 16) != laSTANDBY then busy 3
  else .wait (s.beginSwap d l l (s.laneSt d l == laFAILED || (s.lane d l).txBad)) (some [BitVec.ofNat 8 (64 + l / 16)])

def laneRestoreB (loopOk : Bool) (w k : Nat) (s : State) : Rsp :=
  let d := s.cmdByte w k 8
  let g := s.cmdByte w k 9
  let p := s.g (spareB d g) R.LNQ_SPARE_STAT_LANE
  s.checked w k [(8, s.nd ≤ d), (9, 3 < g)] <|
  if !s.dieUp d then busy 5
  else if s.g (spareB d g) R.LNQ_SPARE_STAT_STATE != 1 then .ok s []
  else if (s.lane d (64 + g)).isolated then busy 5
  else if s.laneSt d p != laSTANDBY || !loopOk then busy 4
  else .ok (s.restoreLane d g) []

def laneSetEqB (w k : Nat) (s : State) : Rsp :=
  let d := s.cmdByte w k 8
  let l := s.cmdByte w k 9
  s.checked w k [(8, s.nd ≤ d), (9, 67 < l), (10, 7 < s.cmdByte w k 10), (11, 31 < s.cmdByte w k 11), (12, 63 < s.cmdByte w k 12),
    (13, 31 < s.cmdByte w k 13)] <|
  if !s.dieUp d || (s.lane d l).isolated then busy 5
  else .ok (s.ps (laneI d l) [(R.LANE_TXEQ_PRESET, s.cmdByte w k 10), (R.LANE_TXEQ_PRE, s.cmdByte w k 11),
    (R.LANE_TXEQ_MAIN, s.cmdByte w k 12), (R.LANE_TXEQ_POST, s.cmdByte w k 13)]) []

/-- LANE_RECAL: a full calibration; a lane that is OFF has no synthesiser to calibrate (log entry 32). A lane with trigger duty is refused for that
before its group's traffic is looked at (log entry 201). -/
def laneRecalB (inRange : Bool) (w k : Nat) (s : State) : Rsp :=
  let d := s.cmdByte w k 8
  let l := s.cmdByte w k 9
  s.checked w k [(8, s.nd ≤ d), (9, 67 < l)] <|
  if !s.dieUp d || (s.lane d l).isolated then busy 5
  else if s.trigDuty d l then busy 2
  else if s.groupUsed d (if l < 64 then l / 16 else l - 64) then busy 1
  else if s.laneMode d l = 0 || s.laneSt d l = laFAILED then .ok s []
  else .ok ((s.setLaneSt d l laCAL).calDone d l inRange) []

end Sys2Proof.Machine
end

