-- ==== Sys2Proof/Machine/StrandOps.lean ====
section
/-!
DEFINITION. Strand links: sequence state, acknowledgement and replay, link-up, tunnel and head events, the CSI-2 packets of a channel
and how its lines are matched, filled and closed (R101 to R129).
-/
namespace Sys2Proof.Machine
open Sys2Proof

/-- Bits of the flags word (R6). -/
def flCRC : Nat := 0
def flHDRFIX : Nat := 1
def flMALF : Nat := 2
def flLATE : Nat := 3
def flABSENT : Nat := 4
def flHALF : Nat := 5
def flCOARSE : Nat := 6
def flREISSUED : Nat := 7
def flGAP : Nat := 8
def flSPARED : Nat := 9

def State.chan (s : State) (ch : Nat) : Chan := tgetD s.chans ch {}
def State.setChan (s : State) (ch : Nat) (x : Chan) : State := { s with chans := tset s.chans ch x }
def State.modChan (s : State) (ch : Nat) (f : Chan → Chan) : State := s.setChan ch (f (s.chan ch))

/-- Whether a channel is admitted (its removal, if asked for, has not yet taken effect). -/
def Chan.admitted (c : Chan) : Bool := c.st == .joining || c.st == .running || c.st == .removing

/-- The link of a physical lane. -/
def State.link (s : State) (d l : Nat) : Link := tgetD s.links (laneKey d l) {}
def State.setLink (s : State) (d l : Nat) (x : Link) : State := { s with links := tset s.links (laneKey d l) x }

/-- Links are held by logical lane: a swap carries the sequence state over (R110, R125). -/
def State.linkLane (s : State) (d p : Nat) : Nat := (s.logOf d p).getD p

/-- STR_CNT[i] of a channel. -/
def strCnt (ch i : Nat) : Nat := strB ch + R.STR_CNT_COUNT.off + 4 * i
def State.strBump (s : State) (ch i : Nat) (n : Nat := 1) : State := s.bump (strCnt ch i) n

/-- A set event of a channel's STR_EVT. -/
def State.strEvt (s : State) (ch : Nat) (f : List Fld) (stream : Nat := 0) : State :=
  s.evt (strB ch) R.STR_EVT_E f [(R.STR_EVT_STREAM, stream)]

/-- The link state of a channel (R110), from its first lane. -/
def State.linkState (s : State) (ch : Nat) : Nat :=
  let c := s.chan ch
  let d := ch / 24
  let p := s.physOf d c.first
  let k := s.link d c.first
  if c.st == .idle then 0
  else if (tget s.swaps (d * 4 + c.first / 16)).any (fun w => w.logical == c.first && !w.rxDone) then 5
  else if s.laneSt d p = laTRAIN then 1
  else if s.laneSt d p != laACTIVE || k.dead then 0
  else if !k.up then 2 else if k.nak.isSome then 4 else 3

/-- What STR_LINK reads: the credits kept in it, and the link as it stands (R110). -/
def State.strLink (s : State) (ch : Nat) : Word :=
  let w := s.rd (strB ch + R.STR_LINK_STATE.off)
  let last := if (s.chan ch).st == .idle then 0 else (s.link (ch / 24) (s.chan ch).first).last
  putBits (putBits w R.STR_LINK_STATE.hi R.STR_LINK_STATE.lo (s.linkState ch)) R.STR_LINK_LAST_CSEQ.hi R.STR_LINK_LAST_CSEQ.lo last

/-! ### Codewords sent (R101 to R103, R106, R109) -/

/-- Send a codeword with one flit on a logical lane: a sequenced one takes the next CSEQ and is kept until the head acknowledges it. In which
place of the superframe it goes is a matter of the moment, which the model leaves open (log entry 209). -/
def State.sendFlit (s : State) (d l : Nat) (f : Flit) : State :=
  let (n, s) := s.fresh
  let pos := n % sfCodewords
  let k := s.link d l
  let cseq := if f.sequenced then (k.txSeq + 1) % 65536 else k.txSeq
  let cw : Codeword := { seqd := f.sequenced, hitches := k.hitches, cseq := cseq, flits := [f] }
  let k := if f.sequenced then { k with txSeq := cseq, sent := k.sent ++ [(cseq, f)] } else k
  (s.setLink d l k).emit (.codeword d (s.physOf d l) pos (cw.wire pos))

/-- Send a LINK flit (R109). -/
def State.sendLink (s : State) (d l : Nat) (f : LinkFlit) : State := s.sendFlit d l { type := ftLINK, body := f.bytes }

/-- Send a kept codeword again (R106). -/
def State.resend (s : State) (d l : Nat) (e : Nat × Flit) : State :=
  let (n, s) := s.fresh
  let pos := n % sfCodewords
  let cw : Codeword := { seqd := true, hitches := (s.link d l).hitches, cseq := e.1, flits := [e.2] }
  s.emit (.codeword d (s.physOf d l) pos (cw.wire pos))

/-- The LINK flit that acknowledges what a lane has accepted (R106). -/
def Link.ackFlit (k : Link) : LinkFlit := { ackSeq := k.last, ackValid := true }

/-! ### CSI-2 long packets (R118) -/

/-- Bits per pixel of a RAW data type. -/
def dtBits (dt : Nat) : Nat :=
  if dt = 0x2A then 8 else if dt = 0x2B then 10 else if dt = 0x2C then 12 else if dt = 0x2D then 14
  else if dt = 0x2E then 16 else if dt = 0x2F then 20 else 8

/-- Pixels and bytes of a packing group of a data type (CSI-2 v3.0; log entry 40). -/
def dtGroup (dt : Nat) : Nat × Nat :=
  if dt = 0x2B then (4, 5) else if dt = 0x2C then (2, 3) else if dt = 0x2D then (4, 7) else if dt = 0x2E then (1, 2)
  else if dt = 0x2F then (2, 5) else (1, 1)

/-- The word count of a line of a stream: for embedded data, its bytes. -/
def lineBytes (dt width : Nat) : Nat := if dt = 0x12 then width else (width + (dtGroup dt).1 - 1) / (dtGroup dt).1 * (dtGroup dt).2

/-- The largest line of a data type (R118). -/
def dtMax (dt : Nat) : Nat :=
  if dt = 0x12 then 65535 else if dt = 0x2E then 32766 else if dt = 0x2F then 26212 else 32768

/-- Whether a data type is one of R118's image types or embedded data. -/
def dtLong (dt : Nat) : Bool := dt == 0x12 || (0x2A ≤ dt && dt ≤ 0x2F)

/-- n samples of b bits: the top 8 bits of each in a byte of its own, then the low bits packed from bit 0 up. -/
def unpackHigh (b n : Nat) (g : List Byte) : List Nat :=
  let low := ofLe (g.drop n)
  let k := b - 8
  (List.range n).map fun i => (g.getD i 0).toNat * 2 ^ k + low / 2 ^ (k * i) % 2 ^ k

/-- The pixels of one packing group (log entry 40): RAW8 a byte; RAW16 two bytes, the most significant first; RAW20 two ten-bit halves, the
most significant first, packed as RAW10 samples. -/
def unpackGroup (dt : Nat) (g : List Byte) : List Nat :=
  let b := dtBits dt
  if b = 8 then [ofLe g]
  else if b = 16 then [(g.getD 0 0).toNat * 256 + (g.getD 1 0).toNat]
  else if b = 20 then
    let h := unpackHigh 10 4 g
    [h.getD 0 0 * 1024 + h.getD 1 0, h.getD 2 0 * 1024 + h.getD 3 0]
  else unpackHigh b (dtGroup dt).1 g

/-- The pixels of the whole groups of a payload, at most `width` of them. -/
def unpackPx (dt width : Nat) (data : List Byte) : List Nat :=
  let n := (dtGroup dt).2
  (((List.range (data.length / n)).map fun i => unpackGroup dt ((data.drop (i * n)).take n)).flatten).take width

/-! ### Lines (R114, R121 to R123) -/

/-- Triggers per frame unit of a channel: its generator's FU_LINES. -/
def State.fuLines (s : State) (ch : Nat) : Nat :=
  match (s.chan ch).gen with
  | some g => s.g (trgB (g / 8) + 0x40 * (g % 8)) R.TRG_GEN_FU_FU_LINES
  | none => 0

/-- The image stream of a channel. -/
def Chan.image (c : Chan) : Stream := c.streams.getD 0 {}

/-- Lines of a channel's frame unit (R197): the rows of an area frame, or the strip length. -/
def State.unitLines (s : State) (ch : Nat) : Nat := if (s.chan ch).area then ((s.chan ch).streams.getD 0 {}).height else s.fuLines ch

/-- Whether a line comes before another in line order. -/
def RawLine.before (a b : RawLine) : Bool := a.tag.seq < b.tag.seq || (a.tag.seq == b.tag.seq && a.row < b.row)

/-- The completed lines of a channel that no earlier open line holds back go to its correction slice (R153, R155, R173; log entry 215); the lines
of a channel whose logical slice is isolated go nowhere (R174). -/
def State.flushLines (s : State) (ch : Nat) : State :=
  let c := s.chan ch
  let key := ch / 24 * 8 + c.slice
  let first := (c.tags.map (·.seq)).min?
  let go := c.ready.takeWhile fun r => match first with | some m => r.tag.seq ≤ m | none => true
  if go.isEmpty then s
  else
    let s := s.modChan ch fun c => { c with ready := c.ready.drop go.length }
    if tgetD s.smap key 0 < 5 then { s with sliceQ := tset s.sliceQ key (tgetD s.sliceQ key [] ++ go) } else s

/-- Place a line in the burst store (R7), in line order. -/
def State.pushLine (s : State) (r : RawLine) : State :=
  (s.modChan r.ch fun c => { c with ready := c.ready.filter (fun x => x.before r) ++ [r] ++ c.ready.filter fun x => !x.before r }).flushLines r.ch

/-- Pixels short of the line's width take STR_FILL (R122). -/
def State.fillPx (s : State) (ch : Nat) (px : List Nat) : List Nat :=
  px ++ List.replicate ((s.chan ch).image.width - px.length) (s.g (strB ch) R.STR_FILL_FILL)

/-- Whether row r of a tag's frame unit is its last. -/
def State.lastRow (s : State) (ch : Nat) (t : Tag) (row : Nat) : Bool :=
  if (s.chan ch).area then row + 1 == (s.chan ch).image.height else t.line + 1 == s.fuLines ch

/-- The rows a tag still lacks: its one line, or the rest of an area frame. -/
def Chan.missing (c : Chan) (t : Tag) : List Nat :=
  if c.area then (List.range (c.image.height - t.rows)).map (· + t.rows) else [t.line]

/-- Take the flags owed to the channel's next record. -/
def State.takeNext (s : State) (ch : Nat) : Nat × State := ((s.chan ch).nextFlags, s.modChan ch fun c => { c with nextFlags := 0 })

/-- Close a tag's line (or the rest of its area frame) with filled pixels and a flag; the entry leaves the queue (R114, R122, R149). -/
def State.closeTag (s : State) (ch : Nat) (t : Tag) (flag : Nat) : State :=
  let rows := (s.chan ch).missing t
  let (nf, s) := s.takeNext ch
  let base := setb (nf ||| (if t.coarse then 2 ^ flCOARSE else 0)) flag
  let base := if (s.chan ch).crcs.contains t.frame then setb base flCRC else base
  let s := each rows (fun r s => s.pushLine { ch := ch, tag := t, row := r, px := s.fillPx ch [], bytes := [], flags := base, lastFu := s.lastRow ch t r }) s
  let s := match (s.chan ch).held with
    | some r => if r.tag.fid = t.fid then s.pushLine { r with flags := r.flags ||| base } else s
    | none => s
  (s.modChan ch fun c => { c with tags := c.tags.filter (·.seq != t.seq), held := c.held.filter fun r => r.tag.fid != t.fid }).flushLines ch

/-- A LATE line (R122): its count, its event and its source. -/
def State.lateMark (s : State) (ch : Nat) : State := ((s.strBump ch 11).strEvt ch [R.STR_EVT_LATE]).raiseCh ch 0x0603

/-- A MALFORMED case (R122), its flag owed to the next record where `next` says so. -/
def State.malformed (s : State) (ch : Nat) (next : Bool) : State :=
  let s := ((s.strBump ch 10).strEvt ch [R.STR_EVT_MALFORMED]).raiseCh ch 0x0604
  if next then s.modChan ch fun c => { c with nextFlags := setb c.nextFlags flMALF } else s

/-- Place a tag entry (R149): a full queue of 1,024 closes its oldest line first, LATE. -/
def State.placeTag (s : State) (ch : Nat) (t : Tag) : State :=
  let s := if 1024 ≤ (s.chan ch).tags.length then
      match (s.chan ch).tags with
      | o :: _ => (s.closeTag ch o flLATE).lateMark ch
      | [] => s
    else s
  s.modChan ch fun c => { c with tags := c.tags ++ [t] }

/-- A line begins its wait under the deadline that STR_DEADLINE now holds (R123). -/
def State.withDead (s : State) (ch : Nat) (t : Tag) : Tag := { t with dead := s.g (strB ch) R.STR_DEADLINE_DEADLINE }

/-- A trigger sent to a channel's head (R121, R146): its place in the frame unit announced by the last H1, and its tag. Where the head has
closed that frame unit with an early FE, no packet will match the tag, and its line closes at its deadline (R122). -/
def State.sendTag (s : State) (ch : Nat) (t : Tag) (h1 : Bool) : State :=
  let c := s.chan ch
  let t := { s.withDead ch t with seq := c.nextSeq }
  let s := s.modChan ch fun c => { c with nextSeq := c.nextSeq + 1 }
  if h1 then
    let s := s.modChan ch fun c => { c with fus := c.fus ++ [{ fid := c.nextFid, frame := t.frame, sent := 1 }], nextFid := c.nextFid + 1, subH1 := false }
    s.placeTag ch { t with fid := c.nextFid, ord := 0 }
  else
    match c.fus.getLast? with
    | none => s.placeTag ch { t with fid := c.nextFid - 1, ord := t.line }
    | some u =>
      let s := s.modChan ch fun c => { c with fus := c.fus.dropLast ++ [{ u with sent := u.sent + 1 }] }
      s.placeTag ch { t with fid := u.fid, ord := u.sent }

/-- A trigger that falls in a transmit gap (R98, R114): not sent, its line closed at once with LATE; after a lost H1 on a line-scan
channel the next hitch goes as H1. A channel that produces no record after LINK_DOWN (R124) closes none, and counts the trigger all the same. -/
def State.hitchLost (s : State) (ch : Nat) (t : Tag) (h1 : Bool) : State :=
  let d := ch / 24
  let s := (s.lnqEvt d (s.physOf d (s.chan ch).first) R.LNQ_EVT_HITCH_LOST).strBump ch 19
  let fid := (s.chan ch).nextFid
  let seq := (s.chan ch).nextSeq
  let s := s.modChan ch fun c => { c with nextFid := fid + 1, nextSeq := seq + 1, subH1 := c.subH1 || (h1 && !c.area) }
  if (s.chan ch).down then s.strEvt ch [R.STR_EVT_LATE] else (s.closeTag ch { t with fid := fid, seq := seq } flLATE).lateMark ch

/-- 64 words of a Strand lane, in 2^-22 ns units: the least distance of two hitches on a lane (R111). -/
def hitchStep : Nat := 64 * 10 * 2 ^ 22 / 7

/-- Send a hitch on the first lane of a channel (R111, R142): its first symbol leaves 38.4 ns after the trigger's instant, and at least 64 words
after the last hitch of the lane (log entry 210). -/
def State.sendHitch (s : State) (ch : Nat) (h1 : Bool) (inst : Nat) : State :=
  let d := ch / 24
  let l := (s.chan ch).first
  let k := s.link d l
  let t := match k.lastHitch with
    | some x => if x ≤ inst then max inst (x + hitchStep) else inst
    | none => inst
  let s := s.setLink d l { k with hitches := (k.hitches + 1) % 8, lastHitch := some t }
  (s.emit (.hitch ch (hitchSyms h1) (t / 65536 + 2458))).strBump ch 14

/-- Whether a channel's transmit path is in the gap of a swap whose transmitter failed (R98). -/
def State.inTxGap (s : State) (ch : Nat) : Bool :=
  (tget s.swaps (ch / 24 * 4 + (s.chan ch).first / 16)).any fun w => w.logical == (s.chan ch).first && w.txBad && !w.txDone

/-! ### Codewords (R106, R125) -/

/-- Send a NAK unless one is outstanding (R106). -/
def State.nak (s : State) (d l : Nat) (ch : Option Nat) : State :=
  let k := s.link d l
  if k.nak.isSome then s
  else
    let s := (s.setLink d l { k with nak := some k.last }).sendLink d l { k.ackFlit with nak := true }
    match ch with
    | some c => (s.strBump c 4).strEvt c [R.STR_EVT_REPLAY]
    | none => s

/-- Drop `n` bytes from stream segments. -/
def dropSegs : Nat → List Seg → List Seg
  | _, [] => []
  | n, g :: t =>
    if g.bytes.length ≤ n then dropSegs (n - g.bytes.length) t
    else { g with bytes := g.bytes.drop n, fpo := if (g.fpo.getD 0) < n then none else g.fpo.map (· - n) } :: t

/-- Drop stream bytes up to the next packet header that an FPO points to; none where no such header has come (R120). -/
def toHeader : List Seg → Option (List Seg)
  | [] => none
  | g :: t => match g.fpo with
    | some k => some ({ g with bytes := g.bytes.drop k, fpo := some 0 } :: t)
    | none => toHeader t

/-- Stream bytes dealt to a channel (R126): while it discards up to the next FPO, only those from there on are kept. -/
def Chan.takeSegs (c : Chan) (l : List Seg) : Chan :=
  let l := l.filter (!·.bytes.isEmpty)
  if c.resync then (match toHeader l with | some r => { c with rx := r, resync := false } | none => c) else { c with rx := c.rx ++ l }

/-- Take whole codewords from the lanes of a bond in the order in which the head dealt them (R126). -/
def State.deal (s : State) (ch : Nat) : State :=
  let c0 := s.chan ch
  let d := ch / 24
  let n := (List.range c0.lanes).foldl (fun m i => m + (s.link d (c0.first + i)).data.length) 0
  upTo n (fun _ s =>
    let c := s.chan ch
    let l := c.first + c.turn % max 1 c.lanes
    let k := s.link d l
    match k.data with
    | [] => s
    | g :: t => (s.setLink d l { k with data := t }).setChan ch { c.takeSegs g with turn := (c.turn + 1) % max 1 c.lanes }) s

/-- The flits of an accepted codeword (R104): LINK flits go to the lane, DATA to the channel's stream, responses and events of the first lane to
the channel; a flit of reserved type is malformed. -/
def State.flitsIn (s : State) (d l : Nat) (ch : Option Nat) (cw : Codeword) : State :=
  let k := s.link d l
  let s := s.setLink d l { k with inbox := k.inbox ++ (cw.flits.filter (·.type == ftLINK)).map (·.body) }
  match ch with
  | none => s
  | some c =>
    let first := (s.chan c).first == l
    let segs := (cw.flits.filter (·.type == ftDATA)).map Flit.seg
    let s := s.strBump c 17 (segs.foldl (fun m g => m + g.bytes.length) 0)
    let s := if first then s.modChan c fun x => { x with
        rspIn := x.rspIn ++ (cw.flits.filter (·.type == ftRSP)).map (·.body), evIn := x.evIn ++ (cw.flits.filter (·.type == ftEVENT)).map (·.body) }
      else s
    let s := if cw.seqd then (s.setLink d l { s.link d l with data := (s.link d l).data ++ [segs] }).deal c else s
    each cw.flits (fun f s => if ftEVENT < f.type then s.malformed c true else s) s

/-- LINK flits of a codeword that arrives before HELLO has completed: nothing else is taken (R110). -/
def State.linkIn (s : State) (d l : Nat) (cw : Codeword) : State :=
  let k := s.link d l
  s.setLink d l { k with inbox := k.inbox ++ (cw.flits.filter (·.type == ftLINK)).map (·.body) }

/-- A received codeword on a physical lane (R106): uncorrectable, accepted, duplicate, or beyond a gap. -/
def codewordF (d p : Nat) (cw : Codeword) (s : State) : State :=
  let l := s.linkLane d p
  let k := s.link d l
  let ch := s.chanOfLane d l
  let onCh (f : Nat → State → State) (s : State) : State := match ch with | some c => f c s | none => s
  if s.laneSt d p != laACTIVE || s.laneMode d p != 1 then s
  else if !k.up then (if cw.uncorr then s else s.linkIn d l cw)
  else
  let (inj, s) := match ch with
    | some c => s.takeInj d [0x0600] (c % 24)
    | none => (0, s)
  let cw : Codeword := if inj = 0 then cw else if inj = 1 then { cw with corrected := cw.corrected + 1 } else { cw with uncorr := true }
  if cw.uncorr then
    let s := onCh (fun c s => ((s.strBump c 3).strEvt c [R.STR_EVT_CW_UNCORR]).raiseCh c 0x0600) s
    s.nak d l ch
  else
    let s := if cw.corrected = 0 then s else onCh (fun c s => (s.strBump c 1).strBump c 2 cw.corrected) s
    let behind := (k.last + 65536 - cw.cseq % 65536) % 65536
    if cw.seqd && behind = 65535 then
      let s := s.setLink d l { k with last := cw.cseq % 65536, nak := none, unacked := k.unacked + 1, foFrom := none }
      let s := onCh (fun c s =>
        let s := s.strBump c 0
        if k.foFrom.isSome then (s.strBump c 16).strEvt c [R.STR_EVT_FAILOVER] else s) s
      s.flitsIn d l ch cw
    else if cw.seqd && behind ≤ 32767 then onCh (fun c s => s.strBump c 5) s
    else if !cw.seqd && behind ≤ 32767 then s.flitsIn d l ch cw
    else (onCh (fun c s => s.strBump c 6) s).nak d l ch

/-- CODEWORD_RX: the received symbols are descrambled and decoded (R101, R103). -/
def codewordRxF (d p : Nat) (r : RxWord) (s : State) : State := codewordF d p (Codeword.ofWire r.pos r.syms) s

def nakRepeatF (d p : Nat) (s : State) : State :=
  let l := s.linkLane d p
  match (s.link d l).nak with
  | none => s
  | some a =>
    let s := s.sendLink d l { ackSeq := a, ackValid := true, nak := true }
    match s.chanOfLane d l with
    | some c => s.strBump c 4
    | none => s

def ackSendF (d p : Nat) (s : State) : State :=
  let l := s.linkLane d p
  let k := s.link d l
  if k.unacked = 0 then s else (s.setLink d l { k with unacked := 0 }).sendLink d l k.ackFlit

/-! ### Link-up, tunnel, events, sleep (R109, R110, R115 to R117, R124) -/

/-- Answer a command of a slot that has stayed RUNNING, with its journal entry where it reached its commit point (R75). -/
def State.answer (s : State) (w k status detail : Nat) (result : List Byte) : State :=
  if w < 4 && (s.slot w k).st == .running then
    (if status = stOK then s.journalise w k status detail result else s).finish w k status detail result
  else s

/-- A tunnel request is answered: the journal entry that its command opened takes the answer, and the slot too unless the command was
aborted (R74, R75; log entry 85). -/
def State.tunnelAnswer (s : State) (t : TunReq) (status detail : Nat) (result : List Byte) : State :=
  let s := match tget s.journal (slotKey t.w t.slot) with
    | some e =>
      if e.opened && e.opcode == 0x205 && e.tag == t.ctag then
        { s with journal := tset s.journal (slotKey t.w t.slot) { e with status := status, detail := detail, result := result, opened := false } }
      else s
    | none => s
  if !t.gone && (s.slot t.w t.slot).st == .running then s.finish t.w t.slot status detail result else s

/-- Complete a tunnel request as unanswered: DETAIL 0x0001 (R115). -/
def State.tunnelFail (s : State) (t : TunReq) : State := s.tunnelAnswer t stBUSY 1 []

/-- Send the tunnel requests that have a credit, in sequenced codewords of the first lane (R115, R126). -/
def State.tunnelPump (s : State) (ch : Nat) : State :=
  upTo 16 (fun _ s =>
    let c := s.chan ch
    let cr := s.g (strB ch) R.STR_LINK_CREDITS
    match c.tun.find? (!·.sent) with
    | some t =>
      if cr = 0 then s
      else
        let s := (s.p (strB ch) R.STR_LINK_CREDITS (cr - 1)).sendFlit (ch / 24) c.first (reqFlit t.tag t.op t.len t.addr t.data)
        s.setChan ch { c with tun := c.tun.map fun x => if x.tag == t.tag then { x with sent := true } else x }
    | none => s) s

/-- What a channel has received and not yet used is discarded (R110, R124): the frame unit it had open ends, and data counts again from the first
frame unit that starts with an H1 from now on. -/
def State.dropRx (s : State) (ch : Nat) : State :=
  let c := s.chan ch
  let d := ch / 24
  let s := each ((List.range c.lanes).map (· + c.first)) (fun l s => s.setLink d l { s.link d l with data := [] }) s
  s.modChan ch fun c => { c with
    rx := [], turn := 0, resync := false, live := false, rspIn := [], evIn := [], fuOpen := false, fus := [], row := 0, rows := [0, 0, 0, 0], lsOpen := false }

/-- LINK_DOWN of a channel (R124): open lines close at their deadlines; no record follows until the link is UP and an H1 starts anew. -/
def State.linkDownCh (s : State) (ch : Nat) : State :=
  let c := s.chan ch
  let d := ch / 24
  let s := (s.strEvt ch [R.STR_EVT_LINK_DOWN]).raiseCh ch 0x0605
  let s := each ((List.range c.lanes).map (· + c.first)) (fun l s => s.setLink d l { s.link d l with up := false, dead := true, nak := none }) s
  (s.dropRx ch).modChan ch fun c => { c with down := true }

/-- The part's answer to a valid HELLO (R109, R110): HELLO_VALID, its protocol version, and nothing acknowledged yet. -/
def helloFlit : LinkFlit := { ackSeq := 0xFFFF, ackValid := true, hello := true, pver := 1 }

/-- A valid HELLO starts the sequence state afresh (R110), and the lane sends a comma block after every 120 codewords (R101). -/
def State.helloOk (s : State) (d l : Nat) (f : LinkFlit) : State :=
  let k := s.link d l
  let s := (s.setLink d l { up := true, hbuf := f.hbuf, hid := f.hid, cred := f.hcred, inbox := k.inbox, hitches := k.hitches, lastHitch := k.lastHitch })
    |>.sendLink d l helloFlit
  let p := s.physOf d l
  let s := (s.p (laneI d p) R.LANE_ALIGN_PERIOD sfWords).emit (.commaEvery d p sfWords)
  match s.chanOfLane d l with
  | none => s
  | some ch =>
    if (s.chan ch).first != l then s
    else
      let s := each (s.chan ch).tun (fun t s => s.tunnelFail t) s
      let s := (s.dropRx ch).modChan ch fun c => { c with tun := [] }
      s.ps (strB ch) [(R.STR_HBUF_HBUF, f.hbuf), (R.STR_HID_HID, f.hid), (R.STR_LINK_CREDITS, f.hcred)]

/-- A HELLO that is refused (R110, R124): LINK_DOWN, and the link stays in HELLO. -/
def State.helloBad (s : State) (d l : Nat) : State :=
  match s.chanOfLane d l with
  | some c => (s.linkDownCh c).setLink d l { (s.linkDownCh c).link d l with dead := false }
  | none => s

/-- A head's sleep request (R92, R117). -/
def State.sleepReq (s : State) (d p : Nat) : State :=
  let l := s.linkLane d p
  let ok := s.laneSt d p = laACTIVE && !s.trigDuty d p && s.gb (laneB d p) R.LNQ_LP_HEAD_LP && (s.chanOfLane d l).isNone
  if ok then
    let t := s.g (laneB d p) (tgtFld p)
    let s := (s.sendLink d l { sleepAck := true }).setLaneSt d p (if t = 1 then laIDLE else laDEEP)
    s.setLink d l { s.link d l with up := false }
  else s.sendLink d l { sleepRefused := true }

/-- What a LINK flit acknowledges leaves the lane's kept codewords, and what a NAK asks for again is sent again, in order (R106). -/
def State.headAck (s : State) (d l : Nat) (f : LinkFlit) : State :=
  if !f.ackValid && !f.nak then s
  else
    let k := s.link d l
    let s := s.setLink d l { k with sent := k.sent.filter fun e => 32767 < (f.ackSeq + 65536 - e.1) % 65536 }
    if f.nak then each (s.link d l).sent (fun e s => s.resend d l e) s else s

/-- A received LINK flit (R109). -/
def linkFlitF (d p : Nat) (f : LinkFlit) (s : State) : State :=
  if (s.laneSt d p != laACTIVE && s.laneSt d p != laEXIT) || s.laneMode d p != 1 then s
  else
    let l := s.linkLane d p
    let ch := s.chanOfLane d l
    let s := if (s.link d l).up then s.headAck d l f else s
    let s := match ch, f.creditValid with
      | some c, true => (s.p (strB c) R.STR_LINK_CREDITS (s.g (strB c) R.STR_LINK_CREDITS + f.credit)).tunnelPump c
      | none, true => s.setLink d l { s.link d l with cred := (s.link d l).cred + f.credit }
      | _, false => s
    let s := if !f.hello then s
      else if (s.link d l).up then s.sendLink d l helloFlit
      else if 4117 ≤ f.hbuf && f.pver = 1 then s.helloOk d l f
      else s.helloBad d l
    if f.sleepReq then s.sleepReq d p else s

/-- LINK_FLIT_RX: the oldest LINK flit that a lane has received and not yet taken (R109); given for another body it takes none (log entry 245). -/
def linkFlitRxF (d p : Nat) (body : List Byte) (s : State) : State :=
  let l := s.linkLane d p
  let k := s.link d l
  match k.inbox with
  | [] => s
  | b :: t => if b != body then s else linkFlitF d p (LinkFlit.ofBytes b) (s.setLink d l { k with inbox := t })

/-- A tunnel response (R115): read data shorter than was asked for is followed by zeros (log entry 211); its credit returns in a LINK flit. -/
def tunnelRspF (ch tag status : Nat) (data : List Byte) (s : State) : State :=
  match (s.chan ch).tun.find? (fun t => t.tag == tag && t.sent) with
  | none => s
  | some t =>
    let s := s.modChan ch fun c => { c with tun := c.tun.filter (·.tag != tag) }
    (s.tunnelAnswer t stOK 0 (leBytes 8 (status % 256) ++ bytesAt (if t.op = 1 then data else []) 0 t.len)).tunnelPump ch

/-- TUNNEL_RSP_RX: the oldest response that a channel has received: byte 0 TAG, 1 STATUS, 2 LEN, the read data from byte 8; given for another
response it takes none (log entry 245). -/
def tunnelRspRxF (ch tag status len : Nat) (data : List Byte) (s : State) : State :=
  match (s.chan ch).rspIn with
  | [] => s
  | b :: t =>
    if bodyNat b 0 1 != tag || bodyNat b 1 1 != status || bodyNat b 2 1 != len || (b.drop 8).take len != data then s
    else tunnelRspF ch tag status data (s.modChan ch fun c => { c with rspIn := t })

def tunnelTimeoutF (ch tag : Nat) (s : State) : State :=
  match (s.chan ch).tun.find? (·.tag == tag) with
  | none => s
  | some t =>
    let s := s.modChan ch fun c => { c with tun := c.tun.filter (·.tag != tag) }
    let s := if t.sent then s.p (strB ch) R.STR_LINK_CREDITS (s.g (strB ch) R.STR_LINK_CREDITS + 1) else s
    (s.tunnelFail t).tunnelPump ch

/-- A head event (R116); code 0x0001 is a hitch-count mismatch (R112). -/
def eventFlitF (ch code value : Nat) (s : State) : State :=
  let s := s.ps (strB ch) [(R.STR_HEVT_CODE, code), (R.STR_HEVT_VAL_VALUE, value)]
  let s := s.modChan ch fun c => { c with events := (c.events ++ [(code % 65536, value % 2 ^ 32)]).drop (c.events.length + 1 - 16) }
  if code = 1 then ((s.strEvt ch [R.STR_EVT_HEAD_EVENT, R.STR_EVT_HITCH_MISMATCH]).strBump ch 15).raiseCh ch 0x0606
  else s.strEvt ch [R.STR_EVT_HEAD_EVENT]

/-- EVENT_FLIT_RX: the oldest event that a channel has received: CODE in bytes 0 and 1, VALUE in bytes 4 to 7; given for another event it takes
none (log entry 245). -/
def eventFlitRxF (ch code value : Nat) (s : State) : State :=
  match (s.chan ch).evIn with
  | [] => s
  | b :: t =>
    if bodyNat b 0 2 != code || bodyNat b 4 4 != value then s else eventFlitF ch code value (s.modChan ch fun c => { c with evIn := t })

/-! ### CSI-2 packets (R119 to R122) -/

/-- A frame unit being received ends: the next packet of the channel needs an FS. -/
def State.unitEnd (s : State) (ch : Nat) (rest : List FUnit) : State :=
  s.modChan ch fun c => { c with
    fuOpen := false, fus := rest, row := 0, rows := [0, 0, 0, 0], lsOpen := false,
    crcs := c.crcs.filter fun f => c.tags.any (·.frame == f) || rest.any (·.frame == f) || (c.lastTrig.map (·.1)) == some f }

/-- Close the frame unit being received: lines not received are filled and marked MALFORMED (R122, FS while a unit is open). -/
def State.closeUnit (s : State) (ch : Nat) : State :=
  match (s.chan ch).fus with
  | [] => s.unitEnd ch []
  | u :: rest =>
    let ts := (s.chan ch).tags.filter (·.fid == u.fid)
    let s := each ts (fun t s => s.closeTag ch t flMALF) s
    (if ts.isEmpty then s else s.malformed ch false).unitEnd ch rest

/-- FS (R121, R122). -/
def State.fsIn (s : State) (ch : Nat) : State :=
  let s := if (s.chan ch).fuOpen then s.closeUnit ch else s
  match (s.chan ch).fus with
  | [] => s.malformed ch true
  | _ :: _ => s.modChan ch fun c => { c with fuOpen := true, row := 0, rows := [0, 0, 0, 0], lsOpen := false, rowFlags := 0 }

/-- FE (R121, R122): an area frame is complete; a stray FE has no effect (log entry 42). -/
def State.feIn (s : State) (ch : Nat) : State :=
  let c := s.chan ch
  if !c.fuOpen then s
  else match c.fus with
  | [] => s
  | u :: rest =>
    let s := if c.area then
        match c.tags.find? (·.fid == u.fid) with
        | some t => if t.rows < c.image.height then (s.closeTag ch t flMALF).malformed ch false
            else
              let s := match c.held with
                | some r => s.pushLine r
                | none => s
              (s.modChan ch fun c => { c with tags := c.tags.filter (·.fid != u.fid), held := none }).flushLines ch
        | none => s
      else s
    (s.unitEnd ch rest).modChan ch fun c => { c with lastFe := some u.frame }

/-- A failed CRC-16 of a packet of a stream (R120): counted, and CRC_ERR on this and every later record of the open frame unit. -/
def State.crcBad (s : State) (ch stream : Nat) : State :=
  let s := ((s.strBump ch 7).strEvt ch [R.STR_EVT_CRC_ERR] stream).raiseCh ch 0x0602
  match (s.chan ch).fuOpen, (s.chan ch).fus with
  | true, u :: _ => s.modChan ch fun c => { c with crcs := if c.crcs.contains u.frame then c.crcs else c.crcs ++ [u.frame] }
  | _, _ => s

/-- A long packet of the image stream (R121, R122). -/
def State.imageIn (s : State) (ch : Nat) (p : Csi2Packet) : State :=
  let c := s.chan ch
  if !c.fuOpen then s.malformed ch true
  else match c.fus with
  | [] => s.malformed ch true
  | u :: _ =>
    let w := c.image.width
    let want := lineBytes p.dt w
    let tag := if c.area then c.tags.find? (·.fid == u.fid) else c.tags.find? (fun t => t.fid == u.fid && t.ord == c.row)
    let early := if c.area then c.image.height ≤ c.row else u.sent ≤ c.row
    if early then s.malformed ch true
    else match tag with
    | none => (s.strBump ch 12 p.data.length).modChan ch fun c => { c with row := c.row + 1 }
    | some t =>
      let bad := p.data.length != want
      let s := if bad then s.malformed ch false else s
      let (nf, s) := s.takeNext ch
      let fl := nf ||| (if bad then 2 ^ flMALF else 0) ||| (if (s.chan ch).crcs.contains t.frame then 2 ^ flCRC else 0)
        ||| (if p.hdr == .fixed then 2 ^ flHDRFIX else 0) ||| (if t.coarse then 2 ^ flCOARSE else 0) ||| (s.chan ch).rowFlags
      let row := if c.area then c.row else t.line
      let data := p.data.take want
      let r : RawLine := { ch := ch, tag := t, row := row, px := s.fillPx ch (unpackPx p.dt w data), bytes := data, flags := fl, lastFu := s.lastRow ch t row }
      let s := if c.area && r.lastFu then s.modChan ch fun c => { c with held := some r } else s.pushLine r
      let mine (x : Tag) : Bool := x.seq == t.seq
      (s.modChan ch fun c => { c with
        row := c.row + 1, rowFlags := 0,
        tags := if c.area then c.tags.map fun x => if mine x then { x with rows := row + 1 } else x else c.tags.filter fun x => !mine x }).flushLines ch

/-- A long packet of stream 1, 2 or 3 (R121, R122): it belongs to the frame unit that is open, and gives no record (log entry 43). -/
def State.sideIn (s : State) (ch n : Nat) (x : Stream) (p : Csi2Packet) : State :=
  let c := s.chan ch
  let row := c.rows.getD n 0
  if !c.fuOpen || (c.area && x.height ≤ row) then s.malformed ch true
  else
    let s := if p.data.length = lineBytes x.dt x.width then s else s.malformed ch false
    s.modChan ch fun c => { c with rows := c.rows.set n (row + 1) }

/-- The stream of a channel that a long packet belongs to. -/
def Chan.streamOf (c : Chan) (p : Csi2Packet) : Option Nat := c.streams.findIdx? fun t => t.vc == p.vc && t.dt == p.dt

/-- A CSI-2 packet accepted in order (R118 to R122, R127): before the first FS of a frame unit announced to the head, data is discarded without
flags. -/
def csi2F (ch : Nat) (p : Csi2Packet) (s : State) : State :=
  let c := s.chan ch
  let start := p.hdr != .uncorr && p.dt == 0 && p.vc == c.image.vc && !c.fus.isEmpty
  if !c.live && !start then s.strBump ch 13
  else
    let s := s.modChan ch fun c => { c with live := true }
    let (crc, s) := if p.dt ≤ 15 || p.hdr == .uncorr then (0, s) else s.takeInj (ch / 24) [0x0602] (ch % 24)
    let p : Csi2Packet := { p with crcOk := p.crcOk && crc == 0 }
    match p.hdr with
    | .uncorr => ((s.strBump ch 9).strEvt ch [R.STR_EVT_HDR_UNCORR]).raiseCh ch 0x0601
    | h =>
      let s := if h == .fixed then (s.strBump ch 8).strEvt ch [R.STR_EVT_HDR_FIXED] else s
      let owe (s : State) : State := if h == .fixed then s.modChan ch fun c => { c with nextFlags := setb c.nextFlags flHDRFIX } else s
      let onImage := p.vc == c.image.vc
      if p.dt ≤ 3 then
        if !c.streams.any (·.vc == p.vc) then s.strBump ch 13
        else if !onImage then s
        else if p.dt = 0 then owe (s.fsIn ch)
        else if p.dt = 1 then owe (s.feIn ch)
        else if p.dt = 2 then
          let s := if c.lsOpen then s.malformed ch true else s
          owe (s.modChan ch fun c => { c with lsOpen := true })
        else owe (s.modChan ch fun c => { c with lsOpen := false })
      else
        let i := c.streamOf p
        let s := if p.crcOk || p.dt ≤ 15 then s
          else if i.isSome then s.crcBad ch (i.getD 0) else ((s.strBump ch 7).strEvt ch [R.STR_EVT_CRC_ERR]).raiseCh ch 0x0602
        if !dtLong p.dt then s.strBump ch 13
        else match i with
        | none => s.strBump ch 13
        | some 0 => s.imageIn ch p
        | some n => s.sideIn ch n (c.streams.getD n {}) p

/-- The packet at the front of a channel's stream, with its length in bytes; none while it has not come whole (R118 to R120). -/
def packetAt (rx : List Seg) : Option (Csi2Packet × Nat) :=
  let l := (rx.map (·.bytes)).flatten
  if l.length < 4 then none
  else
    let (v, chk) := hdrCheck (leAt l 0 4)
    let x2 := match rx with
      | g :: _ => if g.vcx2 then 1 else 0
      | [] => 0
    let dt := v % 64
    let wc := v / 256 % 65536
    let p : Csi2Packet := { hdr := chk, vc := (4 * x2 + v / 2 ^ 24 % 4) * 4 + v / 64 % 4, dt := dt, data := [], crcOk := true }
    if chk == .uncorr || dt ≤ 15 then some (p, 4)
    else if l.length < 6 + wc then none
    else
      let data := bytesAt l 4 wc
      some ({ p with data := data, crcOk := crc16 data == leAt l (4 + wc) 2 }, 6 + wc)

/-- A packet leaves the stream; one whose header could not be corrected takes the bytes up to the next header with it (R120). -/
def Chan.passPacket (c : Chan) (n : Nat) (lost : Bool) : Chan :=
  if !lost then { c with rx := dropSegs n c.rx }
  else match toHeader (dropSegs 1 c.rx) with
  | some r => { c with rx := r }
  | none => { c with rx := [], resync := true }

/-- CSI2_PACKET_RX: the next packet of a channel's stream is checked and taken; given for other bytes it takes none (log entry 245). -/
def csi2RxF (ch : Nat) (bytes : List Byte) (s : State) : State :=
  let c := s.chan ch
  match packetAt c.rx with
  | none => s
  | some (p, n) =>
    if !(s.link (ch / 24) c.first).up || !c.admitted || ((c.rx.map (·.bytes)).flatten).take n != bytes then s
    else
      let (inj, s) := s.takeInj (ch / 24) [0x0601] (ch % 24)
      let p : Csi2Packet := { p with hdr := if inj = 0 then p.hdr else if inj = 1 && p.hdr == .ok then .fixed else .uncorr }
      csi2F ch p (s.setChan ch (c.passPacket n (p.hdr == .uncorr)))

/-- When a line's deadline falls, in 2^-22 ns units from the instant of its trigger's clock (R123). -/
def Tag.due (t : Tag) : Nat := t.time + t.dead * 100 * 2 ^ 22

/-- The open line, or area frame, whose deadline falls first reaches it (R122, R123). Its frame unit stays open for what the head still sends. -/
def lineDeadlineF (ch : Nat) (s : State) : State :=
  match (s.chan ch).tags with
  | [] => s
  | t :: ts =>
    let t := ts.foldl (fun a b => if b.due < a.due then b else a) t
    (s.closeTag ch t flLATE).lateMark ch

def linkDownF (ch : Nat) (s : State) : State :=
  if (s.chan ch).admitted && !(s.link (ch / 24) (s.chan ch).first).dead then s.linkDownCh ch else s

/-- The effect of a written STR_DEADLINE (R123): clamped between STR_DEADMIN and STR_DEADMAX. -/
def strDeadlineApply (ch : Nat) (v : Word) (s : State) : State :=
  let b := strB ch
  let x := bits v 23 0
  if x < s.g b R.STR_DEADMIN_DEADMIN then (s.p b R.STR_DEADLINE_DEADLINE (s.g b R.STR_DEADMIN_DEADMIN)).strEvt ch [R.STR_EVT_DEADLINE_RAISED]
  else if s.g b R.STR_DEADMAX_DEADMAX < x then
    (s.p b R.STR_DEADLINE_DEADLINE (s.g b R.STR_DEADMAX_DEADMAX)).strEvt ch [R.STR_EVT_DEADLINE_LIMITED]
  else s.p b R.STR_DEADLINE_DEADLINE x

/-- LANE_ALIGNED (R88): three comma matches, one PERIOD apart, make a lane in TRAIN ACTIVE; the spare of a swap in progress becomes so with
SWAP_RX_ACTIVE. -/
def laneAlignedF (d l : Nat) (words : List (List Int)) (s : State) : State :=
  if s.laneSt d l != laTRAIN || !s.commas d l 3 words commaMatch || (64 ≤ l && (s.swapOf d l).any (!·.rxDone)) then s
  else s.laneUp d l

/-- A swap's spare receive path becomes ACTIVE (R98, R125): the link's failover completes with the next codeword in order. -/
def swapRxActiveF (d g : Nat) (s : State) : State :=
  match tget s.swaps (d * 4 + g) with
  | none => s
  | some w =>
    if w.rxDone then s
    else
      let s := s.swapRx d g w
      let k := s.link d w.logical
      s.setLink d w.logical { k with foFrom := if k.up then some k.last else none }

/-! ### Commands (R129); STR_SET_COMMIT stands in Admission.lean -/

/-- A set id that is open. -/
def State.setOpen (s : State) (id : Nat) : Bool := (tget s.sets id).isSome

def strSetOpenB (w k : Nat) (s : State) : Rsp :=
  s.checked w k [] <|
  match ((List.range 8).map (· + 1)).find? fun i => !s.setOpen i with
  | none => busy 1
  | some i => .ok { s with sets := tset s.sets i [] } (leBytes 1 i)

/-- The streams of STR_SET_ADD: records of width 0 are unused (log entry 44). -/
def State.addStreams (s : State) (w k : Nat) : List Stream :=
  ((List.range 4).map fun i =>
    let o := 24 + 8 * i
    ({ vc := s.cmdByte w k o, dt := s.cmdByte w k (o + 1), width := s.cp w k (o + 2) 2, height := s.cp w k (o + 4) 3 } : Stream)).filter (·.width != 0)

/-- The lowest run of free Strand lanes for a bond of n lanes (R85); 64 where there is none. -/
def State.freeLane (s : State) (d n : Nat) (taken : List Nat) : Nat :=
  ((List.range 64).find? fun l => l % 16 + n ≤ 16 && (List.range n).all fun i =>
    !s.laneUsed d (l + i) && !taken.contains (l + i) && s.quadMode d ((l + i) / 4) == 1).getD 64

def strSetAddB (w k : Nat) (s : State) : Rsp :=
  let id := s.cmdByte w k 8
  let ch := s.cp w k 10 2
  let lanes := s.cmdByte w k 12
  let first := s.cmdByte w k 13
  let lat := s.cp w k 16 4
  let dl := s.cp w k 20 4
  let area := s.cmdByte w k 15 == 1
  let strBad (i : Nat) : List (Nat × Bool) :=
    let o := 24 + 8 * i
    let wd := s.cp w k (o + 2) 2
    let dt := s.cmdByte w k (o + 1)
    if wd = 0 then [(o + 2, i == 0)]
    else [(o, 31 < s.cmdByte w k o), (o + 1, !dtLong dt || (i == 0 && dt == 0x12)), (o + 2, dtMax dt < wd),
      (o + 4, area && i == 0 && s.cp w k (o + 4) 3 == 0)]
  s.checked w k ([(8, !s.setOpen id), (10, s.nch ≤ ch), (12, !(lanes == 1 || lanes == 2 || lanes == 4 || lanes == 8)),
    (13, first != 0xFF && (63 < first || 16 < first % 16 + lanes)), (14, 2 < s.cmdByte w k 14), (15, 1 < s.cmdByte w k 15)]
    ++ ((List.range 4).map strBad).flatten) <|
  let set := tgetD s.sets id []
  if (s.chan ch).st != .idle || set.any (·.ch == ch) then bad 10
  else
    let taken := ((set.filter (·.ch / 24 == ch / 24)).map fun c => (List.range c.lanes).map (· + c.first)).flatten
    let f := if first = 0xFF then s.freeLane (ch / 24) lanes taken else first
    let e : SetChan := {
      ch := ch, lanes := lanes, first := f, trig := s.cmdByte w k 14, area := area, latency := lat, deadline := dl,
      streams := s.addStreams w k, gen := none }
    .ok { s with sets := tset s.sets id (set ++ [e]) } []

/-- STR_REMOVE (R128): the removal is scheduled for the end of each named channel's open frame unit. The spec gives no status for a channel that is
not admitted: the model answers BAD_PARAM with the offset of the mask, 8 (log entry 212). -/
def strRemoveB (w k : Nat) (s : State) : Rsp :=
  let named := (List.range 192).filter fun c => tbit (s.cmdByte w k (8 + c / 8)) (c % 8)
  let beyond := named.filter (s.nch ≤ ·)
  s.checked w k (beyond.map fun c => (8 + c / 8, true)) <|
  if named.any fun c => !(s.chan c).admitted then bad 8
  else .ok (each named (fun c s => s.modChan c fun x => { x with st := .removing }) s) []

def strTunnelB (w k : Nat) (s : State) : Rsp :=
  let ch := s.cp w k 8 2
  let op := s.cmdByte w k 10
  let len := s.cmdByte w k 11
  s.checked w k [(8, s.nch ≤ ch), (10, !(op == 1 || op == 2)), (11, len == 0 || 128 < len)] <|
  if s.linkState ch != 3 then busy 3
  else
    let c := s.chan ch
    let t : TunReq := {
      tag := c.tunTag % 256, op := op, len := len, addr := s.cp w k 12 4,
      data := if op = 2 then s.cmdBytes w k 16 len else [], sent := false, w := w, slot := k,
      ctag := (s.slot w k).tag }
    .wait ((s.setChan ch { c with tun := c.tun ++ [t], tunTag := (c.tunTag + 1) % 256 }).tunnelPump ch) none

def strQueryB (w k : Nat) (s : State) : Rsp :=
  let ch := s.cp w k 8 2
  s.checked w k [(8, s.nch ≤ ch)] <|
  let b := strB ch
  let ev := (s.chan ch).events.map fun e => leBytes 4 e.1 ++ leBytes 4 e.2
  .ok s (leBytes 4 (s.strLink ch).toNat ++ leBytes 4 (s.rd (b + 0x78)).toNat ++ leBytes 4 (s.rd (b + 0x7C)).toNat ++ bytesAt ev.flatten 0 128)

end Sys2Proof.Machine
end

