-- ==== Sys2Proof/Machine/WebOps.lean ====
section
/-!
DEFINITION. The web coordinate, encoder units, replicas, trigger generators, direct outputs and the web sync commands (R16 to R18,
R130 to R152). Coordinates are integers in 2^-16 wc; encoder times are in 1/64 ns; instants are in 2^-22 ns.
-/
namespace Sys2Proof.Machine
open Sys2Proof

/-- The time counter in 1/64 ns. -/
def State.t64 (s : State) : Nat := (s.clock.sec * 1000000000 + s.clock.ns) * 64 + s.clock.frac / 2 ^ 26

/-- A coordinate as a signed 64-bit number (R132). -/
def wrapCoord (x : Int) : Int := (x + 2 ^ 63) % 2 ^ 64 - 2 ^ 63

/-- The 64 bits of a coordinate. -/
def coordBits (x : Int) : Nat := (x % 2 ^ 64).toNat

def State.source (s : State) (i : Nat) : Source := tgetD s.sources i {}
def State.setSource (s : State) (i : Nat) (x : Source) : State := { s with sources := tset s.sources i x }
def State.gen (s : State) (i : Nat) : Gen := tgetD s.gens i {}
def State.setGen (s : State) (i : Nat) (x : Gen) : State := { s with gens := tset s.gens i x }

/-- The coordinate of a source at a time in 1/64 ns (R134). -/
def webCoord (w : Source) (t : Nat) : Int :=
  if w.hist < 2 || w.T = 0 then w.c
  else
    let f := min 0xFFFF (((t - w.te) * 65536 + w.T / 2) / w.T)
    if w.fwd then wrapCoord (w.c + f) else wrapCoord (w.c - f)

/-- The instant (1/64 ns) at which a target strictly between two counts is reached (R134). -/
def webInstant (w : Source) (x : Int) : Nat :=
  let f := ((if w.fwd then x - w.c else w.c - x) % 65536).toNat
  w.te + (f * w.T + 0x8000) / 65536

/-- Bases of a unit's, a generator's and an output's registers. -/
def unitB (i : Nat) : Nat := webB (i / 4) + 0x40 * (i % 4)
def genB (i : Nat) : Nat := trgB (i / 8) + 0x40 * (i % 8)
def outB (d o : Nat) : Nat := trgB d + 0x10 * o

/-- KIND and SRC of a generator. -/
def State.genKind (s : State) (i : Nat) : Nat := s.g (genB i) R.TRG_GEN_CFG_KIND
def State.genSrc (s : State) (i : Nat) : Nat := s.g (genB i) R.TRG_GEN_CFG_SRC

/-- Generator ids of the part, ascending. -/
def State.genIds (s : State) : List Nat := List.range (8 * s.nd)

/-- Grid point j (R139), a coordinate that wraps as one does (R132). -/
def Gen.ahead (g : Gen) (j : Nat) : Int := ((j * g.gm / g.gd : Nat) : Int)
def Gen.target (g : Gen) (j : Nat) : Int := wrapCoord (g.start + g.ahead j)

/-- How far a coordinate lies past START, counted on through every wrap: by its signed 64-bit difference from the grid point at which the
generator stands (R132). -/
def Gen.past (g : Gen) (x : Int) : Int := g.ahead g.hi + wrapCoord (x - g.target g.hi)

/-- The least j whose grid point is at or past a distance from START. -/
def Gen.firstPast (g : Gen) (o : Int) : Nat := if o ≤ 0 || g.gm = 0 then 0 else (o.toNat * g.gd + g.gm - 1) / g.gm
def Gen.firstAt (g : Gen) (x : Int) : Nat := g.firstPast (g.past x)

/-- The indices whose grid points lie in [lo, hi]. -/
def Gen.inside (g : Gen) (lo hi : Int) : List Nat :=
  let o := g.past lo
  let e := o + wrapCoord (hi - lo)
  let a := g.firstPast o
  let b := if e < 0 then 0 else g.firstPast (e + 1)
  (List.range (b - a)).map (· + a)

/-- Whether a crossing of index j fires (R144, R148): the first trigger of a run is grid point 0. In HOLD, j is greater than every index that has
fired or is about to. -/
def Gen.eligible (g : Gen) (hold : Bool) (j : Nat) : Bool :=
  if g.n = 0 && g.due.isEmpty then j == 0
  else !g.pre.contains j && (!hold || (g.hi ≤ j && g.due.all fun u => u.idx < j))

/-- The working grid or period from the staged registers (R139, R140). -/
def State.loadGrid (s : State) (i : Nat) (g : Gen) : Gen :=
  let p := s.g (genB i) R.TRG_GEN_PITCH_PITCH
  let r := s.g (genB i) R.TRG_GEN_REM_REM
  let n := s.g (genB i) R.TRG_GEN_REM_DEN
  let per := s.g (genB i) R.TRG_GEN_TPER_HI_NS * 2 ^ 32 + s.g (genB i) R.TRG_GEN_TPER_LO_FRAC
  { g with gm := if n = 0 then p else p * n + r, gd := if n = 0 then 1 else n, per := per }

/-- Whether the staged values keep R139 and the least period. -/
def stagedOk (kind pitch rem den per : Nat) : Bool :=
  (den = 0 || rem < den) && !(kind = 1 && pitch = 0) && !(kind = 2 && per < 92 * 2 ^ 32)

def State.stagedOk (s : State) (i : Nat) : Bool :=
  Sys2Proof.Machine.stagedOk (s.genKind i) (s.g (genB i) R.TRG_GEN_PITCH_PITCH) (s.g (genB i) R.TRG_GEN_REM_REM) (s.g (genB i) R.TRG_GEN_REM_DEN)
    (s.g (genB i) R.TRG_GEN_TPER_HI_NS * 2 ^ 32 + s.g (genB i) R.TRG_GEN_TPER_LO_FRAC)

/-- The instant at which a trigger fires: not before MINGAP after the last one (R145), in 2^-22 ns. -/
def State.fireAt (s : State) (i inst : Nat) : Nat :=
  match (s.gen i).lastT with
  | some t => max inst (t + s.g (genB i) R.TRG_GEN_MINGAP_MINGAP * 2 ^ 22)
  | none => inst

/-- Whether a trigger of an instant is armed: 2.0 ns, one TIME cycle, before it (R16, R141). -/
def armedAt (inst t64 : Nat) : Bool := inst ≤ (t64 + 128) * 65536

/-- The grid point on which a running distance generator fires next if the web moves forward; 0 otherwise (TRG_GEN_NEXT). -/
def State.nextPoint (s : State) (i : Nat) : Int :=
  let g := s.gen i
  if !g.running || s.genKind i != 1 then 0
  else if g.n = 0 && g.due.isEmpty then g.start
  else
    let j := g.firstAt (webCoord (s.source (s.genSrc i)) s.t64 + 1)
    g.target (if s.g (genB i) R.TRG_GEN_CFG_REV = 0 then max g.hi j else j)

/-! ### Firing (R141 to R149) -/

def State.trgEvt (s : State) (i : Nat) (f : Fld) : State := s.evt (trgB (i / 8)) R.TRG_EVT_E [f] [(R.TRG_EVT_GEN, i % 8)]

/-- The fire time of an output after a trigger's instant, in 1/64 ns (R142): 4.0 ns on the home die of the generator's source (or, with
no source, on its own die), 16.0 ns on another die and with ALIGN. -/
def State.fireLead (s : State) (i d : Nat) : Nat :=
  let home := if s.genSrc i = 0x3F then i / 8 else s.genSrc i / 4
  if d = home && !s.gb (genB i) R.TRG_GEN_CFG_ALIGN then 256 else 1024

/-- The home die of a generator's source; with no source, its own die. -/
def State.genHome (s : State) (i : Nat) : Nat := if s.genSrc i = 0x3F then i / 8 else s.genSrc i / 4

/-- Whether firing a generator on a die is cross-die or aligned firing (R18, R142). -/
def State.crossFires (s : State) (i d : Nat) : Bool := d != s.genHome i || s.gb (genB i) R.TRG_GEN_CFG_ALIGN

/-- Whether a generator fires on a die: the die is up and its replica there, if it is one, is not isolated (R151). -/
def State.firesOn (s : State) (i d : Nat) : Bool := s.dieUp d && !(s.gen i).cut.contains d

/-- Give every output bound to a generator its window (R142, R143); an output holds 16,384. One that was bound while its die's time unit was not
aligned takes no part in cross-die or aligned firing (R18; log entry 213). -/
def State.fireOutputs (s : State) (i inst : Nat) : State :=
  each (s.upDies.filter (s.firesOn i)) (fun d s => upTo 16 (fun o s =>
    let b := outB d o
    if s.gb b R.TRG_OUT_CFG_EN && s.g b R.TRG_OUT_CFG_GEN = i && !(s.crossFires i d && s.clock.barred.contains (d * 16 + o)) then
      let t := inst / 65536 + s.fireLead i d + 64 * s.g b R.TRG_OUT_DELAY_DELAY
      let ws := tgetD s.windows (d * 16 + o) []
      if ws.length < 16384 then { s with windows := tset s.windows (d * 16 + o) (ws ++ [(t, t + 64 * s.g b R.TRG_OUT_WIDTH_WIDTH, false)]) } else s
    else s) s) s

/-- Whether a channel needs its die's time unit aligned (R18): it takes hitches, or its triggers are fired across dies or aligned. -/
def State.needsAlign (s : State) (d trig : Nat) (g : Option Nat) : Bool := trig != 1 || (match g with | some i => s.crossFires i d | none => false)

/-- A trigger at one bound channel (R111, R114, R124, R127, R128, R149); the first trigger of a run, and the first after a LINK_DOWN gap,
begin a run of lines (R164). A channel that has not joined yet does so on a die whose time unit is aligned, where it needs that (R18). -/
def State.fireChan (s : State) (ch : Nat) (t : Tag) (fuStart first : Bool) : State :=
  let c := s.chan ch
  let d := ch / 24
  let up := (s.link d c.first).up
  let off := (match c.gen with | some i => !s.firesOn i d | none => !s.dieUp d) || c.st == .isolated || c.st == .idle
  if off || (c.st == .joining && (!fuStart || (tbit s.clock.unaligned d && s.needsAlign d c.trig c.gen))) || (c.st == .removing && fuStart) then s
  else
    let resume := c.down && fuStart && up
    let s := s.modChan ch fun c => { c with
      st := if c.st == .joining then .running else c.st, down := c.down && !resume, run := if resume || first then c.run + 1 else c.run,
      lastTrig := some (t.frame, t.line) }
    let hitch := c.trig != 1
    let h1 := fuStart || (hitch && c.subH1)
    let t := { t with line := if c.area then 0 else t.line, run := (s.chan ch).run }
    if hitch && s.inTxGap ch then s.hitchLost ch t h1
    else
      let s := if hitch then s.sendHitch ch h1 t.time else s
      if (s.chan ch).down then s else s.sendTag ch t h1

/-- Show RUN in TRG_GEN_CTRL. -/
def State.syncRun (s : State) (i : Nat) : State := s.p (genB i) R.TRG_GEN_CTRL_RUN (if (s.gen i).running then 1 else 0)

/-- The staged grid takes over at old grid point j (R147): that point is index 0 of the new grid. Of the old points crossed and not yet fired none
fires any more; the points of the new grid that the same edge has passed take their place. -/
def State.newGrid (s : State) (i : Nat) (g : Gen) (j : Nat) : Gen :=
  let w := s.source (s.genSrc i)
  let g1 := { s.loadGrid i g with
    start := g.target j, hi := 0, pre := if g.pre.contains j then [0] else [], t0 := g.t0 + j * g.per, k := 1, due := [] }
  let due := match g.due with
    | [] => []
    | u :: _ => if !w.fwd then []
      else (g1.inside (g1.start + 1) w.c).map fun k =>
        let x := g1.target k
        let coarse := if x = w.c then w.hist < 2 else u.coarse
        { idx := k, coord := if coarse then w.c else x, inst := w.te * 65536, coarse := coarse, rev := w.revs }
  { g1 with hi := 1, due := due }

/-- Fire one trigger of a generator (R141 to R149). -/
def State.fire (s : State) (i : Nat) (u : Due) : State :=
  let g := s.gen i
  let b := genB i
  let inst := s.fireAt i u.inst
  let late := u.inst < inst
  let coord := if late && s.genSrc i != 0x3F then webCoord (s.source (s.genSrc i)) (inst / 65536) else u.coord
  let fu := max 1 (s.g b R.TRG_GEN_FU_FU_LINES)
  let line := g.n % fu
  let fuStart := line = 0
  let frame := if fuStart then (match g.frame with | none => 0 | some f => (f + 1) % 2 ^ 32) else g.frame.getD 0
  let s := if late then (s.trgEvt i R.TRG_EVT_OVERSPEED).raise (i / 8) 0x0800 (i % 8) else s
  let s := if u.coarse then s.trgEvt i R.TRG_EVT_COARSE else s
  let apply := fuStart && g.armNext
  let s := if apply && s.stagedOk i then
      (s.p b R.TRG_GEN_PAPPLY_FRAME frame).trgEvt i R.TRG_EVT_PITCH_APPLIED else s
  let g1 := if apply && s.stagedOk i then s.newGrid i g u.idx else { g with hi := max g.hi (u.idx + 1) }
  let ends := (g.n + 1) % fu = 0
  let g2 := { g1 with
    n := g.n + 1, total := g.total + 1, line := line, frame := some frame, lastT := some inst,
    armNext := if ends then g.armPend else if apply then false else g.armNext,
    armPend := if ends then false else g.armPend,
    running := !(g.stopFu && ends), stopFu := g.stopFu && !ends, due := if g.stopFu && ends then [] else g1.due }
  let s := (s.setGen i g2).syncRun i
  let s := s.fireOutputs i inst
  let t : Tag := { frame := frame, line := line, coord := coord, time := inst, coarse := u.coarse, rev := u.rev }
  let s := s.setGen i { s.gen i with tag := t }
  each (s.chans.filter (fun e => e.2.gen == some i)) (fun e s => s.fireChan e.1 t fuStart (g.n = 0)) s

/-- The grid points between the last count of a source and the next, in the order in which the web reaches them, with the instants R141 predicts;
none while the history is not valid. -/
def State.predicted (s : State) (i : Nat) (w : Source) : List Due :=
  let g := s.gen i
  if w.hist < 2 || s.genSrc i = 0x3F then []
  else
    let js := if w.fwd then g.inside (w.c + 1) (w.c + 65535) else (g.inside (w.c - 65535) (w.c - 1)).reverse
    (js.filter fun j => g.eligible (s.g (genB i) R.TRG_GEN_CFG_REV = 0) j).map fun j =>
      { idx := j, coord := g.target j, inst := webInstant w (g.target j) * 65536, coarse := false, rev := w.revs }

/-- The trigger that a distance generator fires next: the first crossed one, or the nearest predicted between the last count and the
next (R141). -/
def State.nextDue (s : State) (i : Nat) : Option Due :=
  match (s.gen i).due with
  | u :: _ => some u
  | [] => (s.predicted i (s.source (s.genSrc i))).head?

/-- TRIGGER_FIRE. -/
def triggerFireF (i : Nat) (s : State) : State :=
  let g := s.gen i
  if !g.running || s.genKind i != 1 || s.halted then s
  else match s.nextDue i with
  | none => s
  | some u =>
    let g := if g.due.isEmpty then { g with pre := u.idx :: g.pre } else { g with due := g.due.drop 1 }
    (s.setGen i g).fire i u

/-- TIME_TRIGGER (R140): the instant is truncated to 2^-22 ns here, and further where it is used. -/
def timeTriggerF (i : Nat) (s : State) : State :=
  let g := s.gen i
  if !g.running || s.genKind i != 2 || s.halted then s
  else
    let t := (g.t0 + g.k * g.per) / 1024
    let src := s.genSrc i
    let w := s.source src
    let u : Due := { idx := g.k, coord := if src = 0x3F then 0 else webCoord w (t / 65536), inst := t, coarse := src = 0x3F || w.hist < 2, rev := w.revs }
    (s.setGen i { g with k := g.k + 1 }).fire i u

/-! ### Encoder units (R130 to R138) -/

def State.webEvt (s : State) (i : Nat) (f : Fld) : State := s.evt (unitB i) R.WEB_EVT_E [f]

/-- The direction of the counted edge between two samples in a mode (R130); none where no count is made. -/
def decodeEdge (mode : Nat) (a0 b0 a b : Bool) : Option Bool :=
  let rise := !a0 && a
  let fall := a0 && !a
  if mode = 1 then (if rise then some (!b) else none)
  else if mode = 2 then (if rise then some (!b) else if fall then some b else none)
  else if mode = 3 then
    if rise then some (!b) else if fall then some b
    else if !b0 && b then some a else if b0 && !b then some (!a) else none
  else if mode = 4 then (if rise then some (!b) else none)
  else none

/-- The crossings that a counted edge makes for a generator (R141, R144): `w0` is the source before the edge, as it would be with the new START. A
fire that was armed when the edge came keeps its instant; every other point passed since the last count fires at the edge. -/
def State.crossings (s : State) (i : Nat) (w0 w : Source) (valid0 : Bool) : Gen :=
  let g := s.gen i
  let hold := s.g (genB i) R.TRG_GEN_CFG_REV = 0
  let armed := if g.due.isEmpty then (s.predicted i w0).filter fun u => armedAt (s.fireAt i u.inst) w.te else []
  let g := { g with due := g.due ++ armed }
  let js := if w.fwd then g.inside (w0.c + 1) w.c else (g.inside w.c (w0.c - 1)).reverse
  let g1 := js.foldl (fun g j =>
    if g.eligible hold j && !armed.any (·.idx == j) then
      let x := g.target j
      let coarse := if x = w.c then w.hist < 2 else !valid0
      { g with due := g.due ++ [{ idx := j, coord := if coarse then w.c else x, inst := w.te * 65536, coarse := coarse, rev := w.revs }] }
    else g) g
  { g1 with pre := if w0.edges = w.edges then g1.pre else [] }

/-- ENCODER_EDGE: a filtered sample of a unit's pins. -/
def encoderEdgeF (i : Nat) (p : EncPins) (s : State) : State :=
  let w := s.source i
  let mode := s.g (unitB i) R.WEB_ENC_CFG_MODE
  if mode = 0 then s.setSource i { w with a := p.a, b := p.b, z := p.z }
  else if p.held < s.g (unitB i) R.WEB_ENC_CFG_FILT then s
  else if mode = 3 && p.a != w.a && p.b != w.b then
    ((s.setSource i { w with a := p.a, b := p.b, z := p.z, hist := 0 }).webEvt i R.WEB_EVT_ILLEGAL).raise (i / 4) 0x0700 (i % 4)
  else match decodeEdge mode w.a w.b p.a p.b with
  | none => s.setSource i { w with a := p.a, b := p.b, z := p.z }
  | some fwd0 =>
    let fwd := if s.gb (unitB i) R.WEB_ENC_CFG_DIRINV then !fwd0 else fwd0
    let first := w.edges = 0
    let rev := !first && fwd != w.fwd
    let dt := p.te - w.te
    let fast := !first && dt < 1280
    let valid0 := 2 ≤ w.hist && !rev
    let hist := if rev || w.hist = 0 then 1 else 2
    let step := wrapCoord (if fwd then w.c + 65536 else w.c - 65536)
    let (c, load, loaded) := match w.load with
      | some (v, atZ) => if !atZ || p.z then (v, none, true) else (step, w.load, false)
      | none => (step, none, false)
    let shift := wrapCoord (c - step)
    let w' : Source := { w with
      c := c, te := p.te, fwd := fwd, hist := hist, T := if hist = 2 then dt else w.T, edges := w.edges + 1,
      revs := if rev then w.revs + 1 else w.revs, a := p.a, b := p.b, z := p.z, load := load, stalled := false }
    let s := s.setSource i w'
    let flags := (if loaded then [R.WEB_EVT_LOADED] else []) ++ (if fast then [R.WEB_EVT_OVERRATE] else []) ++ (if rev then [R.WEB_EVT_REVERSAL] else [])
    let s := if flags.isEmpty then s else s.evt (unitB i) R.WEB_EVT_E flags
    let s := if fast then s.raise (i / 4) 0x0701 (i % 4) else s
    let s := each (s.genIds.filter fun k => s.genSrc k = i) (fun k s =>
      let s := if loaded then s.setGen k { s.gen k with start := wrapCoord ((s.gen k).start + shift) } else s
      if (s.gen k).running && s.genKind k = 1 then s.setGen k (s.crossings k { w with c := wrapCoord (w.c + shift) } w' valid0) else s) s
    { s with reps := s.reps.map fun (k, r) => if k % 32 = i then (k, (r.1, r.2 ++ [w'])) else (k, r) }

/-- The effect of a write of WEB_LOAD_CTRL (R133). -/
def webLoadApply (i : Nat) (v : Word) (s : State) : State :=
  let b := unitB i
  let s := s.p b R.WEB_LOAD_CTRL_AT (bits v 1 1)
  if bits v 0 0 = 1 then
    let x : Int := wrapCoord ((s.g b R.WEB_LOAD_HI_INT_HI * 65536 + s.g b R.WEB_LOAD_LO_INT_LO : Nat) * 65536)
    s.setSource i { s.source i with load := some (x, bits v 1 1 = 1) }
  else s

/-- The crossed triggers of a generator that are armed at a moment, each MINGAP after the one before it (R137, R145). -/
def armedDue (gap t64 : Nat) : Nat → List Due → List Due
  | _, [] => []
  | least, u :: t => let e := max u.inst least; if armedAt e t64 then u :: armedDue gap t64 (e + gap) t else []

/-- ENCODER_STALL (R136, R137): every fire that is not armed yet is cancelled. -/
def encoderStallF (i : Nat) (s : State) : State :=
  let w := s.source i
  if s.g (unitB i) R.WEB_STALL_STALL = 0 || s.g (unitB i) R.WEB_ENC_CFG_MODE = 0 || w.stalled || w.edges = 0 then s
  else
    let now := s.t64
    let s := each (s.genIds.filter fun k => s.genSrc k = i) (fun k s =>
      let g := s.gen k
      let gap := s.g (genB k) R.TRG_GEN_MINGAP_MINGAP * 2 ^ 22
      let all := if g.due.isEmpty && g.running && s.genKind k = 1 then s.predicted k w else g.due
      s.setGen k { g with due := armedDue gap now (match g.lastT with | some t => t + gap | none => 0) all }) s
    let s := (s.setSource i { w with hist := 0, stalled := true }).webEvt i R.WEB_EVT_STALL
    s.raise (i / 4) 0x0702 (i % 4)

/-- REPLICA_EDGE_UPDATE (R138): the oldest sideband message reaches the replica. -/
def replicaEdgeF (d src : Nat) (s : State) : State :=
  match tget s.reps (d * 32 + src) with
  | some (_, w :: q) => { s with reps := tset s.reps (d * 32 + src) (w, q) }
  | _ => s

/-- The replicas of a die, in order. -/
def State.repsOf (s : State) (d : Nat) : List Nat := (s.reps.filter fun e => e.1 / 32 == d).map (·.1 % 32)

/-- SRC_LOST (R151): a replica's number is its place among the die's replicas. -/
def srcLostF (d src : Nat) (s : State) : State :=
  let l := s.repsOf d
  if l.contains src then s.raise d 0x0703 (4 + l.idxOf src) else s

/-- TIME_ALIGN_LOSS (R18). -/
def timeAlignLossF (d : Nat) (s : State) : State :=
  { s with clock := { s.clock with unaligned := setb s.clock.unaligned d } }.raise d 0x0003 0

/-- TRG_ARM: the effect of a write of TRG_GEN_CTRL (R147). -/
def trgArmApply (i : Nat) (v : Word) (s : State) : State :=
  if bits v 0 0 = 1 then s.setGen i { s.gen i with armPend := true } else s

/-- An output's level at its ball. -/
def State.outLevel (s : State) (d o : Nat) (active : Bool) : State := s.emit (.output d o (active != s.gb (outB d o) R.TRG_OUT_CFG_POL))

/-- OUTPUT_WINDOW_START (R143). -/
def windowStartF (d o : Nat) (s : State) : State :=
  let ws := tgetD s.windows (d * 16 + o) []
  if !ws.any (!·.2.2) then s
  else
    let active := ws.any (·.2.2)
    let i := ws.findIdx (!·.2.2)
    let s := { s with windows := tset s.windows (d * 16 + o) (ws.mapIdx fun k (w : Nat × Nat × Bool) => if k = i then (w.1, w.2.1, true) else w) }
    if active then s.evt (trgB d) R.TRG_EVT_E [R.TRG_EVT_OVERLAP] [(R.TRG_EVT_GEN, 0)] else s.outLevel d o true

/-- OUTPUT_WINDOW_END (R143): the started window that ends first. -/
def windowEndF (d o : Nat) (s : State) : State :=
  let ws := tgetD s.windows (d * 16 + o) []
  match (ws.filter (·.2.2)).map (·.2.1) with
  | [] => s
  | e :: es =>
    let first := es.foldl min e
    let i := ws.findIdx fun w => w.2.2 && w.2.1 == first
    let ws' := ws.eraseIdx i
    let s := { s with windows := if ws'.isEmpty then tdel s.windows (d * 16 + o) else tset s.windows (d * 16 + o) ws' }
    if ws'.any (·.2.2) then s else s.outLevel d o false

/-- Whether a generator has a trigger armed at this moment (R16, R17). -/
def State.armed (s : State) (i : Nat) : Bool :=
  let g := s.gen i
  g.running && (if s.genKind i = 2 then armedAt (s.fireAt i ((g.t0 + g.k * g.per) / 1024)) s.t64
    else (s.nextDue i).any fun u => armedAt (s.fireAt i u.inst) s.t64)

/-- DELAY_LINE_EXCHANGE (R17): the serving delay line of a fire path changes while no trigger is armed on it. -/
def delayExchangeF (d o : Nat) (s : State) : State :=
  let i := s.g (outB d o) R.TRG_OUT_CFG_GEN
  if s.gb (outB d o) R.TRG_OUT_CFG_EN && s.firesOn i d && s.armed i then s
  else { s with exch := tput s.exch (d * 16 + o) 0 ((tgetD s.exch (d * 16 + o) 0 + 1) % 2) }

/-! ### Snapshots (R46): the held values of the WEB and TRG blocks -/

def State.webSnap (s : State) (d : Nat) : State :=
  upTo 4 (fun u s =>
    let i := 4 * d + u
    let w := s.source i
    let x := coordBits (webCoord w s.t64)
    s.ps (unitB i) [(R.WEB_POS_LO_POS, x), (R.WEB_POS_HI_POS, x / 2 ^ 32), (R.WEB_PERIOD_T, min (2 ^ 32 - 1) w.T), (R.WEB_STATE_DIR, if w.fwd then 0 else 1),
      (R.WEB_STATE_HIST, w.hist), (R.WEB_EDGES_COUNT, w.edges), (R.WEB_REV_COUNT, w.revs)]) s

def State.trgSnap (s : State) (d : Nat) : State :=
  upTo 8 (fun k s =>
    let i := 8 * d + k
    let g := s.gen i
    let x := coordBits (s.nextPoint i)
    s.ps (genB i) [(R.TRG_GEN_FRAME_FRAME, g.frame.getD 0), (R.TRG_GEN_LINE_LINE, g.line), (R.TRG_GEN_NEXT_LO_NEXT, x), (R.TRG_GEN_NEXT_HI_NEXT, x / 2 ^ 32),
      (R.TRG_GEN_COUNT_COUNT, g.total)]) s

/-! ### Commands (R152) -/

/-- The dies on which a generator has something to do (R138): its own, and those with an output, a channel or a channel of an open set bound to
it. -/
def State.genDies (s : State) (i : Nat) : List Nat :=
  (List.range s.nd).filter fun d => d == i / 8
    || (List.range 16).any (fun o => s.gb (outB d o) R.TRG_OUT_CFG_EN && s.g (outB d o) R.TRG_OUT_CFG_GEN == i)
    || s.chans.any (fun e => e.1 / 24 == d && e.2.gen == some i)
    || s.sets.any (fun e => e.2.any fun c => c.ch / 24 == d && c.gen == some i)

/-- Whether a die needs a replica of a source: a generator of that source has something to do there. -/
def State.needsRep (s : State) (d src : Nat) : Bool := src / 4 != d && s.genIds.any fun i => s.genSrc i == src && s.genKind i != 0 && (s.genDies i).contains d

/-- Whether a die has, or can take, a replica of a source (R138): at most eight. -/
def State.canReplicate (s : State) (d src : Nat) : Bool :=
  src = 0x3F || src / 4 = d || (tget s.reps (d * 32 + src)).isSome || (s.repsOf d).length < 8

/-- Give a die a replica of a source that has none there, while it has room. -/
def State.replicate (s : State) (d src : Nat) : State :=
  if src = 0x3F || src / 4 = d || (tget s.reps (d * 32 + src)).isSome || 8 ≤ (s.repsOf d).length then s
  else { s with reps := tset s.reps (d * 32 + src) (s.source src, []) }

/-- Keep the replicas that are needed, and no others (R138). -/
def State.syncReps (s : State) : State :=
  let s : State := { s with reps := s.reps.filter fun e => s.needsRep (e.1 / 32) (e.1 % 32) }
  upTo s.nd (fun d s => upTo (4 * s.nd) (fun src s => if s.needsRep d src then s.replicate d src else s) s) s

/-- An output's binding has changed (R18): while its die's time unit is not aligned it is barred from cross-die and aligned firing. -/
def State.boundOut (s : State) (d o : Nat) : State :=
  let k := d * 16 + o
  let l := s.clock.barred.filter (· != k)
  ({ s with clock := { s.clock with barred := if tbit s.clock.unaligned d then l ++ [k] else l } } : State).syncReps

/-- Whether a command on a generator must be refused since the generator's own die or the home die of its source is isolated. -/
def State.genGone (s : State) (i : Nat) : Bool := !s.dieUp (i / 8) || !s.dieUp (s.genHome i)

/-- Whether a die that a generator reaches, or its source's home die, has a time unit that is not aligned though the firing there needs it (R18). -/
def State.genUnaligned (s : State) (i : Nat) (dies : List Nat) : Bool :=
  dies.any fun d => s.crossFires i d && (tbit s.clock.unaligned d || tbit s.clock.unaligned (s.genHome i) || tbit s.clock.unaligned (i / 8))

/-- Whether a running generator takes a source. -/
def State.sourceRuns (s : State) (src : Nat) : Bool := s.genIds.any fun k => s.genSrc k == src && (s.gen k).running

def webSetEncoderB (w k : Nat) (s : State) : Rsp :=
  let d := s.cmdByte w k 8
  let u := s.cmdByte w k 9
  let i := 4 * d + u
  let stall := s.cp w k 16 4
  s.checked w k [(8, s.nd ≤ d), (9, 3 < u), (10, 4 < s.cmdByte w k 10), (11, 1 < s.cmdByte w k 11), (16, 2 ^ 24 ≤ stall)] <|
  if !s.dieUp d then busy 2
  else if s.sourceRuns i then busy 1
  else
    let b := unitB i
    let same := s.g b R.WEB_ENC_CFG_MODE = s.cmdByte w k 10 && s.g b R.WEB_ENC_CFG_DIRINV = s.cmdByte w k 11 && s.g b R.WEB_ENC_CFG_FILT = s.cmdByte w k 12
    let s1 := s.ps b [(R.WEB_ENC_CFG_MODE, s.cmdByte w k 10), (R.WEB_ENC_CFG_DIRINV, s.cmdByte w k 11), (R.WEB_ENC_CFG_FILT, s.cmdByte w k 12), (R.WEB_STALL_STALL, stall)]
    .ok (if same then s1 else s1.setSource i { s1.source i with hist := 0 }) []

def webLoadB (w k : Nat) (s : State) : Rsp :=
  let i := s.cmdByte w k 8
  let v := s.cp w k 16 8
  s.checked w k [(8, 4 * s.nd ≤ i), (9, 1 < s.cmdByte w k 9), (16, v % 65536 != 0)] <|
  if !s.dieUp (i / 4) then busy 2
  else
    let b := unitB i
    let s1 := s.ps b [(R.WEB_LOAD_LO_INT_LO, v / 65536), (R.WEB_LOAD_HI_INT_HI, v / 2 ^ 32), (R.WEB_LOAD_CTRL_AT, s.cmdByte w k 9)]
    .ok (s1.setSource i { s1.source i with load := some (wrapCoord v, s.cmdByte w k 9 == 1) }) []

def webQueryB (w k : Nat) (s : State) : Rsp :=
  let i := s.cmdByte w k 8
  let x := s.source i
  s.checked w k [(8, 4 * s.nd ≤ i)] <|
  if !s.dieUp (i / 4) then busy 2
  else .ok s (leBytes 8 (coordBits (webCoord x s.t64)) ++ leBytes 4 (min (2 ^ 32 - 1) x.T) ++ leBytes 1 (x.hist + (if x.fwd then 0 else 4 : Nat))
    ++ leBytes 8 x.edges ++ leBytes 4 x.revs)

/-- TRG_SET_GEN. A rate whose MINGAP does not fit its 24 bits leaves the field an open value (log entry 2). -/
def trgSetGenB (w k : Nat) (s : State) : Rsp :=
  let i := s.cmdByte w k 8
  let kind := s.cmdByte w k 9
  let src := s.cmdByte w k 11
  let fu := s.cp w k 16 4
  let rate := s.cp w k 44 4
  let gap := 1000000000 / rate
  let d := i / 8
  s.checked w k [(8, 8 * s.nd ≤ i), (9, 2 < kind), (10, 1 < s.cmdByte w k 10), (11, src != 0x3F && 4 * s.nd ≤ src), (12, 1 < s.cmdByte w k 12),
    (16, fu == 0 || 2 ^ 24 ≤ fu), (44, rate == 0)] <|
  if kind = 1 && src = 0x3F then bad 11
  else if !Sys2Proof.Machine.stagedOk kind (s.cp w k 20 4) (s.cp w k 24 2) (s.cp w k 26 2) (s.cp w k 28 8) || gap < 92 then bad 3
  else if !s.dieUp d || (src != 0x3F && !s.dieUp (src / 4)) || (s.genDies i).any (fun e => !s.canReplicate e src) then busy 2
  else if (s.gen i).isolated then busy 4
  else if (s.gen i).running then busy 1
  else
    let (v, s1) := if gap < 2 ^ 24 then (gap, s) else (s.fresh.1 % 2 ^ 24, s.fresh.2)
    let st := s.cp w k 36 8
    let s2 := s1.ps (genB i) [(R.TRG_GEN_CFG_ALIGN, s.cmdByte w k 12), (R.TRG_GEN_CFG_REV, s.cmdByte w k 10), (R.TRG_GEN_CFG_KIND, kind), (R.TRG_GEN_CFG_SRC, src),
      (R.TRG_GEN_FU_FU_LINES, fu), (R.TRG_GEN_PITCH_PITCH, s.cp w k 20 4), (R.TRG_GEN_REM_REM, s.cp w k 24 2), (R.TRG_GEN_REM_DEN, s.cp w k 26 2),
      (R.TRG_GEN_TPER_LO_FRAC, s.cp w k 28 4), (R.TRG_GEN_TPER_HI_NS, s.cp w k 32 4), (R.TRG_GEN_START_LO_START, st), (R.TRG_GEN_START_HI_START, st / 2 ^ 32),
      (R.TRG_GEN_MINGAP_MINGAP, v)]
    let s3 := s2.setGen i { s2.loadGrid i (s2.gen i) with start := wrapCoord st, maxRate := rate, armPend := false, armNext := false }
    if s3.genUnaligned i ((s3.genDies i).filter (· != d)) then refused 0x102 else .ok s3.syncReps (leBytes 4 gap)

/-- The dies a generator reaches with channels of an open set, its own die, and the home die of its source (R18). -/
def trgAttachB (w k : Nat) (s : State) : Rsp :=
  let id := s.cmdByte w k 8
  let i := s.cmdByte w k 9
  let set := tgetD s.sets id []
  let named := (List.range 192).filter fun c => tbit (s.cmdByte w k (16 + c / 8)) (c % 8)
  let src := s.genSrc i
  let dies := ((named.map (· / 24)) ++ [i / 8]).eraseDups
  let dl (c : SetChan) : Nat := 10 * (if c.deadline = 0 then c.latency + 150 else c.deadline)
  s.checked w k [(8, !s.setOpen id), (9, 8 * s.nd ≤ i)] <|
  if named.any fun c => !set.any (·.ch == c) then bad 16
  else if !s.dieUp (i / 8) || (src != 0x3F && !s.dieUp (src / 4)) || dies.any (fun d => !s.canReplicate d src) then busy 2
  else if (s.gen i).isolated then busy 4
  else if (dies ++ (if src = 0x3F then [] else [src / 4])).any (fun d => tbit s.clock.unaligned d) then refused 0x102
  else if set.any (fun c => named.contains c.ch && 1024 * 10000000 < (s.gen i).maxRate * dl c) then refused 0x101
  else
    .ok ({ s with sets := tset s.sets id (set.map fun c => if named.contains c.ch then { c with gen := some i } else c) } : State).syncReps []

/-- TRG_START (R140, R148): the generator runs on its working grid; an ARM that waits applies at the first frame-unit start (R147). -/
def trgStartB (w k : Nat) (s : State) : Rsp :=
  let i := s.cmdByte w k 8
  let g := s.gen i
  let kind := s.genKind i
  let src := s.genSrc i
  s.checked w k [(8, 8 * s.nd ≤ i)] <|
  if kind = 0 || (kind = 1 && src = 0x3F) then bad 8
  else if !s.dieUp (i / 8) || (src != 0x3F && !s.dieUp (src / 4)) then busy 2
  else if g.isolated then busy 4
  else if g.running then busy 1
  else
    let at0 := s.clock.sec * 1000000000 + s.clock.ns + 100000 + (if s.clock.frac = 0 then 0 else 1)
    let t0 := (at0 + 999999999) / 1000000000 * 1000000000 * 2 ^ 32
    let g2 := { g with
      running := true, stopFu := false, t0 := t0, k := 0, hi := 0, pre := [], n := 0, due := [], armNext := g.armPend, armPend := false }
    .ok ((s.setGen i g2).syncRun i) []

def trgStopB (w k : Nat) (s : State) : Rsp :=
  let i := s.cmdByte w k 8
  let m := s.cmdByte w k 9
  let g := s.gen i
  let fu := max 1 (s.g (genB i) R.TRG_GEN_FU_FU_LINES)
  s.checked w k [(8, 8 * s.nd ≤ i), (9, 1 < m)] <|
  if s.genGone i then busy 2
  else if g.isolated then busy 4
  else if m = 1 && s.chans.any (fun e => e.2.gen == some i && e.2.admitted) then busy 1
  else if !g.running then .ok s []
  else if m = 1 || g.n % fu = 0 then .ok ((s.setGen i { g with running := false, stopFu := false, due := [] }).syncRun i) []
  else .ok (s.setGen i { g with stopFu := true }) []

def trgSetPitchB (w k : Nat) (s : State) : Rsp :=
  let i := s.cmdByte w k 8
  s.checked w k [(8, 8 * s.nd ≤ i)] <|
  if !Sys2Proof.Machine.stagedOk (s.genKind i) (s.cp w k 12 4) (s.cp w k 16 2) (s.cp w k 18 2) (s.cp w k 20 8) then bad 3
  else if s.genGone i then busy 2
  else if (s.gen i).isolated then busy 4
  else
    let s1 := s.ps (genB i) [(R.TRG_GEN_PITCH_PITCH, s.cp w k 12 4), (R.TRG_GEN_REM_REM, s.cp w k 16 2), (R.TRG_GEN_REM_DEN, s.cp w k 18 2),
      (R.TRG_GEN_TPER_LO_FRAC, s.cp w k 20 4), (R.TRG_GEN_TPER_HI_NS, s.cp w k 24 4)]
    .ok (s1.setGen i { s1.gen i with armPend := true }) []

def trgSetOutputB (w k : Nat) (s : State) : Rsp :=
  let d := s.cmdByte w k 8
  let o := s.cmdByte w k 9
  let i := s.cmdByte w k 10
  let dl := s.cp w k 12 4
  let wd := s.cp w k 16 4
  s.checked w k [(8, s.nd ≤ d), (9, 15 < o), (10, 8 * s.nd ≤ i), (11, 3 < s.cmdByte w k 11), (12, 1000000 < dl), (16, wd < 8 || 1000000 < wd)] <|
  if !s.dieUp d || s.genGone i || !s.canReplicate d (s.genSrc i) then busy 2
  else if (s.gen i).isolated then busy 4
  else if s.cmdByte w k 11 / 2 = 1 && s.genUnaligned i [d] then refused 0x102
  else .ok ((s.ps (outB d o) [(R.TRG_OUT_CFG_EN, s.cmdByte w k 11 / 2), (R.TRG_OUT_CFG_POL, s.cmdByte w k 11), (R.TRG_OUT_CFG_GEN, i), (R.TRG_OUT_DELAY_DELAY, dl),
    (R.TRG_OUT_WIDTH_WIDTH, wd)]).boundOut d o) []

def trgQueryB (w k : Nat) (s : State) : Rsp :=
  let i := s.cmdByte w k 8
  let g := s.gen i
  s.checked w k [(8, 8 * s.nd ≤ i)] <|
  if !s.dieUp (i / 8) then busy 2
  else .ok s (leBytes 4 (g.frame.getD 0) ++ leBytes 3 g.line ++ leBytes 1 (if g.running then 1 else 0) ++ leBytes 8 (coordBits (s.nextPoint i))
    ++ leBytes 8 g.total ++ leBytes 4 (s.g (genB i) R.TRG_GEN_PAPPLY_FRAME))

def strSetDiscardB (w k : Nat) (s : State) : Rsp :=
  let id := s.cmdByte w k 8
  s.checked w k [(8, !s.setOpen id)] <| .ok ({ s with sets := tdel s.sets id } : State).syncReps []

end Sys2Proof.Machine
end

