-- ==== Sys2Proof/Machine/CorrectionOps.lean ====
section
/-!
DEFINITION. The correction slices: contexts, black level, defects, shading, the release check's outcomes, checkpoints, the staged set and
the takeover by the spare (R153 to R176).
-/
namespace Sys2Proof.Machine
open Sys2Proof

/-! ### Slices and contexts (R153, R154, R167) -/

/-- The physical slice that serves a logical slice of a die; 7 where the logical slice is isolated (R174). -/
def State.physSlice (s : State) (d l : Nat) : Nat := tgetD s.smap (d * 8 + l) l

def State.cor (s : State) (ch : Nat) : Cor := tgetD s.cors ch {}
def State.setCor (s : State) (ch : Nat) (x : Cor) : State := { s with cors := tset s.cors ch x }
def State.modCor (s : State) (ch : Nat) (f : Cor → Cor) : State := s.setCor ch (f (s.cor ch))

/-- The physical slice of an admitted channel; none where its logical slice is isolated or the channel has none. -/
def State.chanSlice (s : State) (ch : Nat) : Option Nat :=
  if (s.chan ch).admitted && s.dieUp (ch / 24) && s.physSlice (ch / 24) (s.chan ch).slice < 5 then some (s.physSlice (ch / 24) (s.chan ch).slice)
  else none

/-- Bases of context k of physical slice p (COR and DMS). -/
def ctxB (d p k : Nat) : Nat := corB d p + 0x40 * k
def dctxB (d p k : Nat) : Nat := dmsB d p + 0x40 * k

/-- The context of a channel in its physical slice. -/
def State.corCtx (s : State) (ch p : Nat) : Option Nat :=
  (List.range 12).find? fun k => s.gb (ctxB (ch / 24) p k) R.COR_CTX_CFG_VALID && s.g (ctxB (ch / 24) p k) R.COR_CTX_CFG_LCHAN == ch % 24

/-- A signed 32-bit number. -/
def sint (v w : Nat) : Int := if v < 2 ^ (w - 1) then v else (v : Int) - 2 ^ w

/-- The context and tables that the next line of a channel uses. -/
def State.corSet (s : State) (ch p k : Nat) : CorSet :=
  let b := ctxB (ch / 24) p k
  let e := dctxB (ch / 24) p k
  let c := s.cor ch
  { bitsN := s.g b R.COR_CTX_CFG_BITS, cfa := s.g b R.COR_CTX_CFG_CFA, gainMode := s.g b R.COR_CTX_CFG_GAINMODE,
    ddEn := s.gb b R.COR_CTX_CFG_DD_EN, sdEn := s.gb b R.COR_CTX_CFG_SD_EN, colEn := s.gb b R.COR_CTX_CFG_COL_EN, trkEn := s.gb b R.COR_CTX_CFG_TRK_EN,
    trkShift := s.g b R.COR_CTX_CFG_TRK_SHIFT, width := s.g b R.COR_CTX_WIDTH_WIDTH_M1 + 1, height := s.unitLines ch,
    obFirst := s.g b R.COR_CTX_OB_OB_FIRST, obLog2 := s.g b R.COR_CTX_OB_OB_LOG2, ped := s.g b R.COR_CTX_PED_P,
    seedB := s.g b R.COR_CTX_SEEDB_SEED_B, seedN := s.g b R.COR_CTX_SEEDN_SEED_N, k := s.g b R.COR_CTX_DD_K, ddShift := s.g b R.COR_CTX_DD_DD_SHIFT,
    tmin := s.g b R.COR_CTX_DD_TMIN, recipW := s.g b R.COR_CTX_RECIPW_RECIPW, invX := s.g b R.COR_CTX_INV_INVX, invY := s.g b R.COR_CTX_INV_INVY,
    mode := s.g e R.DMS_CTX_CFG_MODE, ref := s.g e R.DMS_CTX_CFG_REF,
    seg := [s.g e R.DMS_CTX_CFG_SEG0, s.g e R.DMS_CTX_CFG_SEG1, s.g e R.DMS_CTX_CFG_SEG2], taps := s.g e R.DMS_CTX_CFG_TAPS,
    nearest := s.gb e R.DMS_CTX_CFG_INTERP, edgeT := s.g e R.DMS_CTX_EDGE_EDGE_T,
    off := (List.range 3).map fun i => sint (s.rd (e + R.DMS_CTX_OFF_OFF.off + 4 * i)).toNat 32, depth := s.g e R.DMS_CTX_DELAY_D,
    cols := c.cols, gains := c.gains, defs := c.defs, openAt := s.free }

/-! ### Tables (R157, R160, R165) -/

/-- The planes of a gain table, and its length in entries for a mode and a width. -/
def gainPlanes (cfa : Nat) : Nat := if cfa = 0 then 1 else 4
def gainLen (mode cfa width : Nat) : Nat := gainPlanes cfa * (if mode = 2 then 3185 else width)

/-- The open value that stands for an entry of a table which was never loaded (log entries 2 and 50). -/
def CorSet.openEntry (c : CorSet) (i : Nat) : Nat := (Config.freeWord (c.openAt + i)).toNat % 65536

/-- The column offset of a column. -/
def CorSet.colOff (c : CorSet) (col : Nat) : Int := (c.cols[col]?).getD (sint (c.openEntry col) 16)

/-- Entry i of the gain table, of the length its mode implies. -/
def CorSet.gainEntry (c : CorSet) (i : Nat) : Nat :=
  if c.gains.length = gainLen c.gainMode c.cfa c.width then c.gains.getD i 0x4000 else c.openEntry (0x10000 + i)

/-- Whether a table the context uses was never loaded. -/
def CorSet.lacks (c : CorSet) : Bool :=
  (c.colEn && c.cols.length != c.width) || (c.gainMode != 0 && c.gains.length != gainLen c.gainMode c.cfa c.width)

/-- Whether a row has a row entry, and whether a pixel is listed (R160, R161). -/
def CorSet.rowListed (c : CorSet) (row : Nat) : Bool := c.sdEn && c.defs.any fun e => e / 2 ^ 30 == 2 && e / 2 ^ 15 % 32768 == row
def CorSet.isListed (c : CorSet) (row col : Nat) : Bool :=
  c.sdEn && c.defs.any fun e =>
    let kind := e / 2 ^ 30
    let r := e / 2 ^ 15 % 32768
    let x := e % 32768
    (kind == 0 && r == row && x == col) || (kind == 1 && x == col) || (kind == 2 && r == row)

/-! ### Geometry of the windows (R164, R180) -/

/-- Lines of lookahead of the defect stages, and the step to the next pixel of the same colour. -/
def CorSet.look (c : CorSet) : Nat := if c.cfa = 0 then 1 else 2

/-- Column c + dc, mirrored about the ends of the line, or of its segment on a TRILINEAR channel. -/
def CorSet.mcol (c : CorSet) (col : Nat) (dc : Int) : Nat :=
  let w := if c.mode = 2 then c.width / 3 else c.width
  let lo := if c.mode = 2 && w != 0 then col / w * w else 0
  let k : Int := (col : Int) - lo + dc
  let k := if k < 0 then -k else k
  let k := if (w : Int) ≤ k then 2 * ((w : Int) - 1) - k else k
  lo + min (w - 1) k.toNat

/-- The lines that may share a window with a line: of the same frame unit of an area channel, of the same run of a line-scan channel. -/
def sameWindow (area : Bool) (x y : PLine) : Bool := if area then x.raw.tag.fid == y.raw.tag.fid else x.raw.tag.run == y.raw.tag.run

/-- The line dr rows from line i of a window's lines, mirrored at the first and last of them. -/
def winRow (ls : List PLine) (i : Nat) (dr : Int) : Option PLine :=
  let n : Int := ls.length
  let k : Int := (i : Int) + dr
  let k := if k < 0 then -k else k
  let k := if n ≤ k then 2 * (n - 1) - k else k
  ls[(min (n - 1) (max 0 k)).toNat]?

/-! ### The stages (R156 to R165) -/

def clamp20 (x : Int) : Nat := if x < 0 then 0 else if 0xFFFFF < x then 0xFFFFF else x.toNat

/-- Input alignment (R156). -/
def CorSet.align (c : CorSet) (raw : Nat) : Nat := raw * 2 ^ (20 - c.bitsN)

/-- The black stage at a column (R157), with tracker state b. -/
def CorSet.black (c : CorSet) (b x col : Nat) : Nat :=
  let ob : Int := if c.trkEn then (((b + 0x800) / 4096 : Nat) : Int) else c.seedB
  clamp20 ((x : Int) - ob - (if c.colEn then c.colOff col else 0) + c.ped)

/-- The optical-black mean of a line (R158): an open value where its columns pass the line's end (log entry 51). -/
def CorSet.obMean (c : CorSet) (xs : List Nat) : Nat :=
  let n := 2 ^ c.obLog2
  if c.obFirst + n ≤ c.width then (((xs.drop c.obFirst).take n).foldl (· + ·) 0 + (if c.obLog2 = 0 then 0 else 2 ^ (c.obLog2 - 1))) / n
  else (Config.freeWord (c.openAt + 0x30000)).toNat % 2 ^ 20

/-- The tracker's update (R158). -/
def CorSet.nextB (c : CorSet) (b mean : Nat) : Nat :=
  (((b : Int) + ((mean : Int) * 4096 - b) / 2 ^ c.trkShift) % 2 ^ 32).toNat

/-- The noise state's update (R163). -/
def CorSet.lineD (c : CorSet) (sumAbs : Nat) : Nat := min 0xFFFFF (sumAbs * c.recipW / 2 ^ 32)
def CorSet.nextN (c : CorSet) (n d : Nat) : Nat := (((n : Int) + ((d : Int) * 16 - n) / 2 ^ c.ddShift) % 2 ^ 32).toNat

/-- The first unlisted pixel of the same colour within three steps to one side. -/
def CorSet.side (c : CorSet) (row col : Nat) (s : List Nat) (dir : Int) : Option Nat :=
  ((List.range 3).map fun k => c.mcol col (dir * (c.look : Int) * ((k : Int) + 1))).find? (fun x => !c.isListed row x) |>.map fun x => s.getD x 0

/-- Static replacement at a column of line i of a window (R161): the value, and whether the pixel was listed, replaced. -/
def CorSet.staticPx (c : CorSet) (ls : List PLine) (i : Nat) (col : Nat) : Nat × Bool × Bool :=
  match ls[i]? with
  | none => (0, false, false)
  | some l =>
    let row := l.raw.row
    let v := l.blk.getD col 0
    if !c.isListed row col then (v, false, false)
    else
      let at1 (dr : Int) : Option Nat := (winRow ls i dr).bind fun m => if c.isListed m.raw.row col then none else m.blk[col]?
      let (a, b) := if c.rowListed row then (at1 (-(c.look : Int)), at1 (c.look : Int)) else (c.side row col l.blk (-1), c.side row col l.blk 1)
      match a, b with
      | some x, some y => ((x + y + 1) / 2, true, true)
      | some x, none => (x, true, true)
      | none, some y => (y, true, true)
      | none, none => (v, true, false)

/-- The eight same-colour neighbours of a pixel after static replacement. -/
def CorSet.neighbours (c : CorSet) (ls : List PLine) (i col : Nat) : List Nat :=
  let st : Int := c.look
  let row (dr : Int) : Nat :=
    let n : Int := ls.length
    let k : Int := (i : Int) + dr
    let k := if k < 0 then -k else k
    let k := if n ≤ k then 2 * (n - 1) - k else k
    (min (n - 1) (max 0 k)).toNat
  let at1 (dr dc : Int) : Nat := (c.staticPx ls (row (dr * st)) (c.mcol col (dc * st))).1
  [at1 (-1) (-1), at1 (-1) 0, at1 (-1) 1, at1 0 (-1), at1 0 1, at1 1 (-1), at1 1 0, at1 1 1]

/-- What the dynamic stage does at a pixel (R162): the value, hot, cold, its share of sum_abs. -/
def CorSet.dynPx (c : CorSet) (n v : Nat) (nb : List Nat) : Nat × Bool × Bool × Nat :=
  let q := nb.mergeSort (· ≤ ·)
  let m := (q.getD 3 0 + q.getD 4 0 + 1) / 2
  let t := min 0xFFFFF (max c.tmin (c.k * n / 256))
  if q.getD 7 0 < v && t < v - q.getD 7 0 then (m, true, false, 0)
  else if v < q.getD 0 0 && t < q.getD 0 0 - v then (m, false, true, 0)
  else (v, false, false, if m < v then v - m else m - v)

/-- The gain at a pixel (R165). -/
def CorSet.gain (c : CorSet) (row col : Nat) : Nat :=
  let plane := if c.cfa = 0 then 0 else row % 2 * 2 + col % 2
  if c.gainMode = 1 then c.gainEntry (plane * c.width + col)
  else
    let u := col * c.invX
    let w := row * c.invY
    let i := u / 65536
    let j := w / 65536
    let ax := u / 256 % 256
    let ay := w / 256 % 256
    let g (jj ii : Nat) : Nat := c.gainEntry (plane * 3185 + jj * 65 + ii)
    let top := g j i * (256 - ax) + g j (i + 1) * ax
    let bot := g (j + 1) i * (256 - ax) + g (j + 1) (i + 1) * ax
    (top * (256 - ay) + bot * ay + 0x8000) / 65536

/-- The shading stage (R165). -/
def CorSet.shade (c : CorSet) (v g : Nat) : Nat := clamp20 ((((v : Int) - c.ped) * g + 0x2000) / 16384 + c.ped)

/-- The defect and shading stages on line i of a window (R161 to R165), with noise state n. -/
def CorSet.finish (c : CorSet) (ls : List PLine) (i n : Nat) (l : PLine) : PLine × Nat :=
  let px := (List.range c.width).map fun col =>
    let st := c.staticPx ls i col
    let dy := if c.ddEn && !st.2.1 then c.dynPx n st.1 (c.neighbours ls i col) else (st.1, false, false, 0)
    (st, dy)
  let cnt (f : (Nat × Bool × Bool) × (Nat × Bool × Bool × Nat) → Bool) : Nat := (px.filter f).length
  let d := if c.ddEn then c.lineD ((px.map (·.2.2.2.2)).foldl (· + ·) 0) else 0
  let dyn := px.map (·.2.1)
  let shd := if c.gainMode = 0 then dyn else dyn.mapIdx fun col v => c.shade v (c.gain l.raw.row col)
  let ds := [cnt fun p => p.1.2.1 && p.1.2.2, cnt fun p => p.1.2.1 && !p.1.2.2, cnt fun p => p.2.2.1, cnt fun p => p.2.2.2.1]
  ({ l with dyn := some dyn, shd := shd, dval := d, defects := ds },
    if c.ddEn then c.nextN n d else n)

/-- Whether no further line of a channel's open run can come: its generator stands, its link is down, or it is being removed, and no
line is open or waits in the burst store (R164; log entry 52). -/
def State.runEnded (s : State) (ch : Nat) : Bool :=
  let c := s.chan ch
  c.tags.isEmpty && c.held.isNone && !(tgetD s.sliceQ (ch / 24 * 8 + c.slice) []).any (·.ch == ch)
    && (c.down || c.st != .running || (match c.gen with | some g => !(s.gen g).running | none => true))

/-- The window lines of the line at index i, and its place among them. -/
def winOf (area : Bool) (ls : List PLine) (i : Nat) : List PLine × Nat :=
  match ls[i]? with
  | none => ([], 0)
  | some l => (ls.filter (sameWindow area l), ((ls.take i).filter (sameWindow area l)).length)

/-- Whether the window of line i is closed: a later line lies outside it, its last row has come, or the run has ended. -/
def winClosed (area ended : Bool) (ls : List PLine) (i : Nat) : Bool :=
  match ls[i]? with
  | none => false
  | some l => ended || (ls.drop i).any (fun m => !sameWindow area l m) || (area && (winOf area ls i).1.any (·.raw.lastFu))

/-- Carry the oldest line that has its lookahead (R164) through the defect and shading stages. The first line after a reseeding is the first that
uses the seed (R159; log entry 216). -/
def State.corAdvance1 (s : State) (ch : Nat) : State :=
  let c := s.cor ch
  let area := (s.chan ch).area
  let i := c.lines.findIdx fun l => l.dyn.isNone
  match c.lines[i]? with
  | none => s
  | some l =>
    let (ls, j) := winOf area c.lines i
    if ls.length ≤ j + l.set.look && !winClosed area (s.runEnded ch) c.lines i then s
    else
      let nIn := l.seed.getD c.n
      let (l', n) := l.set.finish ls j nIn l
      s.setCor ch { c with lines := c.lines.set i { l' with nIn := nIn, n := n }, n := n }

def State.corAdvance (s : State) (ch : Nat) : State := upTo (s.cor ch).lines.length (fun _ s => s.corAdvance1 ch) s

/-! ### The staged set (R166) -/

/-- Whether frame f is frame g or a later one. -/
def frameFrom (f g : Nat) : Bool := (f + 2 ^ 32 - g % 2 ^ 32) % 2 ^ 32 < 2 ^ 31

/-- Bytes of a table rounded up to 4 KiB. -/
def up4k (n : Nat) : Nat := (n + 4095) / 4096 * 4096

/-- Bytes of the delay store that a channel of a mode, depth and raw width takes (R185), each slot rounded up to 64 bytes. -/
def storeBytesOf (mode depth width : Nat) : Nat := if mode = 2 then 2 * (depth + 1) * ((width / 3 * 20 + 511) / 512 * 64) else 0
def State.storeBytes (s : State) (ch p k : Nat) : Nat :=
  let e := dctxB (ch / 24) p k
  storeBytesOf (s.g e R.DMS_CTX_CFG_MODE) (s.g e R.DMS_CTX_DELAY_D) (s.chan ch).image.width

/-- Show the delay store's allocation in DMS_STORE of every slice of a die, each channel rounded up to 4 KiB (log entry 55). -/
def State.syncStore (s : State) (d : Nat) : State :=
  let chs := (s.chans.filter fun e => e.1 / 24 == d && e.2.admitted).map (·.1)
  let used := (chs.map fun ch => match s.chanSlice ch with
    | some p => (match s.corCtx ch p with | some k => up4k (s.storeBytes ch p k) / 4096 | none => 0)
    | none => 0).foldl (· + ·) 0
  upTo 5 (fun p s => s.p (dmsB d p) R.DMS_STORE_USED (min 1024 used)) s

/-- Later changes on top of earlier ones. -/
def CorStage.merge (a b : CorStage) : CorStage :=
  { ctx := b.ctx.foldl (fun t e => tset t e.1 e.2) a.ctx, cols := b.cols.or a.cols, gains := b.gains.or a.gains, defs := b.defs.or a.defs,
    reseed := a.reseed || b.reseed }

/-- Apply at frame f what COR_APPLY has committed for a channel, or, at its first frame unit, all that is staged (R159, R166). Where the tables lie
in the table area is an open value (log entry 2). -/
def State.applyStaged (s : State) (ch f : Nat) : State :=
  match s.chanSlice ch with
  | none => s
  | some p =>
    match s.corCtx ch p with
    | none => s
    | some k =>
      let d := ch / 24
      let c := s.cor ch
      let x := if c.seen then c.due else c.due.merge c.staged
      let some' := !x.ctx.isEmpty || x.cols.isSome || x.gains.isSome || x.defs.isSome
      let s := each x.ctx (fun e s => s.put (if e.1 < 0x1000 then ctxB d p k + 0x100 + e.1 else dctxB d p k + 0x100 + (e.1 - 0x1000)) e.2) s
      let place (on : Bool) (fl : Fld) (s : State) : State := if on then (s.fresh.2).p (ctxB d p k) fl s.fresh.1 else s
      let s := place x.cols.isSome R.COR_CTX_TBL0_COL_BASE s
      let s := place x.gains.isSome R.COR_CTX_TBL0_GAIN_BASE s
      let s := place x.defs.isSome R.COR_CTX_TBL1_DEF_BASE s
      let s := match x.defs with
        | some l => s.p (ctxB d p k) R.COR_CTX_TBL1_NDEF l.length
        | none => s
      let s := if s.g (dctxB d p k) R.DMS_CTX_CFG_MODE = 2 && (tget x.ctx 0x1014).isSome then
          (s.fresh.2).p (dctxB d p k) R.DMS_CTX_DELAY_STORE_BASE s.fresh.1 else s
      let s := s.syncStore d
      let s := s.setCor ch { c with
        cols := x.cols.getD c.cols, gains := x.gains.getD c.gains, defs := x.defs.getD c.defs, staged := if c.seen then c.staged else {},
        due := {}, applyAt := none }
      let s := if x.reseed || !c.seen then
          let b := s.g (ctxB d p k) R.COR_CTX_SEEDB_SEED_B * 4096
          let n := s.g (ctxB d p k) R.COR_CTX_SEEDN_SEED_N * 16
          s.modCor ch fun c => { c with b := b, n := if c.lines.any (·.dyn.isNone) then c.n else n, seed := some n }
        else s
      if some' then ((s.p (ctxB d p k) R.COR_CTX_APPLIED_FRAME f).evt (corB d p) R.COR_EVT_E [R.COR_EVT_APPLIED] [(R.COR_EVT_CTX, k)]) else s

/-- Whether a line is the first of its frame unit, and its channel's staged set is due at it. -/
def State.stagedDue (s : State) (r : RawLine) : Bool :=
  r.row = 0 && (!(s.cor r.ch).seen || (match (s.cor r.ch).applyAt with | some f => frameFrom r.tag.frame f | none => false))

/-- STAGED_SET_APPLY: the channel's next line to enter its slice is the frame-unit start at which the set applies. -/
def stagedSetApplyF (ch : Nat) (s : State) : State :=
  match (tgetD s.sliceQ (ch / 24 * 8 + (s.chan ch).slice) []).find? (·.ch == ch) with
  | some r => if s.stagedDue r && (s.cor ch).applyAt.isSome then s.applyStaged ch r.tag.frame else s
  | none => s

/-! ### Reading a line (R155, R170) -/

/-- Table words found uncorrectable become neutral entries (R170): kind 0 a column offset, 1 a gain, 2 a defect entry. -/
def Cor.neutral (c : Cor) (bad : List (Nat × Nat)) : Cor :=
  let c := bad.foldl (fun c e =>
    if e.1 = 0 then { c with cols := c.cols.set e.2 0 } else if e.1 = 1 then { c with gains := c.gains.set e.2 0x4000 } else c) c
  { c with defs := (c.defs.zipIdx.filter fun e => !bad.any fun b => b.1 == 2 && b.2 == e.2).map (·.1) }

/-- The number of released lines kept for windows: those of the raw ring (R169, R181). -/
def CorSet.keep (c : CorSet) : Nat := if c.mode = 1 then 12 else 8

/-- Drop released lines that the raw ring no longer holds. -/
def Cor.trim (c : Cor) : Cor :=
  let done := (c.lines.filter (·.released)).length
  let keep := (c.lines.getLast?.map (·.set.keep)).getD 8
  { c with lines := c.lines.drop (done - min done keep) }

/-- A line enters its slice (R155): alignment, black level, the tracker, and the stages whose lookahead is complete. -/
def State.sliceRead (s : State) (p : Nat) (r : RawLine) (bad : List (Nat × Nat)) : State :=
  let s := if s.stagedDue r then s.applyStaged r.ch r.tag.frame else s
  match s.corCtx r.ch p with
  | none => s
  | some k =>
    let d := r.ch / 24
    let s := if bad.isEmpty then s
      else
        let s := (s.modCor r.ch fun c => { c.neutral bad with crcFu := some r.tag.frame }).bump (corB d p + R.COR_CNT_COUNT.off + 32) bad.length
        (s.evt (corB d p) R.COR_EVT_E [R.COR_EVT_TBL_UNCORR] [(R.COR_EVT_CTX, k)]).raise d 0x0902 p
    let set := s.corSet r.ch p k
    let s := if set.lacks || (set.trkEn && set.width < set.obFirst + 2 ^ set.obLog2) then { s with free := s.free + 0x30001 } else s
    let c := s.cor r.ch
    let xs := r.px.map set.align
    let mean := if set.trkEn then set.obMean xs else 0
    let crc := c.crcFu == some r.tag.frame
    let b := if set.trkEn then set.nextB c.b mean else c.b
    let l : PLine := { raw := r, set := set, blk := xs.mapIdx fun col x => set.black c.b x col, mean := mean, b := b, seed := c.seed, crc := crc }
    let c := { c with
      lines := c.lines ++ [l], b := b, seed := none, seen := true, curFrame := r.tag.frame, crcFu := if crc then c.crcFu else none }
    (s.setCor r.ch c.trim).corAdvance r.ch

/-- The table word that an injected error strikes (R332): the first word of the first table in use (log entry 95). -/
def State.injWord (s : State) (ch : Nat) : List (Nat × Nat) :=
  let c := s.cor ch
  if !c.cols.isEmpty then [(0, 0)] else if !c.gains.isEmpty then [(1, 0)] else if !c.defs.isEmpty then [(2, 0)] else []

/-- A correctable error of a slice's memories (R170): counted, and SLICE_ECC. -/
def State.sliceEcc (s : State) (d p : Nat) : State := (s.bump (corB d p + R.COR_CNT_COUNT.off + 28)).raise d 0x0901 p

/-- SLICE_LINE_READ: the logical slice takes the oldest completed line of the burst store. -/
def sliceLineReadF (d l : Nat) (bad : List (Nat × Nat)) (s : State) : State :=
  let p := s.physSlice d l
  match tgetD s.sliceQ (d * 8 + l) [] with
  | [] => s
  | r :: q => if p < 5 && s.g (corB d p) R.COR_SLICE_ROLE = 0 then
      let s : State := { s with sliceQ := tset s.sliceQ (d * 8 + l) q }
      let (m, s) := if (s.injWord r.ch).isEmpty then (0, s) else s.takeInj d [0x0902] p
      (if m = 1 then s.sliceEcc d p else s).sliceRead p r (if m = 2 then bad ++ s.injWord r.ch else bad)
    else s

/-! ### Checkpoints and failed checks (R168, R171) -/

def corCnt (d p i : Nat) : Nat := corB d p + R.COR_CNT_COUNT.off + 4 * i

/-- A released line's log entry, or the checkpoint after it, with B and N as the line left them (R171). -/
def State.checkpoint (s : State) (p k : Nat) (l : PLine) : State :=
  let b := ctxB (l.raw.ch / 24) p k
  let c := s.cor l.raw.ch
  let line := if (s.chan l.raw.ch).area then l.raw.row else l.raw.tag.line
  if (line + 1) % 4096 = 0 || l.raw.lastFu then
    (s.setCor l.raw.ch { c with log := [], ckB := l.b, ckN := l.n, ckFrame := l.raw.tag.frame, ckLine := line }).ps b
      [(R.COR_CTX_CKPT_LINE, line), (R.COR_CTX_LOGN_LOGN, 0)]
  else (s.setCor l.raw.ch { c with log := c.log ++ [(l.mean, l.dval)] }).p b R.COR_CTX_LOGN_LOGN (c.log.length + 1)

/-- CRC_ERR on the line at index i and on every later line of its frame unit (R170, R187). -/
def State.strike (s : State) (ch i : Nat) : State :=
  s.modCor ch fun c => match c.lines[i]? with
    | some l => { c with
        crcFu := if c.curFrame = l.raw.tag.frame then some l.raw.tag.frame else c.crcFu,
        lines := c.lines.mapIdx fun j x => if i ≤ j && x.raw.tag.frame = l.raw.tag.frame then { x with crc := true } else x }
    | none => c

/-- The unreleased lines of a channel are recomputed from the state that the first of them met (R168, R172). -/
def State.recompute (s : State) (ch : Nat) : State :=
  (s.modCor ch fun c => match c.lines.find? (!·.released) with
    | some l => { c with n := if l.dyn.isSome then l.nIn else c.n, lines := c.lines.map fun x => if x.released then x else { x with dyn := none } }
    | none => c).corAdvance ch

/-- The lines above and below a raw line that are computed from it. -/
def CorSet.reach (c : CorSet) : Nat := c.look + if c.mode = 1 then 2 else 0

/-- An uncorrectable raw-ring word of the line at index j is read in a rebuild (R170): CRC_ERR on the unreleased lines rebuilt from it and on every
later line of their frame units. What the line's pixels then are is open (log entry 217). -/
def State.ringStruck (s : State) (ch j : Nat) : State :=
  let c := s.cor ch
  match c.lines[j]? with
  | none => s
  | some l =>
    let w := l.set.width
    let px (i : Nat) : List Nat := (List.range w).map fun x => (Config.freeWord (s.free + i * w + x)).toNat % 2 ^ 20
    let near (i k : Nat) : Bool := i ≤ j + k && j ≤ i + k
    let s : State := { s with free := s.free + 13 * w }
    let s := s.modCor ch fun c => { c with lines := c.lines.mapIdx fun i x =>
      let x := if i = j then { x with blk := px 0 } else x
      if x.released && x.set.mode = 1 && near i x.set.look then { x with shd := px (i + 1) } else x }
    let s := each c.lines.zipIdx (fun e s => if !e.1.released && near e.2 l.set.reach then s.strike ch e.2 else s) s
    s.recompute ch

/-- A line that fails its release checks (R168): SLICE_CHECK is raised; below SPARE the line is recomputed once from the raw ring, and a
second failure takes the source to SPARE. -/
def State.checkFail (s : State) (ch p k : Nat) : State :=
  let d := ch / 24
  let c := s.cor ch
  let i := c.lines.findIdx fun l => !l.released
  match c.lines[i]? with
  | none => s
  | some l =>
    let s := (s.setCor ch { c with lines := c.lines.set i { l with tried := true } }).bump (corCnt d p 6)
    let (ring, s) := if l.tried then (0, s) else s.takeInj d [0x0903] p
    let s := if ring = 1 then s.sliceEcc d p else if ring = 2 then ((s.ringStruck ch i).evt (corB d p) R.COR_EVT_E [R.COR_EVT_RING_UNCORR] [(R.COR_EVT_CTX, k)]).raise d 0x0903 p else s
    let s := (s.evt (corB d p) R.COR_EVT_E [R.COR_EVT_SLICE_CHECK] [(R.COR_EVT_CTX, k)]).raise d 0x0900 p
    if l.tried && !s.todo.any (fun t => t.1 == d && t.2.1 == 0x0900 && t.2.2.1 == p) then { s with todo := s.todo ++ [(d, 0x0900, p, 3)] } else s

/-! ### Takeover by the spare (R172 to R174) -/

/-- The channels of a logical slice. -/
def State.sliceChans (s : State) (d l : Nat) : List Nat :=
  (s.chans.filter fun e => e.1 / 24 == d && e.2.admitted && e.2.slice == l).map (·.1)

/-- The physical slice that stands by, if one does. -/
def State.spareSlice (s : State) (d : Nat) : Option Nat := (List.range 5).find? fun p => s.g (corB d p) R.COR_SLICE_ROLE == 1

/-- A slice in service is enabled; a spare or failed one is disabled (log entry 53). -/
def State.sliceOn (s : State) (d p : Nat) (on : Bool) : State :=
  let v := if on then 1 else 0
  ((s.ps (corB d p) [(R.HDR_CTRL_EN, v), (R.HDR_CTRL_QUIESCED, 1 - v)])).ps (dmsB d p) [(R.HDR_CTRL_EN, v), (R.HDR_CTRL_QUIESCED, 1 - v)]

/-- The slice protection group of a die (R322): unprotected unless a slice stands by. -/
def State.syncSliceProt (s : State) (d : Nat) : State := s.setUnprot d 1 (s.spareSlice d).isNone

/-- Move a logical slice to the spare (R172): the failed slice is frozen, the contexts are loaded into the spare. -/
def State.moveSlice (s : State) (d l old new : Nat) : State :=
  let move (base : Nat → Nat) (s : State) : State :=
    upTo 192 (fun i s => let o := 0x100 + 4 * i
      (s.put (base new + o) (s.rd (base old + o))).put (base old + o) (resetWord s.part (base old + o))) s
  let s := move (corB d) (move (dmsB d) s)
  let s := s.ps (corB d old) [(R.COR_SLICE_ROLE, 3), (R.COR_SLICE_LOGICAL, 7)]
  let s := s.ps (corB d new) [(R.COR_SLICE_ROLE, 2), (R.COR_SLICE_LOGICAL, l)]
  let s := (s.sliceOn d old false).sliceOn d new true
  let (vote, s) := s.takeInj d [0x0904] old
  let s := if vote = 0 then s else s.raise d 0x0904 old
  let inj := s.inj.map fun e => if e.1 == d && e.2.1 == 0x0903 && e.2.2.1 == old then (d, 0x0903, new, e.2.2.2) else e
  { s with smap := tset s.smap (d * 8 + l) new, inj := inj }.syncSliceProt d

/-- A second fault of the slice protection group (R174): the logical slice is isolated. -/
def State.isolateSlice (s : State) (d l p : Nat) : State :=
  let s := (s.ps (corB d p) [(R.COR_SLICE_ROLE, 3), (R.COR_SLICE_LOGICAL, l)]).sliceOn d p false
  let s := { s with smap := tset s.smap (d * 8 + l) 7 }
  each (s.sliceChans d l) (fun ch s => s.modCor ch fun c => { c with lines := [] }) { s with sliceQ := tdel s.sliceQ (d * 8 + l) }

/-- The SPARE reaction of SLICE_CHECK on a physical slice: a takeover, a retired spare, or isolation. -/
def State.sliceSpare (s : State) (d p : Nat) : State :=
  let role := s.g (corB d p) R.COR_SLICE_ROLE
  if role = 1 then ((s.ps (corB d p) [(R.COR_SLICE_ROLE, 3)])).syncSliceProt d
  else if role = 3 then s
  else
    let l := s.g (corB d p) R.COR_SLICE_LOGICAL
    match s.spareSlice d with
    | some sp => s.moveSlice d l p sp
    | none => s.isolateSlice d l p

/-- A failed slice passes its unit reset (R174, R330): it stands by. The logical slice that was isolated on it stays isolated (log entry 120). -/
def State.sliceReset (s : State) (d p : Nat) : State :=
  if s.g (corB d p) R.COR_SLICE_ROLE != 3 then s else (s.ps (corB d p) [(R.COR_SLICE_ROLE, 1), (R.COR_SLICE_LOGICAL, 7)]).syncSliceProt d

/-- The spare has replayed and rebuilt (R172, R173): every line that has arrived and is not released will carry SPARED; an
uncorrectable raw-ring word (a local channel, and the place of its line among those that the rebuild of the channel reads) marks the lines rebuilt
from it (R170). -/
def State.takeoverEnd (s : State) (d l p tenNs : Nat) (ringBad : List (Nat × Nat)) : State :=
  let chs := s.sliceChans d l
  let (ring, s) := s.takeInj d [0x0903] p
  let s := if ring = 1 then s.sliceEcc d p else s
  let ringBad := if ring = 2 then ringBad ++ (chs.take 1).map fun ch => (ch % 24, 0) else ringBad
  let s := (s.p (corB d p) R.COR_SLICE_ROLE 0).p (corB d p) R.COR_TAKEOVER_TIME_TIME (min 0xFFFF tenNs)
  let s := (s.evt (corB d p) R.COR_EVT_E [R.COR_EVT_TAKEOVER_DONE] [(R.COR_EVT_CTX, 0)]).bump (corCnt d p 9)
  let s := each chs (fun ch s => s.modCor ch fun c => { c with lines := c.lines.map fun x =>
    if x.released then x else { x with raw := { x.raw with flags := setb x.raw.flags flSPARED }, tried := false } }) s
  let s := each chs (fun ch s => s.recompute ch) s
  let s := each ringBad (fun e s =>
    let ch := 24 * d + e.1
    let ls := (s.cor ch).lines
    let i := ls.findIdx fun x => !x.released
    s.ringStruck ch (i - min i ((ls[i]?.map (·.set.reach)).getD 0) + e.2)) s
  let s := { s with sliceQ := tset s.sliceQ (d * 8 + l) ((tgetD s.sliceQ (d * 8 + l) []).map fun r => { r with flags := setb r.flags flSPARED }) }
  if ringBad.isEmpty then s
  else (s.evt (corB d p) R.COR_EVT_E [R.COR_EVT_RING_UNCORR] [(R.COR_EVT_CTX, 0)]).raise d 0x0903 p

/-- The held values of a COR block (R45). -/
def State.corSnap (s : State) (d p : Nat) : State :=
  upTo 12 (fun k s =>
    let b := ctxB d p k
    if s.gb b R.COR_CTX_CFG_VALID then
      let c := s.cor (24 * d + s.g b R.COR_CTX_CFG_LCHAN)
      s.ps b [(R.COR_CTX_B_B, c.b), (R.COR_CTX_N_N, c.n)]
    else s) s

/-! ### Commands (R176) -/

/-- The present word of a context register; the word that the next frame unit has by COR_APPLY; the latest staged one. -/
def State.ctxWord (s : State) (ch p k o : Nat) : Word :=
  if o < 0x1000 then s.rd (ctxB (ch / 24) p k + 0x100 + o) else s.rd (dctxB (ch / 24) p k + 0x100 + (o - 0x1000))
def State.dueWord (s : State) (ch p k o : Nat) : Word := (tget (s.cor ch).due.ctx o).getD (s.ctxWord ch p k o)
def State.stagedWord (s : State) (ch p k o : Nat) : Word := (tget (s.cor ch).staged.ctx o).getD (s.dueWord ch p k o)

/-- A field of the staged context, and of the context of the channel's next frame unit (R166): `f.off` counts from the context's map. -/
def ctxOff (dms : Bool) (f : Fld) : Nat := (f.off - 0x100) + if dms then 0x1000 else 0
def State.stagedG (s : State) (ch p k : Nat) (dms : Bool) (f : Fld) : Nat := bits (s.stagedWord ch p k (ctxOff dms f)) f.hi f.lo
def State.nextG (s : State) (ch p k : Nat) (dms : Bool) (f : Fld) : Nat :=
  bits (if (s.cor ch).seen then s.dueWord ch p k (ctxOff dms f) else s.stagedWord ch p k (ctxOff dms f)) f.hi f.lo

/-- Change a channel's staged set. -/
def State.modStaged (s : State) (ch : Nat) (f : CorStage → CorStage) : State := s.modCor ch fun c => { c with staged := f c.staged }

/-- Stage fields of a context register. -/
def State.stageP (s : State) (ch p k : Nat) (dms : Bool) (l : List (Fld × Nat)) : State :=
  l.foldl (fun s e =>
    let o := ctxOff dms e.1
    s.modStaged ch fun c => { c with ctx := tset c.ctx o (putBits (s.stagedWord ch p k o) e.1.hi e.1.lo e.2) }) s

/-- Run a correction or colour command on the slice and context that serve its channel; BUSY 3 where none does. -/
def State.onCtx (s : State) (ch : Nat) (f : Nat → Nat → Rsp) : Rsp :=
  match s.chanSlice ch with
  | none => busy 3
  | some p => match s.corCtx ch p with
    | none => busy 3
    | some k => f p k

def corSetChannelB (w k : Nat) (s : State) : Rsp :=
  let ch := s.cp w k 8 2
  let wd := (s.chan ch).image.width
  let ht := s.unitLines ch
  let fl := s.cmdByte w k 11
  let gm := s.cmdByte w k 12
  let big (o : Nat) : Nat × Bool := (o, 0xFFFFF < s.cp w k o 4)
  s.checked w k [(8, s.nch ≤ ch), (10, 4 < s.cmdByte w k 10), (11, 31 < fl),
    (12, 2 < gm), (13, 15 < s.cmdByte w k 13),
    (14, 8 < s.cmdByte w k 14), (16, 0x7FFF < s.cp w k 16 2), big 20, big 24, big 28, big 32, (37, 15 < s.cmdByte w k 37)] <|
  s.onCtx ch fun p c =>
  if gm = 2 && (wd < 65 || ht < 49) then bad 12
  else
    let s1 := s.stageP ch p c false [(R.COR_CTX_CFG_CFA, s.cmdByte w k 10), (R.COR_CTX_CFG_GAINMODE, gm), (R.COR_CTX_CFG_DD_EN, fl / 4 % 2),
      (R.COR_CTX_CFG_SD_EN, fl / 2 % 2), (R.COR_CTX_CFG_COL_EN, fl % 2), (R.COR_CTX_CFG_TRK_EN, fl / 8 % 2), (R.COR_CTX_CFG_TRK_SHIFT, s.cmdByte w k 13),
      (R.COR_CTX_OB_OB_FIRST, s.cp w k 16 2), (R.COR_CTX_OB_OB_LOG2, s.cmdByte w k 14), (R.COR_CTX_PED_P, s.cp w k 20 4),
      (R.COR_CTX_SEEDB_SEED_B, s.cp w k 24 4), (R.COR_CTX_SEEDN_SEED_N, s.cp w k 28 4), (R.COR_CTX_DD_TMIN, s.cp w k 32 4),
      (R.COR_CTX_DD_K, s.cmdByte w k 36), (R.COR_CTX_DD_DD_SHIFT, s.cmdByte w k 37), (R.COR_CTX_RECIPW_RECIPW, 2 ^ 32 / wd),
      (R.COR_CTX_INV_INVX, 64 * 65536 / wd), (R.COR_CTX_INV_INVY, 48 * 65536 / ht)]
    .ok (s1.modStaged ch fun c => { c with reseed := tbit fl 4 }) []

/-- Bytes of the tables of a set of changes, but for one kind. -/
def CorStage.bytes (x : CorStage) (skip : Option Nat) : Nat :=
  (if skip = some 0 then 0 else up4k (2 * (x.cols.map List.length).getD 0)) + (if skip = some 1 then 0 else up4k (2 * (x.gains.map List.length).getD 0))
    + (if skip = some 2 then 0 else up4k (4 * (x.defs.map List.length).getD 0))

/-- Bytes of a die's staging pool in use by tables loaded and not yet applied, but for one kind of staged table of one channel (R166). -/
def State.stagedBytes (s : State) (d ch kind : Nat) : Nat :=
  (s.cors.map fun (c, x) => if c / 24 != d then 0 else x.staged.bytes (if c = ch then some kind else none) + x.due.bytes none).foldl (· + ·) 0

/-- 16-bit and 32-bit entries of a table's bytes. -/
def entries (n : Nat) (l : List Byte) : List Nat := (List.range (l.length / n)).map fun i => leAt l (n * i) n

/-- The first entry of a defect list that breaks R160. -/
def badDefect (area : Bool) (width height : Nat) (l : List Nat) : Option Nat :=
  (List.range l.length).find? fun i =>
    let e := l.getD i 0
    let kind := e / 2 ^ 30
    let row := e / 2 ^ 15 % 32768
    let col := e % 32768
    (i != 0 && e ≤ l.getD (i - 1) 0) || kind == 3 || (kind != 1 && !area) || (kind == 1 && row != 0) || (kind == 2 && col != 0)
      || (kind != 2 && width ≤ col) || (kind != 1 && height ≤ row)

/-- COR_LOAD_TABLE: `data` is what the read of host memory returned. -/
def corLoadTableB (data : List Byte) (w k : Nat) (s : State) : Rsp :=
  let ch := s.cp w k 8 2
  let kind := s.cmdByte w k 10
  let len := s.cp w k 24 4
  s.checked w k [(8, s.nch ≤ ch), (10, 2 < kind)] <|
  s.onCtx ch fun p c =>
    let wd := (s.chan ch).image.width
    let gm := s.stagedG ch p c false R.COR_CTX_CFG_GAINMODE
    let want := if kind = 0 then len = 2 * wd
      else if kind = 1 then gm != 0 && len = 2 * gainLen gm (s.stagedG ch p c false R.COR_CTX_CFG_CFA) wd
      else len % 4 = 0 && len ≤ 4 * 4096
    let bytes := data.take len
    if data.length < len then bad 16
    else if want then
      match (if kind = 2 then badDefect (s.chan ch).area wd (s.chan ch).image.height (entries 4 bytes) else none) with
      | some i => .err stBAD 16 (leBytes 4 i)
      | none =>
        if crc32c bytes != s.cp w k 28 4 then bad 28
        else if 0x100000 < s.stagedBytes (ch / 24) ch kind + up4k len then busy 1
        else .ok ((s.hostFetch (s.slot w k).port (s.cp w k 16 8) len).modStaged ch fun c =>
          if kind = 0 then { c with cols := some ((entries 2 bytes).map fun v => sint v 16) }
          else if kind = 1 then { c with gains := some (entries 2 bytes) } else { c with defs := some (entries 4 bytes) }) []
    else bad 24

/-- Whether a CFA and a colour mode agree (R177). -/
def cfaAgrees (cfa mode : Nat) : Bool := if mode = 1 then 1 ≤ cfa && cfa ≤ 4 else mode != 3 && cfa == 0

def corApplyB (w k : Nat) (s : State) : Rsp :=
  let ch := s.cp w k 8 2
  s.checked w k [(8, s.nch ≤ ch)] <|
  s.onCtx ch fun p c =>
    if !cfaAgrees (s.stagedG ch p c false R.COR_CTX_CFG_CFA) (s.stagedG ch p c true R.DMS_CTX_CFG_MODE) then bad 8
    else
      let f := if (s.cor ch).seen then ((s.cor ch).curFrame + 1) % 2 ^ 32 else 0
      .ok (s.modCor ch fun c => { c with due := c.due.merge c.staged, staged := {}, applyAt := some f }) (leBytes 4 f)

/-- COR_DISCARD: what is staged goes; a set that COR_APPLY has committed stays (R166; log entry 218). -/
def corDiscardB (w k : Nat) (s : State) : Rsp :=
  let ch := s.cp w k 8 2
  s.checked w k [(8, s.nch ≤ ch)] <|
  s.onCtx ch fun _ _ =>
    .ok (s.modStaged ch fun _ => {}) []

def corQueryB (w k : Nat) (s : State) : Rsp :=
  let ch := s.cp w k 8 2
  s.checked w k [(8, s.nch ≤ ch)] <|
  s.onCtx ch fun p c =>
    let x := s.cor ch
    .ok s (leBytes 1 p ++ leBytes 1 (s.chan ch).slice ++ leBytes 1 c ++ leBytes 4 x.b ++ leBytes 4 x.n
      ++ leBytes 4 (s.g (ctxB (ch / 24) p c) R.COR_CTX_APPLIED_FRAME) ++ leBytes 4 x.ckLine ++ leBytes 4 x.log.length)

def corSliceSwapB (w k : Nat) (s : State) : Rsp :=
  let d := s.cmdByte w k 8
  let l := s.cmdByte w k 9
  s.checked w k [(8, s.nd ≤ d), (9, 3 < l)] <|
  if !s.dieUp d || s.physSlice d l = 7 then busy 3
  else match s.spareSlice d with
    | none => busy 2
    | some sp => .ok (s.moveSlice d l (s.physSlice d l) sp) (leBytes 1 sp)

end Sys2Proof.Machine
end

