-- ==== Sys2Proof/Machine/ColourOps.lean ====
section
/-!
DEFINITION. The colour stage: Bayer reconstruction, trilinear alignment, pixel formats, what a released line leaves its slice with, and the
colour commands (R177 to R195). DMS_SET_TAPS stands in Admission.lean.
-/
namespace Sys2Proof.Machine
open Sys2Proof

/-! ### Bayer (R179 to R181) -/

/-- The colour of a site (0 R, 1 G, 2 B) under a CFA. -/
def siteColour (cfa row col : Nat) : Nat :=
  let i := row % 2 * 2 + col % 2
  if cfa = 1 then [0, 1, 1, 2].getD i 1 else if cfa = 2 then [1, 0, 2, 1].getD i 1
  else if cfa = 3 then [1, 2, 0, 1].getD i 1 else [2, 1, 1, 0].getD i 1

/-- The directed choice (R179): the estimate, and 0 for direction a, 1 for b, 2 for a tie. -/
def pick (ga gb ea eb : Int) (t : Nat) : Int × Nat :=
  if ga + t < gb then (ea, 0) else if gb + t < ga then (eb, 1) else ((ea + eb + 1) / 2, 2)

/-- An estimate along a direction from the two near and the two far samples, and its gradient. -/
def along (x n1 n2 f1 f2 : Int) : Int × Int := ((2 * (n1 + n2) + 2 * x - f1 - f2 + 2) / 4, ((n1 - n2).natAbs + (2 * x - f1 - f2).natAbs : Nat))

/-- R, G, B at a column of line i of a window of shaded lines, and the choices made: green (none 3), diagonal (none 3). -/
def CorSet.bayerPx (c : CorSet) (ls : List PLine) (i row col : Nat) : List Nat × Nat × Nat :=
  let P (dr dc : Int) : Int := (((winRow ls i dr).map fun l => l.shd.getD (c.mcol col dc) 0).getD 0 : Nat)
  let x := P 0 0
  let h := along x (P 0 (-1)) (P 0 1) (P 0 (-2)) (P 0 2)
  let v := along x (P (-1) 0) (P 1 0) (P (-2) 0) (P 2 0)
  let own := siteColour c.cfa row col
  if own = 1 then
    let ch := siteColour c.cfa row (col + 1)
    let hv := (clamp20 h.1, clamp20 v.1)
    ((if ch = 0 then [hv.1, x.toNat, hv.2] else [hv.2, x.toNat, hv.1]), 3, 3)
  else
    let d1 := along x (P (-1) (-1)) (P 1 1) (P (-2) (-2)) (P 2 2)
    let d2 := along x (P (-1) 1) (P 1 (-1)) (P (-2) 2) (P 2 (-2))
    let g := pick h.2 v.2 h.1 v.1 c.edgeT
    let y := pick d1.2 d2.2 d1.1 d2.1 c.edgeT
    ((if own = 0 then [x.toNat, clamp20 g.1, clamp20 y.1] else [clamp20 y.1, clamp20 g.1, x.toNat]), g.2, y.2)

/-- Whether the shaded lines that a BAYER line needs below it exist (R181). -/
def bayerReady (ls : List PLine) (j : Nat) (closed : Bool) : Bool :=
  let below := (ls.drop (j + 1)).take 2
  (below.length = 2 || closed) && below.all (·.dyn.isSome)

/-! ### Trilinear (R183 to R187) -/

/-- The values of segment i of a line. -/
def CorSet.segVals (c : CorSet) (v : List Nat) (i : Nat) : List Nat := (v.drop (i * (c.width / 3))).take (c.width / 3)

/-- The two lines that bracket coordinate t among lines given newest first (R186): their places, alpha in 1/256, and whether none does and
the nearest line stands for both. -/
def downPair (t : Int) (depth : Nat) (xs : List Int) : Nat × Nat × Nat × Bool :=
  let x (i : Nat) : Int := xs.getD i 0
  match (List.range (min depth (xs.length - 1))).find? fun k => (x (k + 1) ≤ t && t ≤ x k) || (x k ≤ t && t ≤ x (k + 1)) with
  | some k =>
    let gap := (x k - x (k + 1)).natAbs
    (k + 1, k, if gap = 0 then 256 else ((t - x (k + 1)).natAbs * 256 + gap / 2) / gap, false)
  | none =>
    let near := (List.range xs.length).foldl (fun m i => if (x i - t).natAbs < (x m - t).natAbs then i else m) 0
    (near, near, 0, true)

/-- The blend of two lines at alpha (R186). -/
def blendLine (alpha : Nat) (lo hi : List Nat) (w : Nat) : List Nat :=
  (List.range w).map fun x => ((256 - alpha) * lo.getD x 0 + alpha * hi.getD x 0 + 128) / 256

/-- Segment i of the output line (R186), from line n (its coordinate and values) and the held lines, newest first. -/
def CorSet.triSeg (c : CorSet) (i : Nat) (xn : Int) (segs : List (List Nat)) (held : List Delay) : List Nat × Bool :=
  let ls : List (Int × List Nat) := (xn, segs.getD i []) :: (held.take c.depth).map fun h => (h.coord, h.segs.getD i [])
  let (lo, hi, alpha, clamp) := downPair (xn - c.off.getD i 0) c.depth (ls.map (·.1))
  let alpha := if c.nearest then (if alpha < 128 then 0 else 256) else alpha
  (blendLine alpha (ls.getD lo (0, [])).2 (ls.getD hi (0, [])).2 (c.width / 3), clamp)

/-! ### A line leaves its slice (R164, R168, R178, R187) -/

def dmsCnt (d p i : Nat) : Nat := dmsB d p + R.DMS_CNT_COUNT.off + 4 * i

/-- The oldest unreleased line of a channel, its window and its place, if it has what the colour stage needs. -/
def State.releasable (s : State) (ch : Nat) : Option (Nat × PLine × List PLine × Nat) :=
  let c := s.cor ch
  let area := (s.chan ch).area
  let i := c.lines.findIdx fun l => !l.released
  (c.lines[i]?).bind fun l =>
    let (ls, j) := winOf area c.lines i
    if l.dyn.isNone || (l.set.mode = 1 && !bayerReady ls j (winClosed area (s.runEnded ch) c.lines i)) then none else some (i, l, ls, j)

/-- The colour stage of a line that leaves: its planes, with the stage's counts, events and sources. -/
def State.colour (s : State) (p k : Nat) (l : PLine) (ls : List PLine) (j : Nat) : List (List Nat) × State :=
  let ch := l.raw.ch
  let d := ch / 24
  let c := l.set
  if c.mode = 1 then
    let px := (List.range c.width).map fun col => c.bayerPx ls j l.raw.row col
    let n (f : List Nat × Nat × Nat → Bool) : Nat := (px.filter f).length
    let s := (((s.bump (dmsCnt d p 0)).bump (dmsCnt d p 1) (n (·.2.1 == 0))).bump (dmsCnt d p 2) (n (·.2.1 == 1)))
    let s := (s.bump (dmsCnt d p 3) (n (·.2.1 == 2))).bump (dmsCnt d p 4) (n (·.2.2 == 2))
    ((List.range 3).map fun q => px.map fun e => e.1.getD q 0, s)
  else if c.mode = 2 then
    let h := (s.cor ch).hist
    let held := h.takeWhile fun x => x.run == l.raw.tag.run && x.rev == l.raw.tag.rev
    let segs := (List.range 3).map (c.segVals l.shd)
    let outs := (List.range 3).map fun i => if i = c.ref then (segs.getD i [], false) else c.triSeg i l.raw.tag.coord segs held
    let clamps := (outs.filter (·.2)).length
    let planes := (List.range 3).map fun q => (outs.getD (c.seg.findIdx (· == q)) ([], false)).1
    let s := (s.modCor ch fun x => { x with
      hist := ({ run := l.raw.tag.run, rev := l.raw.tag.rev, coord := l.raw.tag.coord, segs := segs } :: h).take 66, clamps := x.clamps + clamps }).bump (dmsCnt d p 0)
    if clamps = 0 then (planes, s)
    else (planes, ((s.bump (dmsCnt d p 5) clamps).evt (dmsB d p) R.DMS_EVT_E [R.DMS_EVT_ALIGN_CLAMP] [(R.DMS_EVT_CTX, k)]).raise d 0x0A02 p)
  else ([l.shd], s)

/-- An uncorrectable word of the delay store (R187) reads 0 for its values. -/
def zeroHeld (h : List Delay) (back seg first n : Nat) : List Delay :=
  h.mapIdx fun i e => if i + 1 = back then
      let z := e.segs.mapIdx fun q v => if q = seg then v.mapIdx fun x y => if first ≤ x && x < first + n then 0 else y else v
      { e with segs := z }
    else e

/-- Whether a line is the last that its frame unit will have: its last row, or the last open line of a unit cut short (R124, R199): no trigger of
the unit is to come, since its channel is down, has begun another frame, or has a generator that stands, and no line of it is on its way. -/
def State.fuLast (s : State) (ch : Nat) (l : PLine) : Bool :=
  let c := s.chan ch
  let f := l.raw.tag.frame
  let mine (r : RawLine) : Bool := r.ch == ch && r.tag.frame == f
  l.raw.lastFu || ((c.down || (c.lastTrig.any fun t => t.1 != f) || (match c.gen with | some g => !(s.gen g).running | none => true))
    && !c.tags.any (·.frame == f) && !c.held.any mine && !c.ready.any mine && !(tgetD s.sliceQ (ch / 24 * 8 + c.slice) []).any mine
    && ((s.cor ch).lines.filter fun x => !x.released && mine x.raw).length ≤ 1)

/-- The oldest line leaves its slice: its final flags and planes, its counts, its log entry or checkpoint (R168, R171). -/
def State.leaveSlice (s : State) (ch p k : Nat) : Option (PLine × List (List Nat) × State) :=
  (s.releasable ch).map fun (i, l, ls, j) =>
    let d := ch / 24
    let fl := if l.crc then setb l.raw.flags flCRC else l.raw.flags
    let last := s.fuLast ch l
    let l := { l with raw := { l.raw with flags := fl, lastFu := last }, released := true }
    let (planes, s) := s.colour p k l ls j
    let s := s.modCor ch fun c => { c with lines := c.lines.set i l }
    let n (q : Nat) : Nat := l.defects.getD q 0
    let s := (s.bump (corCnt d p 0)).bump (corCnt d p 1) (if tbit fl flSPARED then 1 else 0)
    let s := (((s.bump (corCnt d p 2) (n 0)).bump (corCnt d p 3) (n 1)).bump (corCnt d p 4) (n 2)).bump (corCnt d p 5) (n 3)
    let s := if n 1 = 0 then s else (s.evt (corB d p) R.COR_EVT_E [R.COR_EVT_STATIC_UNREP] [(R.COR_EVT_CTX, k)]).raise d 0x0905 p
    let s := s.checkpoint p k l
    (l, planes, s.modCor ch Cor.trim)

/-- The effect of an uncorrectable delay-store word on a channel (R187). -/
def State.storeUncorr (s : State) (ch p k back seg first n : Nat) : State :=
  match s.releasable ch with
  | none => s
  | some (i, _, _, _) =>
    let s := (s.modCor ch fun c => { c with hist := zeroHeld c.hist back seg first n }).strike ch i
    (s.evt (dmsB (ch / 24) p) R.DMS_EVT_E [R.DMS_EVT_STORE_UNCORR] [(R.DMS_EVT_CTX, k)]).raise (ch / 24) 0x0A01 p

/-! ### Pixel formats (R188, R189) -/

/-- A 20-bit value in n bits (R188). -/
def toBits (v n : Nat) : Nat := if n < 20 then min ((v + 2 ^ (19 - n)) / 2 ^ (20 - n)) (2 ^ n - 1) else v

/-- Whether a format code is defined; of the colour kind; its bits per pixel (RAW has none of its own). -/
def fmtKnown (f : Nat) : Bool := f ≤ 5 || (0x10 ≤ f && f ≤ 0x12)
def fmtColour (f : Nat) : Bool := 0x10 ≤ f && f ≤ 0x12
def fmtBits (f : Nat) : Nat :=
  if f = 1 then 8 else if f = 2 then 10 else if f = 3 then 12 else if f = 4 then 16 else if f = 5 then 20
  else if f = 0x10 then 24 else if f = 0x11 then 48 else if f = 0x12 then 32 else 0

/-- Bytes of a line of w pixels in a format (R189): padded to a multiple of 8. -/
def fmtBytes (f w : Nat) : Nat := (w * fmtBits f + 63) / 64 * 8

/-- One pixel's bits in a format. -/
def fmtPixel (f : Nat) (v : List Nat) : Nat :=
  let a := v.getD 0 0
  let b := v.getD 1 0
  let c := v.getD 2 0
  if f = 0x10 then toBits a 8 + toBits b 8 * 2 ^ 8 + toBits c 8 * 2 ^ 16
  else if f = 0x11 then toBits a 16 + toBits b 16 * 2 ^ 16 + toBits c 16 * 2 ^ 32
  else if f = 0x12 then toBits a 10 + toBits b 10 * 2 ^ 10 + toBits c 10 * 2 ^ 20
  else toBits a (fmtBits f)

/-- The bytes of values of a fixed number of bits, packed from bit 0 up. `acc` holds `n` bits not yet put out. -/
def packBits (w : Nat) : List Nat → Nat → Nat → List Byte
  | [], acc, n => leBytes ((n + 7) / 8) acc
  | v :: t, acc, n =>
    let acc := acc + v * 2 ^ n
    let n := n + w
    leBytes (n / 8) acc ++ packBits w t (acc / 2 ^ (n / 8 * 8)) (n % 8)

/-- Columns u0 to u1 of a line's planes, as a bight takes them. -/
def cutPlanes (planes : List (List Nat)) (u0 u1 : Nat) : List (List Nat) := planes.map fun p => (p.drop u0).take (u1 + 1 - u0)

/-- A line's payload in a format (R189); RAW passes the received bytes. -/
def fmtLine (f : Nat) (planes : List (List Nat)) (rawBytes : List Byte) : List Byte :=
  if f = 0 then rawBytes ++ List.replicate ((8 - rawBytes.length % 8) % 8) 0
  else
    let w := (planes.getD 0 []).length
    bytesAt (packBits (fmtBits f) ((List.range w).map fun i => fmtPixel f (planes.map fun p => p.getD i 0)) 0 0) 0 (fmtBytes f w)

/-! ### Commands (R193, R195) -/

/-- D of a set of offsets on a generator (R184). -/
def State.depthOf (s : State) (g : Nat) (far : Nat) : Nat :=
  let den := max 1 (s.g (genB g) R.TRG_GEN_REM_DEN)
  let step := s.g (genB g) R.TRG_GEN_PITCH_PITCH * den + s.g (genB g) R.TRG_GEN_REM_REM
  if step = 0 then (if far = 0 then 1 else 2 ^ 32) else (far * den + step - 1) / step + 1

def dmsSetChannelB (w k : Nat) (s : State) : Rsp :=
  let ch := s.cp w k 8 2
  let mode := s.cmdByte w k 10
  let ref := s.cmdByte w k 16
  let segs := s.cmdByte w k 17
  let seg (i : Nat) : Nat := segs / 4 ^ i % 4
  let off (i : Nat) : Int := sint (s.cp w k (20 + 4 * i) 4) 32
  let c := s.chan ch
  let far := ((List.range 3).map fun i => (off i).natAbs).foldl max 0
  let tri := mode = 2
  let dist := match c.gen with
    | some g => s.genKind g == 1
    | none => false
  let depth := if tri then (match c.gen with | some g => s.depthOf g far | none => 0) else 0
  let same := seg 0 = seg 1 || seg 1 = seg 2 || seg 0 = seg 2
  let offBad (i : Nat) : Nat × Bool := (20 + 4 * i, tri && i == ref && off i != 0)
  s.checked w k ([(8, decide (s.nch ≤ ch)), (10, 2 < mode),
      (11, 1 < s.cmdByte w k 11), (12, 0xFFFFF < s.cp w k 12 4), (16, 2 < ref), (17, 63 < segs || seg 0 = 3 || seg 1 = 3 || seg 2 = 3 || (tri && same))]
    ++ (List.range 3).map offBad) <|
  s.onCtx ch fun p x =>
  if !cfaAgrees (s.stagedG ch p x false R.COR_CTX_CFG_CFA) mode || (tri && (c.image.width % 3 != 0 || 3 * 10922 < c.image.width)) then bad 10
  else if tri && (!dist || 64 < depth) then bad 20
  else
    let e := dctxB (ch / 24) p x
    let colour := s.g e R.DMS_CTX_CFG_MODE != mode || s.g e R.DMS_CTX_CFG_REF != ref || s.g e R.DMS_CTX_CFG_SEG0 != seg 0
      || s.g e R.DMS_CTX_CFG_SEG1 != seg 1 || s.g e R.DMS_CTX_CFG_SEG2 != seg 2 || s.g e R.DMS_CTX_DELAY_D < depth
    if (s.cor ch).seen && colour then busy 4
    else
      let s1 := s.stageP ch p x true [(R.DMS_CTX_CFG_MODE, mode), (R.DMS_CTX_CFG_INTERP, s.cmdByte w k 11), (R.DMS_CTX_CFG_REF, ref),
        (R.DMS_CTX_CFG_SEG0, seg 0), (R.DMS_CTX_CFG_SEG1, seg 1), (R.DMS_CTX_CFG_SEG2, seg 2), (R.DMS_CTX_EDGE_EDGE_T, s.cp w k 12 4), (R.DMS_CTX_DELAY_D, depth)]
      let word (i : Nat) : Word := BitVec.ofNat 32 (s.cp w k (20 + 4 * i) 4)
      .ok (s1.modStaged ch fun c => { c with
        ctx := (List.range 3).foldl (fun t i => tset t (ctxOff true R.DMS_CTX_OFF_OFF + 4 * i) (word i)) c.ctx }) (leBytes 1 depth)

def dmsQueryB (w k : Nat) (s : State) : Rsp :=
  let ch := s.cp w k 8 2
  s.checked w k [(8, s.nch ≤ ch)] <|
  s.onCtx ch fun p x =>
    let e := dctxB (ch / 24) p x
    .ok s (leBytes 1 (s.g e R.DMS_CTX_CFG_MODE) ++ leBytes 1 (s.g e R.DMS_CTX_CFG_TAPS) ++ leBytes 1 (s.g e R.DMS_CTX_DELAY_D)
      ++ leBytes 4 (s.g e R.DMS_CTX_EDGE_EDGE_T) ++ ((List.range 3).map fun i => leBytes 4 (s.rd (e + R.DMS_CTX_OFF_OFF.off + 4 * i)).toNat).flatten
      ++ leBytes 4 (s.cor ch).clamps)

/-- The held values of a DMS block (R45). -/
def State.dmsSnap (s : State) (d p : Nat) : State :=
  upTo 12 (fun k s =>
    if s.gb (ctxB d p k) R.COR_CTX_CFG_VALID then
      s.p (dctxB d p k) R.DMS_CTX_CLAMPS_COUNT (s.cor (24 * d + s.g (ctxB d p k) R.COR_CTX_CFG_LCHAN)).clamps
    else s) s

end Sys2Proof.Machine
end

