-- ==== Sys2Proof/Machine/StatsOps.lean ====
section
/-!
DEFINITION. Statistics: banks, the end of a frame unit, the collector's order, the record body, and the statistics commands (R196 to R211).
-/
namespace Sys2Proof.Machine
open Sys2Proof

def State.sta (s : State) (ch : Nat) : Sta := tgetD s.stas ch {}
def State.setSta (s : State) (ch : Nat) (x : Sta) : State := { s with stas := tset s.stas ch x }

/-- Base of a channel's STA context, and the die's counters. -/
def sctxB (ch : Nat) : Nat := staB (ch / 24) + 0x20 * (ch % 24)
def staCnt (d i : Nat) : Nat := staB d + R.STA_CNT_COUNT.off + 4 * i

def State.staEvt (s : State) (ch : Nat) (f : Fld) : State := s.evt (staB (ch / 24)) R.STA_EVT_E [f] [(R.STA_EVT_CHAN, ch % 24)]

/-- Add to a count that stops at 2^w - 1: the table, and whether it stopped. -/
def satAdd (w : Nat) (t : Tbl Nat × Bool) (k n : Nat) : Tbl Nat × Bool :=
  let v := tgetD t.1 k 0 + n
  if v < 2 ^ w then (tset t.1 k v, t.2) else (tset t.1 k (2 ^ w - 1), true)

/-! ### The round time (R202) -/

/-- The body bytes of a channel's statistics record with given planes and zones (R204). -/
def staBody (planes zx zy : Nat) : Nat := (64 + 1024 * planes + 8 * zx * zy * planes + 63) / 64 * 64

/-- Planes of a channel's statistics, from its colour mode (R196). -/
def State.chanPlanes (s : State) (ch : Nat) : Nat :=
  match s.chanSlice ch with
  | some p => (match s.corCtx ch p with | some k => (if s.g (dctxB (ch / 24) p k) R.DMS_CTX_CFG_MODE = 0 then 1 else 3) | none => 1)
  | none => 1

/-- Output columns of a channel (R177). -/
def State.outWidth (s : State) (ch : Nat) : Nat :=
  let w := (s.chan ch).image.width
  match s.chanSlice ch with
  | some p => (match s.corCtx ch p with | some k => (if s.g (dctxB (ch / 24) p k) R.DMS_CTX_CFG_MODE = 2 then w / 3 else w) | none => w)
  | none => w

/-- The colour mode that the next frame unit of a channel has: a committed set counts, and so does a set staged for a channel that is not
yet running (R166). -/
def State.nextMode (s : State) (ch : Nat) : Nat :=
  match s.chanSlice ch with
  | some p => (match s.corCtx ch p with
    | some k => s.nextG ch p k true R.DMS_CTX_CFG_MODE
    | none => 0)
  | none => 0

/-- Planes and output columns of a channel's next frame unit (R166, R177, R196). -/
def State.nextPlanes (s : State) (ch : Nat) : Nat := if s.nextMode ch = 0 then 1 else 3
def State.nextWidth (s : State) (ch : Nat) : Nat :=
  if s.nextMode ch = 2 then (s.chan ch).image.width / 3 else (s.chan ch).image.width

/-- Admitted channels of a die, ascending. -/
def State.dieChans (s : State) (d : Nat) : List Nat := (s.chans.filter fun e => e.1 / 24 == d && e.2.admitted).map (·.1)

/-- A channel's share of R_die with a zone grid, and with its current one. -/
def roundShare (planes zx zy : Nat) : Nat := staBody planes zx zy / 64 + 5
def State.staShare (s : State) (ch : Nat) : Nat :=
  roundShare (s.nextPlanes ch) (s.g (sctxB ch) R.STA_CTX_CFG_ZX) (s.g (sctxB ch) R.STA_CTX_CFG_ZY)

/-- The largest share that a channel has while the configurations staged for it take effect (log entry 219). -/
def State.staPeak (s : State) (ch : Nat) : Nat :=
  ((s.sta ch).staged.map fun e =>
    let cfg := (tget e.2 0x100).getD 0
    roundShare (s.nextPlanes ch) (bits cfg 14 8) (bits cfg 22 16)).foldl max (s.staShare ch)

/-- STA_ROUND shows R_die. -/
def State.syncRound (s : State) (d : Nat) : State :=
  s.p (staB d) R.STA_ROUND_ROUND (min 0xFFFF (((s.dieChans d).map s.staShare).foldl (· + ·) 0))

/-- Apply the configurations of a channel that are due at frame f, in order (R209). -/
def State.staApply (s : State) (ch f : Nat) : State :=
  let b := sctxB ch
  let x := s.sta ch
  let due := x.staged.filter fun e => frameFrom f e.1
  if due.isEmpty then s
  else
    let s := each due (fun e s => each e.2 (fun r s => s.put (b + r.1) r.2) s) s
    let s := s.ps b [(R.STA_CTX_ZINVX_ZINVX, s.g b R.STA_CTX_CFG_ZX * 65536 / (s.g b R.STA_CTX_COLS_C1 - s.g b R.STA_CTX_COLS_C0 + 1)),
      (R.STA_CTX_ZINVY_ZINVY, s.g b R.STA_CTX_CFG_ZY * 65536 / s.unitLines ch), (R.STA_CTX_APPLIED_FRAME, f)]
    ((s.setSta ch { x with staged := x.staged.filter fun e => !frameFrom f e.1 }).staEvt ch R.STA_EVT_APPLIED).syncRound (ch / 24)

/-- Whether a line of a frame before f is still on its way through a channel. -/
def State.staBehind (s : State) (ch f : Nat) : Bool :=
  let c := s.chan ch
  let early (t : Tag) : Bool := !frameFrom t.frame f
  c.tags.any early || c.held.any (fun r => early r.tag) || c.ready.any (fun r => early r.tag)
    || (tgetD s.sliceQ (ch / 24 * 8 + c.slice) []).any (fun r => r.ch == ch && early r.tag) || (s.cor ch).lines.any fun l => !l.released && early l.raw.tag

/-- STA_CONFIG_APPLY: the channel's frame unit under its generator has reached the frame of a staged configuration, and no line of an earlier frame,
or of this one, has still to be counted under the present one. -/
def staConfigApplyF (ch : Nat) (s : State) : State :=
  match (s.chan ch).gen.bind fun g => (s.gen g).frame with
  | some f => if (s.sta ch).live.lines = 0 && !s.staBehind ch f then s.staApply ch f else s
  | none => s

/-- The end of a channel's frame unit (R199, R200, R204): the live bank is frozen into the slot or the queue, or is lost. -/
def State.staEnd (s : State) (ch : Nat) : State :=
  let d := ch / 24
  let x := s.sta ch
  let c := s.cor ch
  let bank := { x.live with black := (c.ckB + 0x800) / 4096 % 2 ^ 20, noise := c.ckN % 2 ^ 24, lost := x.lost }
  match x.slot with
  | none => s.setSta ch { x with live := {}, slot := some bank, lost := 0 }
  | some _ =>
    if x.queue.length < 8 then
      let s := (s.setSta ch { x with live := {}, queue := x.queue ++ [bank], lost := 0 }).p (sctxB ch) R.STA_CTX_QUEUE_OCC (x.queue.length + 1)
      s.p (staB d) R.STA_QMAX_MAX (max (s.g (staB d) R.STA_QMAX_MAX) (x.queue.length + 1))
    else
      let s := (s.setSta ch { x with live := {}, lost := x.lost + 1, lostAll := x.lostAll + 1 }).bump (staCnt d 1)
      (s.staEvt ch R.STA_EVT_QUEUE_FULL).raise d 0x0B02 (ch % 24)

/-- Merge a released line into its channel's live bank (R196 to R198). The bank of an earlier frame unit that ended with no last line is frozen
first. -/
def State.staMerge (s : State) (l : PLine) (planes : List (List Nat)) : State :=
  let ch := l.raw.ch
  let b := sctxB ch
  let s := if (s.sta ch).live.lines != 0 && (s.sta ch).live.frame != l.raw.tag.frame then s.staEnd ch else s
  let s := if (s.sta ch).live.lines = 0 then s.staApply ch l.raw.tag.frame else s
  let s := if (s.sta ch).live.lines = 0 then s.p b R.STA_CTX_CFG_PLANES (if planes.length = 1 then 1 else 3) else s
  let x := s.sta ch
  let c0 := s.g b R.STA_CTX_COLS_C0
  let c1 := s.g b R.STA_CTX_COLS_C1
  let bank := if x.live.lines = 0 then
      ({ frame := l.raw.tag.frame, tag := l.raw.tag, planes := planes.length, zx := s.g b R.STA_CTX_CFG_ZX, zy := s.g b R.STA_CTX_CFG_ZY,
         shift := s.g b R.STA_CTX_CFG_HIST_SHIFT, vc := (s.chan ch).image.vc, dt := (s.chan ch).image.dt } : Bank)
    else x.live
  let zy := l.raw.row * s.g b R.STA_CTX_ZINVY_ZINVY / 65536
  let lo := s.g b R.STA_CTX_CLIPLO_CLIP_LO
  let hi := s.g b R.STA_CTX_CLIPHI_CLIP_HI
  let zinv := s.g b R.STA_CTX_ZINVX_ZINVX
  let px : List (Nat × Nat × Nat) := (planes.mapIdx fun q vs => (vs.mapIdx fun c v => (q, c, v)).filter fun e => c0 ≤ e.2.1 && e.2.1 ≤ c1).flatten
  let hist := px.foldl (fun t e => satAdd 32 t (e.1 * 256 + min (e.2.2 / 2 ^ bank.shift) 255) 1) (bank.hist, false)
  let clip := px.foldl (fun t e =>
    let t := if e.2.2 ≤ lo then satAdd 32 t (e.1 * 2) 1 else t
    if hi ≤ e.2.2 then satAdd 32 t (e.1 * 2 + 1) 1 else t) (bank.clip, false)
  let zones := px.foldl (fun t e => satAdd 64 t ((zy * bank.zx + (e.2.1 - c0) * zinv / 65536) * 3 + e.1) e.2.2) (bank.zones, false)
  let sat0 := hist.2 || clip.2
  let satD := (bank.defs.mapIdx fun i v => v + l.defects.getD i 0).any (2 ^ 32 ≤ ·)
  let keep := 2 ^ flCRC + 2 ^ flHDRFIX + 2 ^ flMALF + 2 ^ flLATE + 2 ^ flCOARSE + 2 ^ flSPARED
  let bank := { bank with
    flags := bank.flags ||| (l.raw.flags &&& keep), hist := hist.1, clip := clip.1, zones := zones.1,
    defs := bank.defs.mapIdx fun i v => min (2 ^ 32 - 1) (v + l.defects.getD i 0), lines := bank.lines + 1,
    sat := bank.sat ||| ((if sat0 then 1 else 0) + if zones.2 then 2 else 0) }
  let s := s.setSta ch { x with live := bank }
  if sat0 || zones.2 || satD then (s.bump (staCnt (ch / 24) 2)).staEvt ch R.STA_EVT_SAT else s

/-- The channel the collector serves next (R201): round robin by local channel after the one served last. -/
def State.staPick (s : State) (d : Nat) : Option Nat :=
  let last := tgetD s.staNext d 23
  ((List.range 24).map fun i => 24 * d + (last + 1 + i) % 24).find? fun ch => (s.sta ch).slot.isSome

/-- The body of a statistics record (R206); the bytes of uncorrectable bank words read 0, and SFLAGS[2] is then set (R207). -/
def Bank.body (b : Bank) (bad : List (Nat × Nat)) : List Byte :=
  let clip := ((List.range 6).map fun i => leBytes 4 (tgetD b.clip i 0)).flatten
  let hist := ((List.range (256 * b.planes)).map fun i => leBytes 4 (tgetD b.hist i 0)).flatten
  let zones := ((List.range (b.zx * b.zy)).map fun z => ((List.range b.planes).map fun q => leBytes 8 (tgetD b.zones (z * 3 + q) 0)).flatten).flatten
  let raw := leBytes 2 1 ++ leBytes 1 b.planes ++ leBytes 1 b.zx ++ leBytes 1 b.zy ++ leBytes 1 b.shift ++ leBytes 2 (b.sat % 4) ++ leBytes 4 b.lines
    ++ leBytes 4 b.lost ++ (b.defs.map (leBytes 4)).flatten ++ leBytes 4 b.black ++ leBytes 4 b.noise ++ clip ++ hist ++ zones
  let raw := raw ++ List.replicate ((64 - raw.length % 64) % 64) 0
  if bad.isEmpty then raw
  else
    let l := bad.foldl (fun l e => overlay l e.1 (List.replicate e.2 0)) raw
    overlay l 6 [l.getD 6 0 ||| 4]

/-- Take the next bank of a die to drain (R201): the head of its channel's queue moves into the slot. -/
def State.staTake (s : State) (d : Nat) : Option (Nat × Bank × State) :=
  match s.staPick d with
  | none => none
  | some ch =>
    let x := s.sta ch
    x.slot.map fun b =>
      let s := (s.setSta ch { x with slot := x.queue.head?, queue := x.queue.drop 1 }).p (sctxB ch) R.STA_CTX_QUEUE_OCC (x.queue.length - 1)
      (ch, b, { s with staNext := tset s.staNext d (ch % 24) })

/-- The effect of a written STA_QMAX word (R204). -/
def qmaxApply (d : Nat) (v : Word) (s : State) : State := if bits v 31 31 = 1 then s.p (staB d) R.STA_QMAX_MAX 0 else s

/-! ### Commands (R211) -/

/-- R202 for a channel and a round time: its shortest frame-unit interval is at least 2 R_die. -/
def intervalOk (fuLines rate r : Nat) : Bool := 5 * r * rate ≤ 4000000000 * fuLines

/-- R202 on the channels of a die. -/
def State.roundOk (s : State) (chs : List Nat) (r : Nat) : Bool :=
  chs.all fun ch => match (s.chan ch).gen with
    | some g => intervalOk (if (s.chan ch).area then 1 else s.fuLines ch) (s.gen g).maxRate r
    | none => true

def staSetChannelB (w k : Nat) (s : State) : Rsp :=
  let ch := s.cp w k 8 2
  let sh := s.cmdByte w k 10
  let zx := s.cmdByte w k 11
  let zy := s.cmdByte w k 12
  let c0 := s.cp w k 16 2
  let c1 := s.cp w k 18 2
  let on := (s.chanSlice ch).isSome
  s.checked w k [(8, s.nch ≤ ch), (10, sh < 4 || 12 < sh), (11, zx = 0 || 64 < zx || zy = 0 || 64 < zy || 256 < zx * zy),
    (16, c1 < c0 || c1 + 1 - c0 < zx), (20, 0xFFFFF < s.cp w k 20 4), (24, 0xFFFFF < s.cp w k 24 4)] <|
  if !on then busy 3
  else if s.unitLines ch < zy then bad 12
  else if s.nextWidth ch ≤ c1 then bad 16
  else
    let d := ch / 24
    let others := (s.dieChans d).filter (· != ch)
    let r := (others.map s.staPeak).foldl (· + ·) (max (s.staPeak ch) (roundShare (s.nextPlanes ch) zx zy))
    if !s.roundOk (s.dieChans d) r then refused 0x0501
    else
      let b := sctxB ch
      let f := match (s.chan ch).gen.bind fun g => (s.gen g).frame with
        | some f => (f + 1) % 2 ^ 32
        | none => 0
      let cfg := putBits (putBits (putBits (s.rd (b + 0x100)) 27 24 sh) 22 16 zy) 14 8 zx
      let t : Tbl Word := [(0x100, cfg), (0x104, BitVec.ofNat 32 (c1 * 65536 + c0)), (0x108, BitVec.ofNat 32 (s.cp w k 20 4)), (0x10C, BitVec.ofNat 32 (s.cp w k 24 4))]
      .ok (s.setSta ch { s.sta ch with staged := ((s.sta ch).staged.filter fun e => e.1 != f) ++ [(f, t)] }) (leBytes 4 f)

def staQueryB (w k : Nat) (s : State) : Rsp :=
  let ch := s.cp w k 8 2
  s.checked w k [(8, s.nch ≤ ch)] <|
  let b := sctxB ch
  let x := s.sta ch
  .ok s (leBytes 1 (s.g b R.STA_CTX_CFG_PLANES) ++ leBytes 1 (s.g b R.STA_CTX_CFG_ZX) ++ leBytes 1 (s.g b R.STA_CTX_CFG_ZY)
    ++ leBytes 1 (s.g b R.STA_CTX_CFG_HIST_SHIFT) ++ leBytes 1 x.queue.length ++ leBytes 4 (s.g b R.STA_CTX_APPLIED_FRAME) ++ leBytes 4 x.written
    ++ leBytes 4 x.lostAll ++ leBytes 4 x.lastFrame)

def staQueryDieB (w k : Nat) (s : State) : Rsp :=
  let d := s.cmdByte w k 8
  s.checked w k [(8, s.nd ≤ d)] <|
  .ok s (leBytes 4 (s.g (staB d) R.STA_ROUND_ROUND) ++ leBytes 1 (s.g (staB d) R.STA_QMAX_MAX)
    ++ ((List.range 5).map fun i => leBytes 4 (s.cnt (staCnt d i))).flatten)

end Sys2Proof.Machine
end

