-- ==== Sys2Proof/Machine/HoldOps.lean ====
section
/-!
DEFINITION. Consumer contexts and the holding store: which records a source makes for a share set, the ring and its credits, and a record's
life from its opening to its release (R230 to R245, R150).
-/
namespace Sys2Proof.Machine
open Sys2Proof

/-! ### Contexts (R230 to R232, R237) -/

def State.ctx (s : State) (c : Nat) : Ctx := tgetD s.ctxs c {}
def State.modCtx (s : State) (c : Nat) (f : Ctx → Ctx) : State := { s with ctxs := tset s.ctxs c (f (s.ctx c)) }

/-- A field of a context's registers. -/
def State.cg (s : State) (c : Nat) (f : Fld) : Nat := s.g (ctxBase c) f
def State.cbound (s : State) (c : Nat) : Bool := s.gb (ctxBase c) R.CSM_CTX_CFG_VALID

/-- The home die of a source (R230). -/
def srcHome (kind id : Nat) : Nat := if kind = 7 then (id - 0x100) / 8 else id / 24

/-- The home die of a bound context. -/
def State.ctxDie (s : State) (c : Nat) : Nat := srcHome (s.cg c R.CSM_CTX_CFG_SRC_KIND) (s.cg c R.CSM_CTX_SRC_SRC_ID)

/-- CSM_CNT[i] of a die. -/
def csmCnt (d i : Nat) : Nat := csmB d + R.CSM_CNT_COUNT.off + 4 * i
def hldCnt (d i : Nat) : Nat := hldB d + R.HLD_CNT_COUNT.off + 4 * i
def State.csmEvt (s : State) (c : Nat) (f : Fld) : State := s.evt (csmB (s.ctxDie c)) R.CSM_EVT_E [f] [(R.CSM_EVT_CONS, c)]

/-- The bound contexts on a source, ascending, and their share sets. -/
def State.onSource (s : State) (kind id : Nat) : List Nat :=
  (s.ctxs.filter fun e => s.cg e.1 R.CSM_CTX_CFG_SRC_KIND == kind && s.cg e.1 R.CSM_CTX_SRC_SRC_ID == id).map (·.1)
def State.sharesOn (s : State) (kind id : Nat) : List Nat := ((s.onSource kind id).map fun c => (s.ctx c).share).eraseDups
def State.shareMembers (s : State) (sh : Nat) : List Nat := (s.ctxs.filter fun e => e.2.share == sh).map (·.1)

/-- Whether a context produces records of a frame (R245, R252): from the first frame of its binding, and once it drains not beyond its last; none
while its holding store is isolated (R326). -/
def State.produces (s : State) (c frame : Nat) : Bool :=
  let st := if s.unitOut (s.ctxDie c) 0x0D 0 then 0 else s.cg c R.CSM_CTX_CFG_STATE
  st != 0 && (s.ctx c).startAt.all (frameFrom frame ·) && (st != 3 || (s.ctx c).stopAt.any fun f => !frameFrom frame (f + 1))

/-- XLO or XHI of a context, signed. -/
def State.ctxX (s : State) (c : Nat) (lo hi : Fld) : Int := sint (s.cg c hi * 2 ^ 32 + s.cg c lo) 64

/-- Whether a context's bight selects a record (R232): by coordinate and by line (or frame) number. -/
def State.selects (s : State) (c : Nat) (x : Int) (no : Nat) : Bool :=
  (s.cg c R.CSM_CTX_CFG_XMODE = 0
    || (0 ≤ wrapCoord (x - s.ctxX c R.CSM_CTX_XLO_LO_XLO R.CSM_CTX_XLO_HI_XLO) && 0 < wrapCoord (s.ctxX c R.CSM_CTX_XHI_LO_XHI R.CSM_CTX_XHI_HI_XHI - x)))
  && no % (s.cg c R.CSM_CTX_SRC_LSTEP_M1 + 1) == 0

/-! ### The life of a record for one member (R240 to R245) -/

def State.modRec (s : State) (id : Nat) (f : Rec → Rec) : State := { s with recs := s.recs.map fun r => if r.id = id then f r else r }
def Rec.modMem (r : Rec) (c : Nat) (f : MemRec → MemRec) : Rec := { r with members := r.members.map fun m => if m.cons = c then f m else m }
def Rec.mem? (r : Rec) (c : Nat) : Option MemRec := r.members.find? (·.cons == c)

/-- Whether a record is released: every member acknowledged it or let it expire. -/
def Rec.over (r : Rec) : Bool := r.members.all fun m => m.st == .acked || m.st == .expired

/-- Release every record that is over (R240): its credits return. -/
def State.sweep (s : State) : State :=
  let gone := s.recs.filter (·.over)
  let s := { s with recs := s.recs.filter fun r => !r.over }
  each gone (fun r s =>
    let s := if r.isOpen then s.p (hldB r.die) R.HLD_OPEN_COUNT (s.g (hldB r.die) R.HLD_OPEN_COUNT - 1) else s
    s.bump (hldCnt r.die (if r.members.all (·.st == .acked) then 1 else 2))) s

/-- An expiry without completion: counted, and the member owes GAP_BEFORE (R243). -/
def State.expiredMark (s : State) (c : Nat) : State :=
  let s := (s.modCtx c fun x => { x with gapOwed := true }).csmEvt c R.CSM_EVT_EXPIRED
  let s := (s.p (ctxBase c) R.CSM_CTX_EXP_COUNT (s.cg c R.CSM_CTX_EXP_COUNT + 1)).bump (csmCnt (s.ctxDie c) 3)
  s.raise (s.ctxDie c) 0x0C00 c

/-- Expire a member's record (R243): never sent from READY, left to its attempt in INFLIGHT, without a gap from DONE. -/
def State.expireMem (s : State) (id c : Nat) : State :=
  match (s.recs.find? (·.id == id)).bind (·.mem? c) with
  | none => s
  | some m =>
    match m.st with
    | .ready => (s.modRec id fun r => r.modMem c fun m => { m with st := .expired }).expiredMark c
    | .inflight => s.modRec id fun r => r.modMem c fun m => { m with condemned := true }
    | .done => s.modRec id fun r => r.modMem c fun m => { m with st := .expired }
    | .acked => s
    | .expired => s

/-- Expire a record for every member (R239, R243). -/
def State.expireNow (s : State) (r : Rec) : State := each r.members (fun m s => s.expireMem r.id m.cons) s

/-- Whether a record has passed its hold limit for every member. -/
def Rec.expiring (r : Rec) : Bool := r.members.all fun m => m.st == .acked || m.st == .expired || m.condemned

/-- A member's attempt completes (R241): DONE, or EXPIRED where its hold limit has passed (R243). -/
def State.completeMem (s : State) (id c : Nat) : State :=
  match (s.recs.find? (·.id == id)).bind (·.mem? c) with
  | none => s
  | some m =>
    if m.st != .inflight then s
    else
      let s := s.modRec id fun r => r.modMem c fun m => { m with st := if m.condemned then .expired else .done }
      (s.p (ctxBase c) R.CSM_CTX_DONE_SEQ m.seq).bump (csmCnt (s.ctxDie c) 1)

/-- The records of a member in sequence order, and those INFLIGHT. -/
def State.recsOf (s : State) (c : Nat) : List Rec := s.recs.filter fun r => (r.mem? c).isSome
def Rec.isIn (r : Rec) (c : Nat) (st : RecSt) : Bool := match r.mem? c with | some m => !r.isOpen && m.st == st | none => false

/-- A member's attempt on a record fails (R241): it and every later INFLIGHT record return to READY with REISSUED, or expire. -/
def State.failFrom (s : State) (c id : Nat) : State :=
  each ((s.recsOf c).filter fun r => id ≤ r.id && r.isIn c .inflight) (fun r s =>
    match r.mem? c with
    | none => s
    | some m =>
      let s := s.modRec r.id fun r => r.modMem c fun m => { m with
        st := if m.condemned then .expired else .ready, reissued := true, sentBytes := 0, lastSent := false, crc := false }
      if m.condemned then s.expiredMark c
      else ((s.csmEvt c R.CSM_EVT_REISSUE).p (ctxBase c) R.CSM_CTX_REI_COUNT (s.cg c R.CSM_CTX_REI_COUNT + 1)).bump (csmCnt (s.ctxDie c) 2)) s

/-- Fail every attempt of a member (R255, R269, R276). -/
def State.failAll (s : State) (c : Nat) : State :=
  match (s.recsOf c).find? (·.isIn c .inflight) with
  | some r => (s.failFrom c r.id).sweep
  | none => s

/-- An acknowledgement word that reaches die d (R242); CSM_ACK reads the last one applied (R251). -/
def State.ackWord (s : State) (d : Nat) (v : Nat) : State :=
  let c := v % 4096
  let seq := v / 4096 % 2 ^ 20
  if !s.cbound c || s.ctxDie c != d then s
  else
    let a := s.cg c R.CSM_CTX_ACKED_SEQ
    let dn := s.cg c R.CSM_CTX_DONE_SEQ
    let da := (seq + 2 ^ 20 - a) % 2 ^ 20
    if da = 0 || 2 ^ 19 ≤ da then s.bump (csmCnt d 6)
    else if (dn + 2 ^ 20 - a) % 2 ^ 20 < da then (s.bump (csmCnt d 5)).csmEvt c R.CSM_EVT_ACK_AHEAD
    else
      let s := ((s.p (ctxBase c) R.CSM_CTX_ACKED_SEQ seq).bump (csmCnt d 4)).wr (csmB d + R.CSM_ACK_SEQ.off) (BitVec.ofNat 32 v)
      let s := { s with recs := s.recs.map fun (r : Rec) => r.modMem c fun (m : MemRec) =>
        let dm := (m.seq + 2 ^ 20 - a) % 2 ^ 20
        if m.st == RecSt.done && decide (1 ≤ dm ∧ dm ≤ da) then { m with st := .acked } else m }
      s.sweep

/-! ### Opening and closing records (R233 to R239) -/

/-- The line (or frame) that a source offers: source, tag block fields and flags. -/
structure Offer where
  kind   : Nat
  id     : Nat
  die    : Nat
  chNo   : Nat
  vc     : Nat
  dt     : Nat
  lineNo : Nat
  no     : Nat
  tag    : Tag
  flags  : Nat

/-- The padded bytes of one row of a bight in a format (R233); RAW takes the bits of its data type. -/
def rowBytes (fmt dt cols : Nat) : Nat := if fmt = 0 then (cols * dtBits dt + 63) / 64 * 8 else fmtBytes fmt cols

/-- Number of layers a mask names. -/
def popLayers (m : Nat) : Nat := ((List.range 4).filter fun i => tbit m i).length

/-- PB of a context's records (R233). -/
def State.ctxPB (s : State) (c : Nat) (dt : Nat) (rows : Bool) : Nat :=
  let cols := s.cg c R.CSM_CTX_U1_U1 + 1 - s.cg c R.CSM_CTX_U0_U0
  let row := rowBytes (s.cg c R.CSM_CTX_CFG_FORMAT) dt cols
  if rows then (s.cg c R.CSM_CTX_V_V1 + 1 - s.cg c R.CSM_CTX_V_V0) * max 1 (popLayers (s.cg c R.CSM_CTX_SRC_LAYERS)) * row else row

/-- Open a record of a share set (R238, R239): it takes its credits and a sequence for each member that produces. -/
def State.openRec (s : State) (sh : Nat) (o : Offer) (pb : Nat) : State :=
  let ms := (s.shareMembers sh).filter fun c => s.produces c o.tag.frame
  match ms with
  | [] => s
  | c0 :: _ =>
    let units := (64 + pb + 63) / 64
    let used := ((s.recs.filter (·.share == sh)).map (·.units)).foldl (· + ·) 0
    let short := s.cg c0 R.CSM_CTX_RLEN_MIB * 16384 < used + units
    let s := if short then
        let s := match s.recs.find? fun r => r.share == sh && !r.isOpen && !r.expiring with
          | some r => (s.expireNow r).sweep
          | none => s
        (s.evt (hldB o.die) R.HLD_EVT_E [R.HLD_EVT_CREDIT_SHORT]).raise o.die 0x0D02 0
      else s
    let r : Rec := { id := s.nextRec, die := o.die, share := sh, tag := o.tag, chNo := o.chNo, vc := o.vc, dt := o.dt,
                     fmt := s.cg c0 R.CSM_CTX_CFG_FORMAT, lineNo := o.lineNo, flags := 0, payload := [], isOpen := true, units := units,
                     members := ms.map fun c => { cons := c, seq := s.cg c R.CSM_CTX_NEXT_SEQ } }
    let s := { s with recs := s.recs ++ [r], nextRec := s.nextRec + 1 }
    let s := each ms (fun c s =>
      ((s.ps (ctxBase c) [(R.CSM_CTX_CFG_STATE, if s.cg c R.CSM_CTX_CFG_STATE = 1 then 2 else s.cg c R.CSM_CTX_CFG_STATE),
        (R.CSM_CTX_NEXT_SEQ, s.cg c R.CSM_CTX_NEXT_SEQ + 1)]).bump (csmCnt o.die 0)).modCtx c fun x => { x with startAt := none }) s
    s.p (hldB o.die) R.HLD_OPEN_COUNT (s.g (hldB o.die) R.HLD_OPEN_COUNT + 1)

/-- Close a record: it becomes READY (R235); a member in drop mode lets it expire at once (R245). -/
def State.closeRec (s : State) (id flags : Nat) (payload : List Byte) : State :=
  match s.recs.find? fun r => r.id == id && r.isOpen with
  | none => s
  | some r =>
    let s := s.modRec id fun r => { r with isOpen := false, flags := flags, payload := payload }
    let s := s.p (hldB r.die) R.HLD_OPEN_COUNT (s.g (hldB r.die) R.HLD_OPEN_COUNT - 1)
    let s := (s.bump (hldCnt r.die 0)).bump (hldCnt r.die 3) r.units
    (each (r.members.filter fun m => (s.ctx m.cons).dropped && m.st == .ready) (fun m s => s.expireMem id m.cons) s).sweep

/-- The open record of a share set for a frame (and line, for line records). -/
def State.openOf (s : State) (sh : Nat) (t : Tag) : Option Rec :=
  s.recs.find? fun r => r.share == sh && r.isOpen && r.tag.frame == t.frame && r.tag.line == t.line

/-- Received bytes of a RAW row that hold columns u0 to u1 (log entry 56). -/
def rawCut (dt u0 u1 : Nat) (bytes : List Byte) : List Byte :=
  let (n, nb) := dtGroup dt
  bytesAt bytes (u0 / n * nb) (rowBytes 0 dt (u1 + 1 - u0))

/-- One row of a bight in a context's format. -/
def State.rowOut (s : State) (c : Nat) (dt : Nat) (planes : List (List Nat)) (bytes : List Byte) : List Byte :=
  let u0 := s.cg c R.CSM_CTX_U0_U0
  let u1 := s.cg c R.CSM_CTX_U1_U1
  let f := s.cg c R.CSM_CTX_CFG_FORMAT
  if f = 0 then rawCut dt u0 u1 bytes else fmtLine f (cutPlanes planes u0 u1) []

/-- A line record for every share set on a source that selects it. -/
def State.offerLine (s : State) (o : Offer) (planes : List (List Nat)) (bytes : List Byte) : State :=
  each (s.sharesOn o.kind o.id) (fun sh s =>
    match (s.shareMembers sh).find? fun c => s.produces c o.tag.frame with
    | none => s
    | some c =>
      if !s.selects c o.tag.coord o.no then s
      else
        let id := s.nextRec
        (s.openRec sh o (s.ctxPB c o.dt false)).closeRec id o.flags (s.rowOut c o.dt planes bytes)) s

/-- A row of an area frame record: the record opens with the first row, takes the rows of the bight, and closes with the last. -/
def State.offerRow (s : State) (o : Offer) (row : Nat) (last : Bool) (planes : List (List Nat)) (bytes : List Byte) : State :=
  each (s.sharesOn o.kind o.id) (fun sh s =>
    match (s.shareMembers sh).find? fun c => s.produces c o.tag.frame with
    | none => s
    | some c =>
      let s := if row = 0 && s.selects c o.tag.coord o.no && (s.openOf sh o.tag).isNone then s.openRec sh o (s.ctxPB c o.dt true) else s
      match s.openOf sh o.tag with
      | none => s
      | some r =>
        let add := if s.cg c R.CSM_CTX_V_V0 ≤ row && row ≤ s.cg c R.CSM_CTX_V_V1 then s.rowOut c o.dt planes bytes else []
        if last then s.closeRec r.id (r.flags ||| o.flags) (r.payload ++ add)
        else s.modRec r.id fun r => { r with payload := r.payload ++ add, flags := r.flags ||| o.flags }) s

/-- A record whose payload is given as a whole (statistics, composed frames). -/
def State.offerWhole (s : State) (o : Offer) (payload : Nat → List Byte) : State :=
  each (s.sharesOn o.kind o.id) (fun sh s =>
    match (s.shareMembers sh).find? fun c => s.produces c o.tag.frame with
    | none => s
    | some c =>
      if !s.selects c o.tag.coord o.no then s
      else
        let id := s.nextRec
        let p := payload c
        (s.openRec sh o p.length).closeRec id o.flags p) s

/-! ### The tag block and the delivered copy (R150, R236) -/

/-- Bytes 0 to 59 of a member's tag block, as it is delivered. -/
def tagHead (r : Rec) (m : MemRec) : List Byte :=
  let ns := r.tag.time / 2 ^ 22
  let fl := (if m.reissued then setb r.flags flREISSUED else r.flags)
  let fl := if m.gap then setb fl flGAP else fl
  let fl := if m.crc then setb fl flCRC else fl
  leBytes 4 0x01474154 ++ leBytes 4 (r.payload.length / 8) ++ leBytes 2 r.chNo ++ leBytes 1 r.vc ++ leBytes 1 r.dt ++ leBytes 4 r.tag.frame
    ++ leBytes 3 r.lineNo ++ leBytes 1 r.fmt ++ leBytes 8 (coordBits r.tag.coord) ++ leBytes 6 (ns / 1000000000) ++ leBytes 4 (ns % 1000000000)
    ++ leBytes 2 (r.tag.time % 2 ^ 22 / 64) ++ leBytes 4 fl ++ leBytes 4 (m.seq * 4096 + m.cons) ++ List.replicate 12 0

/-- A record as a member receives it. -/
def delivered (r : Rec) (m : MemRec) : List Byte := tagHead r m ++ leBytes 4 (crc32c (tagHead r m)) ++ r.payload

/-- Flags word and WORD of the delivered tag. -/
def deliveredFlags (r : Rec) (m : MemRec) : Nat := leAt (tagHead r m) 40 4
def deliveredWord (m : MemRec) : Nat := m.seq * 4096 + m.cons

/-! ### Rows: expiry, freeing, binding effect (R243, R245, R252) -/

/-- RECORD_EXPIRE: a member's record reaches its hold limit. -/
def recordExpireF (c seq : Nat) (s : State) : State :=
  match s.recs.find? fun r => !r.isOpen && (match r.mem? c with | some m => m.seq == seq && m.st != .acked && m.st != .expired | none => false) with
  | some r => (s.expireMem r.id c).sweep
  | none => s

/-- CSM_ACK_WRITE: the effect of a written CSM_ACK word on die d (R242). -/
def csmAckApply (d : Nat) (v : Word) (s : State) : State := s.ackWord d v.toNat

/-- A context leaves its share set and its registers return to their reset values (R245). -/
def State.freeCtx (s : State) (c : Nat) : State :=
  let s := s.csmEvt c R.CSM_EVT_FREED
  let sh := (s.ctx c).share
  let rest := (s.shareMembers sh).filter (· != c)
  let s := ({ s with ctxs := tdel s.ctxs c, recs := s.recs.map fun r => { r with members := r.members.filter (·.cons != c) } } : State).sweep
  let s := upTo 20 (fun i s => s.wr (ctxBase c + 0x100 + 4 * i) (resetWord s.part (ctxBase c + 0x100 + 4 * i))) s
  each rest (fun m s => s.ps (ctxBase m) [(R.CSM_CTX_SHARE_MEMBERS, rest.length), (R.CSM_CTX_SHARE_FIRST,
    if s.cg m R.CSM_CTX_SHARE_FIRST = c then rest.headD 0 else s.cg m R.CSM_CTX_SHARE_FIRST)]) s

/-- Whether a stopping context's source may still give it records. -/
def State.stopsLater (s : State) (c : Nat) : Bool :=
  let kind := s.cg c R.CSM_CTX_CFG_SRC_KIND
  let id := s.cg c R.CSM_CTX_SRC_SRC_ID
  match (s.ctx c).stopAt with
  | none => false
  | some f =>
    if kind = 7 then (s.grps.any fun e => e.1 == id - 0x100 && e.2.opened.any fun (u : OpenUnit) => !frameFrom u.tag.frame (f + 1))
    else
      (s.chan id).tags.any (fun t => !frameFrom t.frame (f + 1)) || (s.chan id).ready.any (fun r => !frameFrom r.tag.frame (f + 1)) || (s.cor id).lines.any (fun l => !l.released && !frameFrom l.raw.tag.frame (f + 1))
        || (tgetD s.sliceQ (id / 24 * 8 + (s.chan id).slice) []).any (fun r => r.ch == id && !frameFrom r.tag.frame (f + 1))
        || (match (s.chan id).gen with | some g => (s.gen g).running && (s.gen g).frame == some f && (s.gen g).n % max 1 (s.fuLines id) != 0 | none => false)
        || (kind == 6 && ((s.sta id).slot.isSome || (s.sta id).live.lines != 0))

/-- Whether nothing keeps an unbound context: its last record is released, or, in drop mode, over for it (R245). -/
def State.drained (s : State) (c : Nat) : Bool :=
  (s.recsOf c).all fun r => (s.ctx c).dropped && (r.mem? c).any fun m => m.st == .acked || m.st == .expired

/-- CONTEXT_FREE: an unbound context whose last record has gone (R245). -/
def contextFreeF (c : Nat) (s : State) : State :=
  if s.cbound c && s.cg c R.CSM_CTX_CFG_STATE = 3 && s.drained c && !s.stopsLater c then s.freeCtx c else s

/-- The generator of a source; of a group that has not yet run, that of its committed set. -/
def State.sourceGen (s : State) (kind id : Nat) : Option Nat :=
  let g := id - 0x100
  let b := splB (g / 8) + 0x40 * (g % 8)
  if kind != 7 then (s.chan id).gen
  else if s.gb b R.SPL_GRP_CFG_VALID then some (s.g b R.SPL_GRP_CFG_GEN)
  else (tgetD s.grps g {}).commit.map (·.gen)

/-- BINDING_EFFECT: the source has started the frame unit from which a binding holds (R252). -/
def bindingEffectF (c : Nat) (s : State) : State :=
  if s.cbound c && s.cg c R.CSM_CTX_CFG_STATE = 1 then
    match (s.sourceGen (s.cg c R.CSM_CTX_CFG_SRC_KIND) (s.cg c R.CSM_CTX_SRC_SRC_ID)).bind fun g => (s.gen g).frame with
    | some f => if s.produces c f then s.p (ctxBase c) R.CSM_CTX_CFG_STATE 2 else s
    | none => s
  else s

/-- Drop mode (R245): every record that is not INFLIGHT expires at once, and an INFLIGHT one when its attempt ends. -/
def State.dropCtx (s : State) (c : Nat) : State :=
  (each (s.recsOf c) (fun r s => s.expireMem r.id c) (s.modCtx c fun x => { x with dropped := true })).sweep

/-- Unbind a context (R245): it stops at the end of its source's open frame unit; in drop mode its records expire. One that drains already may
still be told to drop. -/
def State.unbind (s : State) (c mode : Nat) : State × Nat :=
  let last := ((s.sourceGen (s.cg c R.CSM_CTX_CFG_SRC_KIND) (s.cg c R.CSM_CTX_SRC_SRC_ID)).bind fun g => (s.gen g).frame)
  let s := if s.cg c R.CSM_CTX_CFG_STATE = 3 then s else (s.p (ctxBase c) R.CSM_CTX_CFG_STATE 3).modCtx c fun x => { x with stopAt := last }
  (if mode = 1 then s.dropCtx c else s, (s.ctx c).stopAt.getD 0)

/-! ### Commands (R252); CSM_BIND and CSM_SET_HOLD stand in Admission.lean -/

/-- Run a consumer command on a bound context: BAD_PARAM where it is not bound, BUSY where its home die or its path's die is isolated. -/
def State.onBound (s : State) (c : Nat) (pathDie : Nat) (r : Rsp) : Rsp :=
  if !s.cbound c then bad 8 else if !s.dieUp (s.ctxDie c) || !s.dieUp pathDie then busy 2 else r

/-- The die of a context's path (R231). -/
def State.pathDie (s : State) (c : Nat) : Nat :=
  let id := s.cg c R.CSM_CTX_PATHID_PATH_ID
  if s.cg c R.CSM_CTX_CFG_PATH = 2 then (tgetD s.vols (id % 256) {}).die else id / 65536 % 8

def csmUnbindB (w k : Nat) (s : State) : Rsp :=
  let c := s.cp w k 8 2
  let m := s.cmdByte w k 10
  s.checked w k [(8, 4095 < c), (10, 1 < m)] <| s.onBound c (s.pathDie c) <|
  let (s1, f) := s.unbind c m
  .ok s1 (leBytes 4 f)

def csmSetPriorityB (w k : Nat) (s : State) : Rsp :=
  let c := s.cp w k 8 2
  s.checked w k [(8, 4095 < c), (10, 7 < s.cmdByte w k 10)] <| s.onBound c (s.pathDie c) <|
  .ok (s.p (ctxBase c) R.CSM_CTX_CFG_PRIO (s.cmdByte w k 10)) []

/-- CSM_QUERY: a context that is not bound reads as its registers at reset. -/
def csmQueryB (w k : Nat) (s : State) : Rsp :=
  let c := s.cp w k 8 2
  let r : Rsp := .ok s (leBytes 1 (s.cg c R.CSM_CTX_CFG_STATE) ++ leBytes 1 (s.cg c R.CSM_CTX_CFG_PRIO) ++ leBytes 4 (s.cg c R.CSM_CTX_NEXT_SEQ * 4096 + c)
    ++ leBytes 4 (s.cg c R.CSM_CTX_ACKED_SEQ * 4096 + c) ++ leBytes 4 (s.cg c R.CSM_CTX_DONE_SEQ * 4096 + c) ++ leBytes 4 (s.cg c R.CSM_CTX_EXP_COUNT)
    ++ leBytes 4 (s.cg c R.CSM_CTX_REI_COUNT))
  s.checked w k [(8, 4095 < c)] <| if s.cbound c then s.onBound c (s.pathDie c) r else r

def hldQueryB (w k : Nat) (s : State) : Rsp :=
  let d := s.cmdByte w k 8
  let b := hldB d
  s.checked w k [(8, s.nd ≤ d)] <|
  .ok s (leBytes 4 (s.g b R.HLD_CAP_MIB) ++ leBytes 4 (s.g b R.HLD_ALLOC_MIB) ++ leBytes 4 (s.g b R.HLD_WRES_RATE) ++ leBytes 4 (s.g b R.HLD_TRES_RATE)
    ++ leBytes 4 (s.g b R.HLD_OPEN_COUNT))

end Sys2Proof.Machine
end

