-- ==== Sys2Proof/Machine/DmaOps.lean ====
section
/-!
DEFINITION. The PCIe port and the DMA engines: doorbells, descriptors, record writes, write-backs, flush reads, bus errors, halts and the
host DMA commands (R253 to R273).
-/
namespace Sys2Proof.Machine
open Sys2Proof

def ringKey (d r : Nat) : Nat := d * 1024 + r
def State.ring (s : State) (d r : Nat) : Ring := tgetD s.rings (ringKey d r) {}
def State.setRing (s : State) (d r : Nat) (x : Ring) : State := { s with rings := tset s.rings (ringKey d r) x }
def State.modRing (s : State) (d r : Nat) (f : Ring → Ring) : State := s.setRing d r (f (s.ring d r))

def State.rg (s : State) (d r : Nat) (f : Fld) : Nat := s.g (ringBase d r) f
def State.ringSt (s : State) (d r : Nat) : Nat := s.rg d r R.DMA_RING_STAT_STATE
def dmaCnt (d i : Nat) : Nat := dmaB d + R.DMA_CNT_COUNT.off + 4 * i
def State.dmaEvt (s : State) (d r : Nat) (f : Fld) : State := s.evt (dmaB d) R.DMA_EVT_E [f] [(R.DMA_EVT_RING, r)]
def State.pciEvt (s : State) (d : Nat) (f : Fld) : State := s.evt (pciB d) R.PCI_EVT_E [f]

/-- Whether the port of a die can carry transactions. -/
def State.busUp (s : State) (d : Nat) : Bool := s.gb (pciB d) R.PCI_LINK_DL_UP && s.gb (pciB d) R.PCI_CFG_BME

/-- A bound ring that is not halted is RUNNING with a usable descriptor, else STARVED (R261). -/
def State.syncRing (s : State) (d r : Nat) : State :=
  if s.ringSt d r = 2 || s.ringSt d r = 3 then s.p (ringBase d r) R.DMA_RING_STAT_STATE (if (s.ring d r).fetched.isEmpty then 3 else 2) else s

/-- Descriptors of a ring, its base and the address of descriptor i. -/
def State.ringN (s : State) (d r : Nat) : Nat := 2 ^ s.rg d r R.DMA_RING_CFG_LOG2N
def State.descAddr (s : State) (d r i : Nat) : Nat :=
  s.rg d r R.DMA_RING_BASE_HI_BASE * 2 ^ 32 + s.rg d r R.DMA_RING_BASE_LO_BASE + 32 * (i % s.ringN d r)

/-- Whether a doorbell's PI is out of range (R260), or its ring is not configured. -/
def State.doorbellBad (s : State) (d r pi : Nat) : Bool :=
  let n := s.ringN d r
  s.ringSt d r = 0 || n < (pi + 65536 - s.rg d r R.DMA_RING_IDX_CI) % 65536 || n < (pi + 65536 - s.rg d r R.DMA_RING_IDX_PI) % 65536

/-- A good doorbell posts its PI. -/
def State.postPI (s : State) (d r pi : Nat) : State := (s.p (ringBase d r) R.DMA_RING_IDX_PI pi).p (dmaB d + 4 * r) R.DMA_DB_PI pi

/-- Descriptors posted and not fetched. -/
def State.posted (s : State) (d r : Nat) : Nat :=
  (s.rg d r R.DMA_RING_IDX_PI + 65536 - s.rg d r R.DMA_RING_IDX_CI) % 65536 - (s.ring d r).fetched.length

/-- The next descriptor read of a ring (R261): from CI onward, up to 8, within the posted range, not past the ring's end, while the ring holds
fewer than 8 (log entry 225). -/
def State.nextRead (s : State) (d r : Nat) : Nat × Nat :=
  let i := s.rg d r R.DMA_RING_IDX_CI + (s.ring d r).fetched.length
  let n := s.ringN d r
  (s.descAddr d r i, min (min (8 - (s.ring d r).fetched.length) (s.posted d r)) (n - i % n))

/-- A completed descriptor read (R261): none is taken from the first with OWN clear on. An interval doubles where the same descriptor reads OWN
clear again. -/
def State.takeDescs (s : State) (d r n : Nat) (ds : List Desc) : State :=
  let s := s.tlps d 0 1
  let x := s.ring d r
  let ds := ds.take n
  let good := ds.takeWhile (·.own)
  let clear := good.length != ds.length
  let wait := if !clear then 0 else if x.ownWait = 0 || !good.isEmpty then 1 else min 64 (2 * x.ownWait)
  let s := (s.setRing d r { x with fetched := x.fetched ++ good, req := none, tries := 0, ownWait := wait, waits := clear }).bump (dmaCnt d 3) good.length
  let s := if clear then (s.dmaEvt d r R.DMA_EVT_OWN_CLEAR).raise d 0x0E01 r else s
  s.syncRing d r

/-- Whether a ring may read descriptors now: it is bound and not halted, and its port carries reads. -/
def State.canFetch (s : State) (d r : Nat) : Bool := (s.ringSt d r = 2 || s.ringSt d r = 3) && s.busUp d

/-! ### Writing a record (R262 to R264) -/

/-- The write requests of bytes at an address, split at every multiple of the max payload size. -/
def splitWrites (mps : Nat) : Nat → Nat → List Byte → List (Nat × List Byte)
  | 0, _, _ => []
  | fuel + 1, a, l =>
    if l.isEmpty then []
    else
      let n := mps - a % mps
      (a, l.take n) :: splitWrites mps fuel (a + n) (l.drop n)

/-- The largest payload of a port's writes. -/
def State.maxPayload (s : State) (d : Nat) : Nat := 128 * 2 ^ s.g (pciB d) R.PCI_CFG_MPS

/-- Write bytes of a record of a ring: relaxed ordering and No Snoop are set where Device Control and the ring allow them (R253). -/
def State.payloadWrite (s : State) (d r a : Nat) (l : List Byte) : State :=
  let ro := s.gb (pciB d) R.PCI_CFG_RO_EN && s.gb (ringBase d r) R.DMA_RING_CFG_RO
  let ns := s.gb (pciB d) R.PCI_CFG_NS_EN && s.gb (ringBase d r) R.DMA_RING_CFG_NS
  each (splitWrites (s.maxPayload d) (l.length + 1) a l) (fun e s => (s.emit (.hostWrite d e.1 e.2 ro ns)).tlps d 1 0) s

/-- Write a descriptor back in two requests (R263): bytes 16 to 31, then bytes 12 to 15 with OWN 0; neither sets relaxed ordering. -/
def State.writeBack (s : State) (d r i len word flags stat : Nat) : State :=
  let a := s.descAddr d r i
  let s := s.emit (.hostWrite d (a + 16) (leBytes 4 len ++ leBytes 4 word ++ leBytes 4 flags ++ leBytes 4 stat) false false)
  let s := (s.emit (.hostWrite d (a + 12) (leBytes 4 0) false false)).tlps d 2 0
  s.modRing d r fun x => { x with since := x.since + 1, lastWb := a + 12 }

/-- Take descriptors for a record of `len` bytes until one is large enough, writing back BUF_SMALL for the others. -/
def State.takeBuffer (s : State) (d r len word flags : Nat) : Nat → State
  | 0 => s
  | fuel + 1 =>
    match (s.ring d r).fetched with
    | [] => s.syncRing d r
    | e :: t =>
      let i := s.rg d r R.DMA_RING_IDX_CI
      let s := (s.modRing d r fun x => { x with fetched := t }).p (ringBase d r) R.DMA_RING_IDX_CI (i + 1)
      if e.bufLen < len then
        (((s.writeBack d r i 0 word flags 1).dmaEvt d r R.DMA_EVT_BUF_SMALL).bump (dmaCnt d 8)).takeBuffer d r len word flags fuel
      else (s.modRing d r fun x => { x with cur := some (i, e), put := 0 }).syncRing d r

/-- The next burst of a record over a ring (R246, R262): `l` is the delivered record. Bytes after the last boundary that a burst reaches wait for the
next burst, so that the requests of a record are one head, full ones and one tail. -/
def State.ringBurst (s : State) (d r id c burst : Nat) (l : List Byte) : State :=
  match (s.ring d r).cur, (s.recs.find? (·.id == id)).bind (·.mem? c) with
  | some (i, e), some m =>
    let put := (s.ring d r).put
    let n := ((l.drop m.sentBytes).take burst).length
    let done := l.length ≤ m.sentBytes + n
    let mps := s.maxPayload d
    let stop := if done then l.length else max put ((e.addr + m.sentBytes + n) / mps * mps - e.addr)
    let s := (s.payloadWrite d r (e.addr + put) ((l.drop put).take (stop - put))).bump (dmaCnt d 1) (stop - put)
    let s := s.modRing d r fun x => { x with put := stop }
    let s := s.modRec id fun r => r.modMem c fun m => { m with sentBytes := m.sentBytes + n, lastSent := done }
    if done then
      let s := s.writeBack d r i l.length (leAt l 44 4) (leAt l 40 4) 0
      s.modRing d r fun x => { x with cur := none, put := 0, wb := x.wb ++ [m.seq] }
    else s
  | _, _ => s

/-- FLUSH_READ_ISSUE (R264): a 4-byte read of the OWN word of the latest descriptor written back. -/
def flushReadIssueF (d r : Nat) (s : State) : State :=
  let x := s.ring d r
  if x.since = 0 || !(s.ringSt d r = 2 || s.ringSt d r = 3) then s
  else
    let covered := (x.fly.map (·.1)).foldl (· + ·) 0
    (((s.setRing d r { x with since := 0, fly := x.fly ++ [(x.wb.length - covered, x.lastWb)] }).readReq d x.lastWb 4).tlps d 1 0).bump (dmaCnt d 5)

/-- Complete a member's record by sequence. -/
def State.completeSeq (s : State) (c seq : Nat) : State :=
  match s.recs.find? fun r => match r.mem? c with | some m => m.seq == seq && m.st == .inflight | none => false with
  | some r => s.completeMem r.id c
  | none => s

/-- FLUSH_READ_COMPLETE (R264, R266). -/
def flushReadCompleteF (d r : Nat) (s : State) : State :=
  let x := s.ring d r
  match x.fly, x.bound with
  | (n, _) :: t, some c =>
    let s := (s.tlps d 0 1).setRing d r { x with fly := t, wb := x.wb.drop n, retries := 0, unreported := x.unreported + n }
    (each (x.wb.take n) (fun seq s => ((s.completeSeq c seq).p (ringBase d r) R.DMA_RING_DONE_SEQ seq).bump (dmaCnt d 0)) s).sweep
  | _, _ => s

/-- RING_INTERRUPT (R266): IRQ_N completions, or IRQ_T since the first, have not been reported. -/
def ringInterruptF (d r : Nat) (s : State) : State :=
  if (s.ring d r).unreported = 0 then s else (s.modRing d r fun x => { x with unreported := 0 }).msix d (s.rg d r R.DMA_RING_CFG_VECTOR)

/-! ### Halts and restarts (R255, R267 to R269) -/

/-- The sequence a halt concerns: the oldest record written back and not completed, else the oldest not completed. With no such record
it is an open value (log entry 97). -/
def State.haltSeq (s : State) (d r : Nat) : Nat × State :=
  match (s.ring d r).wb, (s.ring d r).bound with
  | q :: _, _ => (q, s)
  | [], some c =>
    (match (s.recsOf c).findSome? fun r => match r.mem? c with
      | some m => if m.st == .ready || m.st == .inflight then some m.seq else none
      | none => none with
    | some q => (q, s)
    | none => s.fresh)
  | [], none => s.fresh

/-- A ring halts (R269): the transaction and the retries made are latched, and every attempt not completed fails. -/
def State.haltRing (s : State) (d r kind dir addr tries : Nat) : State :=
  let x := s.ring d r
  let b := ringBase d r
  let (seq, s) := s.haltSeq d r
  let s := s.ps b [(R.DMA_RING_HALT_LO_ADDR, addr), (R.DMA_RING_HALT_HI_ADDR, addr / 2 ^ 32), (R.DMA_RING_HALT_INFO_SEQ, seq),
    (R.DMA_RING_HALT_INFO_RETRIED, tries), (R.DMA_RING_HALT_INFO_DIR, dir), (R.DMA_RING_HALT_INFO_KIND, kind), (R.DMA_RING_STAT_STATE, 4)]
  let s := s.setRing d r { x with cur := none, put := 0, req := none, tries := 0, since := 0, wb := [], fly := [], retries := 0, ownWait := 0, waits := false }
  let s := ((s.dmaEvt d r R.DMA_EVT_HALTED).bump (dmaCnt d 7)).raise d 0x0E00 r
  match x.bound with
  | some c => s.failAll c
  | none => s

/-- The configured rings of a die that are not halted. -/
def State.liveRings (s : State) (d : Nat) : List Nat :=
  (s.rings.filter fun e => e.1 / 1024 == d && s.ringSt d (e.1 % 1024) != 0 && s.ringSt d (e.1 % 1024) != 4).map (·.1 % 1024)

/-- The direction and address of the transaction that a port's event fails on a ring, and the retries it had: the oldest flush read, the next request
of the record being written, the flush read that is due, or the descriptor read. Without one the address is an open value (log entry 97). -/
def State.haltTrans (s : State) (d r : Nat) : Nat × Nat × Nat × State :=
  let x := s.ring d r
  match x.fly, x.cur with
  | f :: _, _ => (0, f.2, x.retries, s)
  | [], some (_, e) => (1, e.addr + x.put, 0, s)
  | [], none =>
    if x.since != 0 then (0, x.lastWb, 0, s)
    else match x.req with
      | some q => (0, q.1, x.tries, s)
      | none => let (a, s) := s.fresh; (0, a, 0, s)

/-- Halt every ring of a port (R255). -/
def State.haltPort (s : State) (d kind : Nat) : State :=
  each (s.liveRings d) (fun r s =>
    let (dir, addr, tries, s) := s.haltTrans d r
    s.haltRing d r kind dir addr tries) s

/-- Halt a ring for its host or for the reaction ISOLATE (R269, R315): DIR 0, and an address of no transaction. -/
def State.haltByHost (s : State) (d r : Nat) : State :=
  let (addr, s) := s.fresh
  s.haltRing d r 0 0 addr 0

/-- A bus error of the oldest flush read or of the descriptor read of a ring (R267, R268): the read is issued again, or the ring halts. -/
def busErrorF (d r : Nat) (e : BusErr) (s : State) : State :=
  let x := s.ring d r
  let mode := s.rg d r R.DMA_RING_STAT_MODE
  let read : Option (Nat × Nat × Nat) := if e.flush then x.fly.head?.map fun f => (f.2, 4, x.retries) else x.req.map fun q => (q.1, 32 * q.2, x.tries)
  match read with
  | none => s
  | some (addr, len, tries) =>
    if !(s.ringSt d r = 2 || s.ringSt d r = 3) || e.kind = 0 || 6 < e.kind then s
    else
      let s := if e.kind = 3 then s.bump (pciCnt d 5) else if e.kind = 1 || e.kind = 2 || e.kind = 4 then s.tlps d 0 1 else s
      if tbit mode 7 || mode % 16 ≤ tries || 5 ≤ e.kind then s.haltRing d r e.kind 0 addr tries
      else
        let y := s.ring d r
        let s := (s.setRing d r (if e.flush then { y with retries := tries + 1 } else { y with tries := tries + 1 })).dmaEvt d r R.DMA_EVT_RETRY
        ((s.bump (dmaCnt d 6)).readReq d addr len).tlps d 1 0

/-- Restart a halted ring (R269): fetched descriptors are discarded. -/
def State.restartRing (s : State) (d r : Nat) : State :=
  (s.modRing d r fun x => { x with fetched := [], req := none, tries := 0, ownWait := 0, waits := false }).p (ringBase d r) R.DMA_RING_STAT_STATE
    (if (s.ring d r).bound.isSome then 3 else 1)

/-! ### The port (R253 to R256) -/

/-- Whether a port is degraded (R256): its link runs below 64 GT/s x16, or its max payload size is below 512 bytes. -/
def State.degraded (s : State) (d : Nat) : Bool :=
  (s.gb (pciB d) R.PCI_LINK_DL_UP && (s.g (pciB d) R.PCI_LINK_SPEED < 6 || s.g (pciB d) R.PCI_LINK_WIDTH < 16)) || s.g (pciB d) R.PCI_CFG_MPS < 2

/-- Raise PCI_DEGRADED where a port has become degraded. -/
def State.checkDegraded (s : State) (d : Nat) (was : Bool) : State :=
  if s.degraded d && !was then (s.pciEvt d R.PCI_EVT_DEGRADED).raise d 0x0F03 0 else s

/-- The data link layer goes down (R255). -/
def State.linkDownPci (s : State) (d : Nat) : State :=
  let s := s.wr (pciB d + R.PCI_LINK_DL_UP.off) 0
  (((s.pciEvt d R.PCI_EVT_LINK_DOWN).bump (pciCnt d 6)).raise d 0x0F00 0).haltPort d 5

def pcieLinkDownF (d : Nat) (s : State) : State := if s.gb (pciB d) R.PCI_LINK_DL_UP then s.linkDownPci d else s

def busMasterDisableF (d : Nat) (s : State) : State :=
  if s.gb (pciB d) R.PCI_CFG_BME then ((s.p (pciB d) R.PCI_CFG_BME 0).pciEvt d R.PCI_EVT_BME_OFF).haltPort d 6 else s

/-- A function level reset (R255): BME clears, the rings halt, the configuration header and the MSI-X table take their reset values. -/
def functionLevelResetF (d : Nat) (s : State) : State :=
  let was := s.degraded d
  ((((s.cfgReset d).pciEvt d R.PCI_EVT_FLR).bump (pciCnt d 7)).haltPort d 6).checkDegraded d was

/-- The speed and width that a link may run at: within the limits of PCI_SET_PORT, and above 32 GT/s only in FLIT mode (R253, R273). -/
def State.linkRate (s : State) (d sp wd : Nat) (flit : Bool) : Nat × Nat :=
  let lim := tgetD s.pciLim d (6, 16)
  (min (min sp lim.1) (if flit then 6 else 5), min wd lim.2)

/-- PCIE_LINK_DEGRADED (R256). -/
def pcieLinkDegradedF (d sp wd : Nat) (s : State) : State :=
  if !s.gb (pciB d) R.PCI_LINK_DL_UP then s
  else
    let x := s.linkRate d sp wd (s.gb (pciB d) R.PCI_LINK_FLIT)
    (s.ps (pciB d) [(R.PCI_LINK_SPEED, x.1), (R.PCI_LINK_WIDTH, x.2)]).checkDegraded d (s.degraded d)

/-- PCIE_LINK_UP (R376): lane group 3 is in PCIe mode. -/
def pcieLinkUpF (d sp wd : Nat) (flit : Bool) (s : State) : State :=
  if s.groupMode d 3 != 3 || s.gb (pciB d) R.PCI_LINK_DL_UP || !s.dieUp d then s
  else
    let x := s.linkRate d sp wd flit
    let s' := (s.linkCount (pciCnt d 2)).ps (pciB d) [(R.PCI_LINK_DL_UP, 1), (R.PCI_LINK_FLIT, if flit then 1 else 0), (R.PCI_LINK_WIDTH, x.2), (R.PCI_LINK_SPEED, x.1)]
    s'.checkDegraded d false

/-! ### Configuration (R253, R254) -/

/-- The identity of a port's configuration header, and what it holds (R254). -/
structure CfgHeader where
  vendor : Nat
  device : Nat
  cls    : Nat
  bme    : Bool
  bar0   : Nat
  bar2   : Nat
  deriving DecidableEq, Repr

def State.cfgHeader (s : State) (d : Nat) : CfgHeader :=
  { vendor := 0x1F7C, device := 0xD00 + s.nd, cls := 0x118000, bme := s.gb (pciB d) R.PCI_CFG_BME, bar0 := tgetD s.bars (2 * d) 0, bar2 := tgetD s.bars (2 * d + 1) 0 }

/-- The 64 pending bits of vectors 64 i to 64 i + 63 of a port (R254). -/
def State.pendingBits (s : State) (d i : Nat) : Nat := maskOf ((List.range 64).filter fun b => s.msixPend.contains (d, 64 * i + b))

/-- The completion timeout in µs that a code of Device Control 2 sets: the default range, ranges A and B. Within a range the value is the part's
own (log entry 226); another code is reserved. -/
def timeoutOf (code : Nat) : Option Nat :=
  let pick (lo hi : Nat) : Option Nat := some (lo + Config.timeout code % (hi + 1 - lo))
  if code = 0 then some 1000
  else if code = 1 then pick 50 100
  else if code = 2 then pick 1000 10000
  else if code = 5 then pick 16000 55000
  else if code = 6 then pick 65000 210000
  else none

/-- The lanes of a port's link follow it to L1, which is IDLE, and back through an exit (R91, R253; log entry 227). -/
def State.linkPower (s : State) (d : Nat) (l1 : Bool) : State :=
  upTo 16 (fun i s =>
    let p := s.physOf d (48 + i)
    if !l1 then s.beginExit d p else if s.laneSt d p = laACTIVE then s.setLaneSt d p laIDLE else s) s

/-- PCI_CONFIG_WRITE (R253, R254). -/
def pciConfigWriteF (d : Nat) (c : PciCfgWrite) (s : State) : State :=
  if !s.gb (pciB d) R.PCI_LINK_DL_UP then s
  else match c with
  | .control bme mps ro ns cto fm =>
    let was := s.degraded d
    let off := s.gb (pciB d) R.PCI_CFG_BME && !bme
    let s := s.ps (pciB d) [(R.PCI_CFG_MPS, min 2 mps), (R.PCI_CFG_RO_EN, if ro then 1 else 0), (R.PCI_CFG_NS_EN, if ns then 1 else 0)]
    let s := match timeoutOf cto with
      | some t => s.p (pciB d) R.PCI_CTO_CTO t
      | none => s
    let s := if off then busMasterDisableF d s else s.p (pciB d) R.PCI_CFG_BME (if bme then 1 else 0)
    let s := { s with msixFm := if !fm then s.msixFm.filter (· != d) else if s.msixFm.contains d then s.msixFm else s.msixFm ++ [d] }
    (s.msixUnmask d).checkDegraded d was
  | .bar pair a => if pair = 0 then { s with bars := tset s.bars (2 * d) (a / 2 ^ 30 * 2 ^ 30) } else { s with bars := tset s.bars (2 * d + 1) (a / 65536 * 65536) }
  | .vector n a v m => if n < 2048 then ({ s with vecs := tset s.vecs (d * 2048 + n) ⟨a, v, m⟩ } : State).msixUnmask d else s
  | .linkPower l1 => s.linkPower d l1

/-! ### Commands (R273) -/

def dmaRingSetupB (w k : Nat) (s : State) : Rsp :=
  let d := s.cmdByte w k 8
  let r := 256 * s.cmdByte w k 9 + s.cmdByte w k 10
  let base := s.cp w k 16 8
  let ln := s.cmdByte w k 24
  let fn := s.cmdByte w k 26
  let ft := s.cp w k 28 2
  s.checked w k [(8, s.nd ≤ d), (9, 3 < s.cmdByte w k 9), (16, base % 64 != 0 || ln < 4 || 15 < ln), (25, 3 < s.cmdByte w k 25), (26, fn == 0 || 16 < fn),
    (28, ft == 0 || 255 < ft || s.cp w k 30 2 == 0), (32, 2047 < s.cp w k 32 2)] <|
  if !s.dieUp d then busy 5
  else if (s.ring d r).bound.isSome then busy 1
  else
    let s1 := s.ps (ringBase d r) [(R.DMA_RING_BASE_LO_BASE, base), (R.DMA_RING_BASE_HI_BASE, base / 2 ^ 32), (R.DMA_RING_CFG_LOG2N, ln),
      (R.DMA_RING_CFG_NS, s.cmdByte w k 25), (R.DMA_RING_CFG_RO, s.cmdByte w k 25 / 2), (R.DMA_RING_CFG_FLUSH_N_M1, fn - 1),
      (R.DMA_RING_CFG_VECTOR, s.cp w k 32 2), (R.DMA_RING_TIME_IRQ_N_M1, s.cmdByte w k 27), (R.DMA_RING_TIME_FLUSH_T, ft), (R.DMA_RING_TIME_IRQ_T, s.cp w k 30 2),
      (R.DMA_RING_IDX_CI, 0), (R.DMA_RING_IDX_PI, 0), (R.DMA_RING_STAT_STATE, 1)]
    .ok ((s1.p (dmaB d + 4 * r) R.DMA_DB_PI 0).setRing d r {}) []

/-- Die and ring of a ring command, and its checks. -/
def State.ringArg (s : State) (w k : Nat) : Nat × Nat := (s.cmdByte w k 8, 256 * s.cmdByte w k 9 + s.cmdByte w k 10)
def State.ringChecks (s : State) (w k : Nat) : List (Nat × Bool) := [(8, s.nd ≤ s.cmdByte w k 8), (9, 3 < s.cmdByte w k 9)]

def dmaRingFreeB (w k : Nat) (s : State) : Rsp :=
  let (d, r) := s.ringArg w k
  s.checked w k (s.ringChecks w k) <|
  if !s.dieUp d then busy 5
  else if (s.ring d r).bound.isSome then busy 1
  else
    let s1 := upTo 11 (fun i s => s.wr (ringBase d r + 0x100 + 4 * i) (resetWord s.part (ringBase d r + 0x100 + 4 * i))) s
    .ok { s1.p (dmaB d + 4 * r) R.DMA_DB_PI 0 with rings := tdel s.rings (ringKey d r) } []

def dmaRingQueryB (w k : Nat) (s : State) : Rsp :=
  let (d, r) := s.ringArg w k
  let b := ringBase d r
  s.checked w k (s.ringChecks w k) <|
  if !s.dieUp d then busy 5
  else .ok s (leBytes 1 (s.ringSt d r) ++ leBytes 1 (s.rg d r R.DMA_RING_STAT_MODE) ++ leBytes 2 (s.rg d r R.DMA_RING_IDX_PI) ++ leBytes 2 (s.rg d r R.DMA_RING_IDX_CI)
    ++ leBytes 4 (s.rd (b + R.DMA_RING_DONE_SEQ.off)).toNat ++ leBytes 4 (s.rd (b + R.DMA_RING_HALT_INFO_SEQ.off)).toNat
    ++ leBytes 4 (s.rg d r R.DMA_RING_HALT_LO_ADDR) ++ leBytes 4 (s.rg d r R.DMA_RING_HALT_HI_ADDR))

def pciQueryB (w k : Nat) (s : State) : Rsp :=
  let d := s.cmdByte w k 8
  s.checked w k [(8, s.nd ≤ d)] <|
  if !s.dieUp d then busy 5
  else .ok s (leBytes 4 (s.rd (pciB d + 0x40)).toNat ++ leBytes 4 (s.rd (pciB d + 0x44)).toNat ++ leBytes 4 (s.rd (pciB d + 0x48)).toNat
    ++ ((List.range 8).map fun i => leBytes 4 (s.cnt (pciCnt d i))).flatten)

/-- PCI_SET_PORT: a width that is not a power of two bounds the link at the next width below it. -/
def pciSetPortB (w k : Nat) (s : State) : Rsp :=
  let d := s.cmdByte w k 8
  let on := s.cmdByte w k 9
  let sp := s.cmdByte w k 10
  let wd := s.cmdByte w k 11
  s.checked w k [(8, s.nd ≤ d), (9, 1 < on || (on == 0 && (s.slot w k).port == d)), (10, on == 1 && (sp == 0 || 6 < sp)), (11, on == 1 && (wd == 0 || 16 < wd))] <|
  if !s.dieUp d then busy 5
  else if (List.range 16).any fun i => (s.chanOfLane d (48 + i)).isSome || (s.macOfLane d (48 + i)).isSome then busy 1
  else if on = 0 then
    if s.rings.any (fun e => e.1 / 1024 == d && e.2.bound.isSome) then busy 4
    else
      let s1 := pcieLinkDownF d s
      .ok (upTo 4 (fun q s => s.setQuadMode d (12 + q) 0) { s1 with pciLim := tdel s1.pciLim d }) []
  else
    let s1 := { s with pciLim := tset s.pciLim d (sp, 2 ^ Nat.log2 wd) }
    .ok (if s.groupMode d 3 = 3 then s1 else upTo 4 (fun q s => s.setQuadMode d (12 + q) 3) s1) []

end Sys2Proof.Machine
end

