-- ==== Sys2Proof/Machine/TimeOps.lean ====
section
/-!
DEFINITION. The time counter, its changes, the launch queues, PTP, the UTC calendar and the time commands (R284 to R295, R297).
-/
namespace Sys2Proof.Machine
open Sys2Proof

def timeI (d : Nat) : Nat := indBase d 0x10
def ptpCnt (d i : Nat) : Nat := ptpB d + R.PTP_CNT_COUNT.off + 4 * i
def State.ptpEvt (s : State) (d : Nat) (f : Fld) : State := s.evt (ptpB d) R.PTP_EVT_E [f]
def State.onDies (s : State) (f : Nat → State → State) : State := each s.upDies f s

/-- The time source of PTP_CFG: 0 free-run, 1 PTP, 2 PPS. -/
def State.timeSource (s : State) : Nat := s.g (ptpB s.leader) R.PTP_CFG_SOURCE

/-- Whether the counter may take an increment (R284). -/
def incOk (v : Nat) : Bool := 0x1E6666667 ≤ v && v ≤ 0x219999999

/-! ### The calendar (R293, R294) -/

def isLeap (y : Nat) : Bool := y % 4 == 0 && (y % 100 != 0 || y % 400 == 0)
def yearDays (y : Nat) : Nat := if isLeap y then 366 else 365
def monthDays (y m : Nat) : Nat :=
  if m = 2 then (if isLeap y then 29 else 28) else if m = 4 || m = 6 || m = 9 || m = 11 then 30 else 31

/-- cal_to_secs of R294: the UTC second of a date, or none for an impossible date. -/
def calToSecs (y mo d h mi sec : Nat) : Option Nat :=
  if y < 1970 || 2399 < y || mo < 1 || 12 < mo || d < 1 || monthDays y mo < d || 23 < h || 59 < mi || 59 < sec then none
  else
    let days := (List.range (y - 1970)).foldl (fun n i => n + yearDays (1970 + i)) (d - 1)
    let days := (List.range (mo - 1)).foldl (fun n i => n + monthDays y (i + 1)) days
    some (((days * 24 + h) * 60 + mi) * 60 + sec)

/-- The last UTC second of the calendar: 2399-12-31 23:59:59. -/
def calMax : Nat := 13569465599

/-- Year and day of the year, and month and day, that a number of days gives. -/
def yearOf : Nat → Nat → Nat → Nat × Nat
  | 0, y, n => (y, n)
  | fuel + 1, y, n => if n < yearDays y then (y, n) else yearOf fuel (y + 1) (n - yearDays y)
def monthOf (y : Nat) : Nat → Nat → Nat → Nat × Nat
  | 0, m, n => (m, n)
  | fuel + 1, m, n => if n < monthDays y m then (m, n) else monthOf y fuel (m + 1) (n - monthDays y m)

/-- The UTC second of the counter, before the calendar's limits. -/
def State.utc (s : State) : Int := (s.clock.sec : Int) - s.g (ptpB s.leader) R.PTP_UTC_OFFSET

def State.utcHeld (s : State) : Bool := s.utc < 0 || (calMax : Int) < s.utc

/-- The words PTP_CAL_DATE and PTP_CAL_TIME (R293, R295). -/
def State.calWords (s : State) : Nat × Nat :=
  let u := if s.clock.leap60 then s.utc - 1 else s.utc
  let t := min calMax u.toNat
  let (y, n) := yearOf 430 1970 (t / 86400)
  let (m, dd) := monthOf y 12 1 n
  (y * 65536 + m * 256 + dd + 1, t / 3600 % 24 * 65536 + t / 60 % 60 * 256 + (if s.clock.leap60 then 60 else t % 60))

/-- CAL_RANGE where a change has put the calendar out of its range. -/
def State.calCheck (s : State) (was : Bool) : State :=
  if s.utcHeld && !was then s.onDies fun d s => s.ptpEvt d R.PTP_EVT_CAL_RANGE else s

/-- The counter in units of 2^-32 ns. -/
def Clock.total (c : Clock) : Nat := (c.sec * 1000000000 + c.ns) * 2 ^ 32 + c.frac

/-- Put the counter at a number of 2^-32 ns. -/
def Clock.put (c : Clock) (t : Nat) : Clock :=
  { c with sec := t / (1000000000 * 2 ^ 32), ns := t / 2 ^ 32 % 1000000000, frac := t % 2 ^ 32 }

def ethCnt (d m i : Nat) : Nat := ethB d m + R.ETH_CNT_COUNT.off + 4 * i
def State.ethUp (s : State) (d m : Nat) : Bool := s.gb (ethB d m) R.ETH_LINK_UP
def State.ethEvt (s : State) (d m f : Nat) (x : Fld) : State := s.evt (ethB d m) R.ETH_EVT_E [x] [(R.ETH_EVT_FLOW, f)]

/-! ### Launch queues (R291, R292) -/

def launchKey (d m q : Nat) : Nat := (d * 8 + m) * 4 + q

/-- Whether a launch time is past. -/
def State.launchPast (s : State) (l : Launch) : Bool :=
  !(l.sec = 0 && l.ns = 0) && decide ((l.sec * 1000000000 + l.ns) * 2 ^ 32 < s.clock.total + 2000 * 2 ^ 32)

/-- The outcome of a frame in ETH_LQ_LAST, with its count and event. -/
def State.launchDone (s : State) (d m q : Nat) (l : Launch) (outcome : Nat) : State :=
  let s := s.ps (ethB d m + 4 * q) [(R.ETH_LQ_LAST_TAG, l.tag), (R.ETH_LQ_LAST_OUTCOME, outcome)]
  if outcome = 2 then ((s.bump (ethCnt d m 12)).ethEvt d m 0 R.ETH_EVT_LAUNCH_DISCARD).raise d 0x1003 m
  else
    let s := (s.emit (.frame d m l.tag l.data)).bump (ethCnt d m 0)
    let s := { s with lastLaunch := tset s.lastLaunch (d * 8 + m) (s.clock.total / 2 ^ 32) }
    if outcome = 0 then s.bump (ethCnt d m 10)
    else ((s.bump (ethCnt d m 11)).ethEvt d m 0 R.ETH_EVT_LAUNCH_LATE).raise d 0x1003 m

def State.discards (s : State) (d m q : Nat) : Bool := tbit (s.g (ethB d m) R.ETH_LQ_POL_DISCARD) q

/-- The check at the head of a queue (R292): a past frame is marked late, or discarded with the next one checked. -/
def State.checkHead (s : State) (d m q : Nat) : Nat → State
  | 0 => s
  | fuel + 1 =>
    match tgetD s.launches (launchKey d m q) [] with
    | [] => s
    | l :: t =>
      if l.late || !s.launchPast l then s
      else if s.discards d m q then
        ({ s with launches := tset s.launches (launchKey d m q) t }.launchDone d m q l 2).checkHead d m q fuel
      else { s with launches := tset s.launches (launchKey d m q) ({ l with late := true } :: t) }

/-- LAUNCH_DUE: the head of a queue leaves at its launch time, or at the next frame boundary where it is past or has launch time 0. -/
def launchDueF (d m q : Nat) (s : State) : State :=
  if !s.ethUp d m then s
  else match tgetD s.launches (launchKey d m q) [] with
  | [] => s
  | l :: t =>
    let s := { s with launches := tset s.launches (launchKey d m q) t }
    let gone := !l.late && !(l.sec = 0 && l.ns = 0) && decide ((l.sec * 1000000000 + l.ns) * 2 ^ 32 < s.clock.total)
    (s.launchDone d m q l (if l.late || gone then (if s.discards d m q then 2 else 1) else 0)).checkHead d m q 16

/-- The check of every queue's head, after a step (R292). -/
def State.checkHeads (s : State) : State := each s.launches (fun e s => s.checkHead (e.1 / 32) (e.1 / 4 % 8) (e.1 % 4) 16) s

/-! ### Steps and increments (R284 to R286) -/

/-- Shift a held time in units of 2^-k ns by a difference in units of 2^-32 ns. -/
def shiftT (dv : Int) (u : Nat) (t : Nat) : Nat := ((t : Int) + dv / 2 ^ u).toNat

/-- Add a difference to the held times: last-edge timestamps, instants and windows not yet fired, each T0 (R286), and the last hitch of a lane,
against which instants are measured. -/
def State.shiftTimes (s : State) (dv : Int) : State :=
  let src (w : Source) : Source := { w with te := shiftT dv 26 w.te }
  { s with
    sources := s.sources.map fun (k, w) => (k, src w),
    reps := s.reps.map fun (k, w, l) => (k, src w, l.map src),
    gens := s.gens.map fun (k, g) => (k, { g with
      t0 := shiftT dv 0 g.t0, lastT := g.lastT.map (shiftT dv 10), due := g.due.map fun u => { u with inst := shiftT dv 10 u.inst } }),
    links := s.links.map fun (k, l) => (k, { l with lastHitch := l.lastHitch.map (shiftT dv 10) }),
    windows := s.windows.map fun (k, l) => (k, l.map fun (a, b, on) => (shiftT dv 26 a, shiftT dv 26 b, on)) }

/-- Step the counter to a total (R286): held times follow, STEPPED and TIME_STEPPED are recorded, and the heads of the launch queues are checked. -/
def State.stepTo (s : State) (t : Nat) : State :=
  let was := s.utcHeld
  let dv := (t : Int) - s.clock.total
  let s := { s with clock := s.clock.put t }.shiftTimes dv
  let s := s.onDies fun d s => (s.ptpEvt d R.PTP_EVT_STEPPED).bump (ptpCnt d 4)
  ((s.raise 0 0x1101 0).calCheck was).checkHeads

/-- Where a change would put the counter; none where the step is out of range. -/
def State.stepTarget (s : State) (c : TimeChg) : Option Nat :=
  match c with
  | .inc _ => none
  | .add sec ns frac =>
    let t := (s.clock.total : Int) + (sec * 1000000000 + ns) * 2 ^ 32 + frac
    if ns ≤ 999999999 && 0 ≤ t && t < 2 ^ 48 * 1000000000 * 2 ^ 32 then some t.toNat else none
  | .set sec ns frac => if ns ≤ 999999999 && sec < 2 ^ 48 then some ((sec * 1000000000 + ns) * 2 ^ 32 + frac) else none

/-- A change enters the sideband (R285). -/
def State.sendChange (s : State) (c : TimeChg) : State := { s with clock := { s.clock with changes := s.clock.changes ++ [c] } }

/-- A new increment: every die's TIME_INC registers show it (R284, R285; log entry 228). -/
def State.setInc (s : State) (v : Nat) : State :=
  ({ s with clock := { s.clock with inc := v } } : State).onDies fun d s => s.ps (timeI d) [(R.TIME_INC_LO_FRAC, v), (R.TIME_INC_HI_NS, v / 2 ^ 32)]

/-- TIME_CHANGE_APPLY: the oldest change on the sideband applies on every die (R285). -/
def timeChangeApplyF (s : State) : State :=
  match s.clock.changes with
  | [] => s
  | c :: t =>
    let s := { s with clock := { s.clock with changes := t } }
    match c with
    | .inc v => s.setInc v
    | _ => match s.stepTarget c with
      | some x => s.stepTo x
      | none => s.onDies fun d s => s.ptpEvt d R.PTP_EVT_STEP_REJECTED

/-! ### The rollover (R284, R290, R293 to R295) -/

/-- Answer the command that waits for a calendar set. -/
def State.calAnswer (s : State) (w : Option (Nat × Nat)) : State :=
  match w with
  | some (w, k) => s.answer w k stOK 0 []
  | none => s

/-- Set UTC_OFFSET, the leap flags and VALID on every die. -/
def State.setUtc (s : State) (off : Nat) (valid l61 l59 : Bool) : State :=
  let b (x : Bool) : Nat := if x then 1 else 0
  upTo s.nd (fun d s => s.ps (ptpB d) [(R.PTP_UTC_VALID, b valid), (R.PTP_UTC_LEAP61, b l61), (R.PTP_UTC_LEAP59, b l59), (R.PTP_UTC_OFFSET, off)]) s

/-- A leap second at a rollover (R295): `was` is the UTC second that ends. -/
def State.leapRoll (s : State) (was : Int) : State :=
  let b := ptpB s.leader
  let off := s.g b R.PTP_UTC_OFFSET
  let done (s : State) : State := s.onDies fun d s => s.ptpEvt d R.PTP_EVT_LEAP_DONE
  if s.clock.leap60 then
    done ({ s with clock := { s.clock with leap60 := false } }.setUtc (off + 1) true false (s.gb b R.PTP_UTC_LEAP59))
  else if !s.gb b R.PTP_UTC_VALID then s
  else if s.gb b R.PTP_UTC_LEAP61 && was % 86400 == 86399 then { s with clock := { s.clock with leap60 := true } }
  else if s.gb b R.PTP_UTC_LEAP59 && was % 86400 == 86398 then done (s.setUtc (off + 65535) true (s.gb b R.PTP_UTC_LEAP61) false)
  else s

/-- What happens when the seconds advance: the leap second, the PPS pulses, and a calendar set. -/
def State.rolled (s : State) (was : Int) (held : Bool) : State :=
  let s := s.leapRoll was
  let s := s.onDies fun d s =>
    if s.gb (timeI d) R.TIME_PPS_EN && (List.range 12).any (fun p => s.g (mfpB d + 4 * p) R.MFP_CFG_FUNC == 0x0A)
    then s.emit (.ppsPulse d (s.g (timeI d) R.TIME_PPS_WIDTH)) else s
  match s.clock.calSet with
  | some (target, wk) =>
    let s := { s with clock := { s.clock with calSet := none } }
    let t := (target + s.g (ptpB s.leader) R.PTP_UTC_OFFSET) * 1000000000 * 2 ^ 32 + s.clock.total % (1000000000 * 2 ^ 32)
    (s.stepTo t).calAnswer wk
  | none => s.calCheck held

/-- Let n TIME cycles pass, at most one rollover among them (R284). -/
def State.advance (s : State) (n : Nat) : State :=
  let c := s.clock
  let t := c.total + n * c.inc
  let was := s.utc
  let held := s.utcHeld
  let c' := { c with now := c.now + n }.put t
  let c' := { c' with sec := c'.sec % 2 ^ 48 }
  let s' := { s with clock := c' }
  if c'.sec = c.sec then s' else s'.rolled was held

/-- TIME cycles until the rollover. -/
def Clock.toRoll (c : Clock) : Nat :=
  let left := 1000000000 * 2 ^ 32 - c.total % (1000000000 * 2 ^ 32)
  (left + c.inc - 1) / c.inc

/-- SECONDS_ROLLOVER. -/
def secondsRolloverF (s : State) : State := s.advance s.clock.toRoll

/-- CALENDAR_SET_APPLY: a pending calendar set applies at the next rollover. -/
def calendarSetApplyF (s : State) : State := if s.clock.calSet.isSome then secondsRolloverF s else s

/-! ### TIME-domain registers (R284, R286, R294) -/

/-- The effect of a written TIME_INC_HI word on die d. -/
def timeIncApply (d : Nat) (v : Word) (s : State) : State :=
  let x := v.toNat * 2 ^ 32 + s.g (timeI d) R.TIME_INC_LO_FRAC
  if s.timeSource != 0 then s.ptpEvt d R.PTP_EVT_STEP_DENIED
  else if !incOk x then s.ptpEvt d R.PTP_EVT_INC_REJECTED
  else (s.wr (timeI d + R.TIME_INC_HI_NS.off) v).sendChange (.inc x)

/-- The effect of a written TIME_STEP_CTRL word. -/
def timeStepApply (d : Nat) (v : Word) (s : State) : State :=
  let b := timeI d
  let s := s.p b R.TIME_STEP_CTRL_MODE (bits v 1 1)
  if bits v 0 0 = 0 then s
  else if s.timeSource != 0 then s.ptpEvt d R.PTP_EVT_STEP_DENIED
  else
    let sec := s.g b R.TIME_STEP_SEC_HI_SEC * 2 ^ 32 + s.g b R.TIME_STEP_SEC_LO_SEC
    let ns := s.g b R.TIME_STEP_NS_NS
    let fr := s.g b R.TIME_STEP_FRAC_FRAC
    s.sendChange (if bits v 1 1 = 1 then .set sec ns fr else .add (sint sec 48) ns fr)

/-- The effect of a written CAL_CTRL word. -/
def calGoApply (d : Nat) (v : Word) (s : State) : State :=
  let b := timeI d
  if bits v 0 0 = 0 then s
  else if s.timeSource != 0 then s.ptpEvt d R.PTP_EVT_STEP_DENIED
  else match calToSecs (s.g b R.CAL_SET_DATE_YEAR) (s.g b R.CAL_SET_DATE_MONTH) (s.g b R.CAL_SET_DATE_DAY) (s.g b R.CAL_SET_TIME_HOUR)
      (s.g b R.CAL_SET_TIME_MIN) (s.g b R.CAL_SET_TIME_SEC) with
    | none => s.ptpEvt d R.PTP_EVT_CAL_REJECTED
    | some t => { s with clock := { s.clock with calSet := some (t, s.clock.calSet.bind (·.2)) } }

/-- SNAP of the PTP block (R46): the time counter and the calendar. -/
def State.ptpSnap (s : State) (d : Nat) : State :=
  let (dt, tm) := s.calWords
  let s := s.ps (ptpB d) [(R.PTP_TIME_SEC_LO_SEC, s.clock.sec), (R.PTP_TIME_SEC_HI_SEC, s.clock.sec / 2 ^ 32), (R.PTP_TIME_NS_NS, s.clock.ns),
    (R.PTP_TIME_FRAC_FRAC, s.clock.frac)]
  (s.wr (ptpB d + R.PTP_CAL_DATE_DAY.off) (BitVec.ofNat 32 dt)).wr (ptpB d + R.PTP_CAL_TIME_SEC.off) (BitVec.ofNat 32 tm)

/-! ### PTP and PPS (R287 to R290) -/

/-- The servo's or firmware's steering (R287, R290): the spec gives no law, so whether it changes the increment or steps the counter, and by how
much, are open values (log entry 229). -/
def State.steer (s : State) : State :=
  let (how, s) := s.fresh
  let (v, s) := s.fresh
  if how % 3 = 0 then s
  else if how % 3 = 1 then s.sendChange (.inc (0x1E6666667 + v % (0x219999999 - 0x1E6666667 + 1)))
  else
    let (ns, s) := s.fresh
    let (frac, s) := s.fresh
    let c := TimeChg.add (sint (v + how / 3 % 65536 * 2 ^ 32) 48) (ns % 1000000000) frac
    if (s.stepTarget c).isSome then s.sendChange c else s

/-- Lose LOCKED (R287). -/
def State.unlock (s : State) : State :=
  let s := { s with ptp := { s.ptp with good := 0 } }
  if s.gb (ptpB s.leader) R.PTP_STATE_LOCKED then
    ((upTo s.nd (fun d s => s.p (ptpB d) R.PTP_STATE_LOCKED 0) s).onDies fun d s => s.ptpEvt d R.PTP_EVT_UNLOCKED).raise 0 0x1100 0
  else s

def State.ptpAll (s : State) (f : Fld) (v : Nat) : State := upTo s.nd (fun d s => s.p (ptpB d) f v) s

/-- The MAC of the PTP port. -/
def State.ptpMac (s : State) : Nat × Nat := (s.g (ptpB s.leader) R.PTP_CFG_DIE, s.g (ptpB s.leader) R.PTP_CFG_MAC)


/-- Write a timestamp in 1/64 ns to a pair of ETH registers. -/
def State.stamp (s : State) (b : Nat) (ns sec : Fld) (t : Int) : State :=
  let n := (t / 64).toNat
  s.ps b [(ns, n % 1000000000), (sec, n / 1000000000)]

/-- PTP_MESSAGE_RX. -/
def ptpMessageRxF (m : PtpRx) (s : State) : State :=
  let (d, k) := s.ptpMac
  let b := ethB d k
  if !s.gb b R.ETH_LINK_UP then s
  else
    let ts (mark : Nat) : Int := (mark : Int) - s.g b R.ETH_TS_CORR_RX_CORR - sint (s.g b R.ETH_TS_ADJ_RX_ADJ) 16
    let at' (mark : Nat) (s : State) : State := (s.stamp b R.ETH_RXTS_NS_TS R.ETH_RXTS_SEC_TS (ts mark)).bump (ethCnt d k 1)
    let count (i : Nat) (s : State) : State := s.onDies fun d s => s.bump (ptpCnt d i)
    match m with
    | .sync mark off =>
      let s := (count 0 (at' mark s)).ptpAll R.PTP_OFFSET_OFFSET (off % 2 ^ 32).toNat
      if s.timeSource != 1 then s
      else
        let s := s.steer
        if off.natAbs < 6400 then
          let locks := 15 ≤ s.ptp.good
          let s := { s with ptp := { s.ptp with good := if locks then 16 else s.ptp.good + 1 } }
          if locks then s.ptpAll R.PTP_STATE_LOCKED 1 else s
        else s.unlock
    | .delayResp mark => count 3 (at' mark s)
    | .announce mark ps => (at' mark s).ptpAll R.PTP_STATE_PORT_STATE ps
    | .other mark => at' mark s

/-- PTP_MESSAGE_TX (R288, R289): a Sync carries the seconds and nanoseconds of its timestamp in one-step mode,
and what is below a nanosecond goes to its correction in 2^-16 ns; in two-step mode a Follow_Up carries them. -/
def ptpMessageTxF (m : PtpTx) (s : State) : State :=
  let (d, k) := s.ptpMac
  let b := ethB d k
  if !s.gb b R.ETH_LINK_UP then s
  else
    let ts (mark : Nat) : Int := (mark : Int) + s.g b R.ETH_TS_CORR_TX_CORR + sint (s.g b R.ETH_TS_ADJ_TX_ADJ) 16
    let at' (mark : Nat) (s : State) : State := (s.stamp b R.ETH_TXTS_NS_TS R.ETH_TXTS_SEC_TS (ts mark)).bump (ethCnt d k 0)
    let count (i : Nat) (s : State) : State := s.onDies fun d s => s.bump (ptpCnt d i)
    match m with
    | .sync mark =>
      let s := count 1 (at' mark s)
      let t := (ts mark).toNat
      let stamped := Out.ptp d k (t / 64 / 1000000000) (t / 64 % 1000000000) (t % 64 * 1024)
      if s.gb (ptpB s.leader) R.PTP_CFG_ONESTEP then s.emit stamped
      else ((s.emit (.ptp d k 0 0 0)).emit stamped).bump (ethCnt d k 0)
    | .delayReq mark => (count 2 (at' mark s)).emit (.ptp d k 0 0 0)
    | .other mark => (at' mark s).emit (.ptp d k 0 0 0)

/-- PTP_ANNOUNCE_TIMEOUT (R287): a slave-only port listens, another becomes master, as IEEE 1588 says (log entry 60). -/
def ptpAnnounceTimeoutF (s : State) : State :=
  let s := s.onDies fun d s => s.bump (ptpCnt d 6)
  let role := s.g (ptpB s.leader) R.PTP_CFG_ROLE
  let s := if role = 2 then s else s.ptpAll R.PTP_STATE_PORT_STATE (if role = 1 then 4 else 6)
  if s.timeSource = 1 then s.unlock else s

/-- PPS_IN_EDGE (R290): the timestamp lies within 1.0 ns of the counter, at an open value (log entry 230). -/
def ppsInEdgeF (d : Nat) (s : State) : State :=
  let (v, s) := s.fresh
  let t := ((s.clock.total : Int) + 2 * (v : Int) - 2 ^ 32).toNat / 2 ^ 32
  let s := s.ps (ptpB d) [(R.PTP_PPSIN_SEC_SEC, t / 1000000000), (R.PTP_PPSIN_NS_NS, t % 1000000000)]
  let s := (s.ptpEvt d R.PTP_EVT_PPS_IN).bump (ptpCnt d 5)
  if s.timeSource = 2 then s.steer else s

/-! ### Commands (R297) -/

def ptpSetB (w k : Nat) (s : State) : Rsp :=
  let c := s.cmdByte w k
  s.checked w k [(8, 2 < c 8), (9, s.nd ≤ c 9), (10, 7 < c 10), (11, 2 < c 11), (12, 3 < c 12), (13, 2 < c 13)] <|
  if !s.dieUp (c 9) then busy 5
  else
    let s1 := upTo s.nd (fun d s => s.ps (ptpB d) [(R.PTP_CFG_SOURCE, c 8), (R.PTP_CFG_DOMAIN, c 14), (R.PTP_CFG_MAC, c 10), (R.PTP_CFG_DIE, c 9),
      (R.PTP_CFG_TRANSPORT, c 11), (R.PTP_CFG_P2P, c 12), (R.PTP_CFG_ONESTEP, c 12 / 2), (R.PTP_CFG_ROLE, c 13), (R.PTP_STATE_LOCKED, 0),
      (R.PTP_STATE_PORT_STATE, 1)]) s
    .ok { s1 with ptp := { logSync := c 15, logAnnounce := c 16, logDelay := c 17, prio1 := c 18, prio2 := c 19, good := 0 } } []

def ptpQueryB (w k : Nat) (s : State) : Rsp :=
  let b := ptpB s.leader
  let (dt, tm) := s.calWords
  s.checked w k [] <|
  .ok s (leBytes 4 (s.rd (b + 0x44)).toNat ++ leBytes 4 (s.rd (b + 0x48)).toNat ++ leBytes 4 (s.rd (b + 0x4C)).toNat ++ leBytes 8 s.clock.sec
    ++ leBytes 4 s.clock.ns ++ leBytes 4 s.clock.frac ++ leBytes 4 dt ++ leBytes 4 tm)

def timeStepB (w k : Nat) (s : State) : Rsp :=
  let m := s.cmdByte w k 8
  let sec := s.cp w k 16 8
  let c : TimeChg := if m = 1 then .set sec (s.cp w k 24 4) (s.cp w k 28 4) else .add (sint sec 64) (s.cp w k 24 4) (s.cp w k 28 4)
  s.checked w k [(8, 1 < m)] <|
  if (s.stepTarget c).isNone then bad 8
  else if s.timeSource != 0 then busy 2
  else .ok (s.sendChange c) []

def timeSetIncB (w k : Nat) (s : State) : Rsp :=
  let v := s.cp w k 8 8
  s.checked w k [(8, !incOk v)] <|
  if s.timeSource != 0 then busy 2
  else .ok (s.sendChange (.inc v)) []

def calSetB (w k : Nat) (s : State) : Rsp :=
  let c := s.cmdByte w k
  s.checked w k [] <|
  match calToSecs (s.cp w k 8 2) (c 10) (c 11) (c 12) (c 13) (c 14) with
  | none => .errAt (s.ptpEvt s.leader R.PTP_EVT_CAL_REJECTED) stBAD 8
  | some t =>
    if s.timeSource != 0 then busy 2
    else .wait { (s.calAnswer (s.clock.calSet.bind (·.2))) with clock := { s.clock with calSet := some (t, some (w, k)) } }

def ptpSetUtcB (w k : Nat) (s : State) : Rsp :=
  let f := s.cmdByte w k 10
  let was := s.utcHeld
  s.checked w k [(10, 7 < f)] <|
  if tbit f 1 && tbit f 2 then bad 8
  else if s.timeSource = 1 then busy 2
  else .ok ((s.setUtc (s.cp w k 8 2) (tbit f 0) (tbit f 1) (tbit f 2)).calCheck was) []

end Sys2Proof.Machine
end

