-- ==== Sys2Proof/Machine/EthOps.lean ====
section
/-!
DEFINITION. Ethernet MACs: flows and their datagrams, STATUS messages, receipt timeouts, link state and the Ethernet
commands (R274 to R283, R297).
-/
namespace Sys2Proof.Machine
open Sys2Proof

def State.fg (s : State) (d m f : Nat) (x : Fld) : Nat := s.g (flowBase d m f) x
def State.flowSt (s : State) (d m f : Nat) : Nat := s.fg d m f R.ETH_FLOW_CFG_STATE

/-- The bound flows of a MAC (states 2 and 3). -/
def State.boundFlows (s : State) (d m : Nat) : List Nat := (List.range 256).filter fun f => 2 ≤ s.flowSt d m f

/-! ### Datagrams (R277, R278) -/

/-- The IPv6 address of a MAC. -/
def State.ip6 (s : State) (d m : Nat) : Nat :=
  (List.range 4).foldl (fun n i => n + s.g (ethB d m + 4 * i) R.ETH_IPV6_ADDR * 2 ^ (32 * i)) 0

/-- The address of a MAC in one of the two IP versions. -/
def State.macIp (s : State) (d m : Nat) (v6 : Bool) : Nat := if v6 then s.ip6 d m else s.g (ethB d m) R.ETH_IPV4_ADDR

/-- A source port of a MAC, by its distance from that of flow 0. -/
def State.srcPort (s : State) (d m n : Nat) : Nat := (s.g (ethB d m) R.ETH_UDP_SPORT_BASE + n) % 65536

/-- Send a UDP datagram from a MAC: its addresses, its port and the checksum are filled in (R274). -/
def State.sendUdp (s : State) (d m : Nat) (v6 : Bool) (vlan : Option Nat) (dmac dip sport dport : Nat) (payload : List Byte) : State :=
  let b := ethB d m
  let sip := s.macIp d m v6
  let u : Datagram := { v6 := v6, vlan := vlan, smac := s.g b R.ETH_ADDR_HI_ADDR * 2 ^ 32 + s.g b R.ETH_ADDR_LO_ADDR, dmac := dmac, sip := sip,
                        dip := dip, sport := sport, dport := dport, sum := udpSum v6 sip dip sport dport payload, payload := payload }
  ((s.emit (.datagram d m u)).bump (ethCnt d m 4)).bump (ethCnt d m 0)

/-- F of a MAC in one of the two IP versions: the fragment size (R278). -/
def State.fragLen (s : State) (d m : Nat) (v6 : Bool) : Nat := (s.g (ethB d m) R.ETH_CFG_MTU - (if v6 then 40 else 20) - 40) / 64 * 64

/-- The destination IP address of a flow. -/
def State.flowIp (s : State) (d m f : Nat) : Nat :=
  let a (i : Nat) : Nat := s.g (flowBase d m f + 4 * i) R.ETH_FLOW_DIP_DIP
  if s.fg d m f R.ETH_FLOW_CFG_IPV6 = 1 then a 0 + a 1 * 2 ^ 32 + a 2 * 2 ^ 64 + a 3 * 2 ^ 96 else a 0

/-- Send a message over a flow. -/
def State.sendFlow (s : State) (d m f : Nat) (msg : List Byte) : State :=
  let g := s.fg d m f
  s.sendUdp d m (g R.ETH_FLOW_CFG_IPV6 == 1) (if g R.ETH_FLOW_CFG_VLAN_EN = 1 then some (g R.ETH_FLOW_DMAC_HI_TCI) else none)
    (g R.ETH_FLOW_DMAC_HI_DMAC * 2 ^ 32 + g R.ETH_FLOW_DMAC_LO_DMAC) (s.flowIp d m f) (s.srcPort d m f) (g R.ETH_FLOW_PORT_DPORT) msg

/-- A SESSION that firmware chooses for a flow or a target: an open value that none of its bindings has had (R277; log entry 231). -/
def State.newSession (s : State) (b : Nat) : Nat × State :=
  let (v, s) := s.fresh
  let used := tgetD s.sessions b []
  let x := (((List.range (used.length + 1)).map fun i => (v + i) % 2 ^ 32).find? fun x => !used.contains x).getD v
  (x, { s with sessions := tset s.sessions b (used ++ [x]) })

/-- Send the datagrams that begin within `burst` bytes of offset `off` (log entry 61), and say where the record then stands. -/
def State.sendDatagrams (s : State) (d m f word : Nat) (l : List Byte) (off stop : Nat) : Nat → State × Nat
  | 0 => (s, off)
  | fuel + 1 =>
    if stop ≤ off || l.length ≤ off then (s, off)
    else
      let n := max 1 (s.fragLen d m (s.fg d m f R.ETH_FLOW_CFG_IPV6 == 1))
      let part := (l.drop off).take n
      let h := dataHeader (s.fg d m f R.ETH_FLOW_SESSION_SESSION) word (s.fg d m f R.ETH_FLOW_ATTEMPT_ATTEMPT) off l.length part.length
        (decide (l.length ≤ off + n))
      (s.sendFlow d m f (h ++ part)).sendDatagrams d m f word l (off + part.length) stop fuel

/-- The next burst of a record over a flow (R246, R277): `l` is the delivered record. -/
def State.flowBurst (s : State) (d m f id c burst : Nat) (l : List Byte) : State :=
  match (s.recs.find? (·.id == id)).bind (·.mem? c) with
  | none => s
  | some r =>
    let (s, o) := s.sendDatagrams d m f (deliveredWord r) l r.sentBytes (r.sentBytes + burst) (l.length + 1)
    s.modRec id fun r => r.modMem c fun r => { r with sentBytes := o, lastSent := decide (l.length ≤ o) }

/-- Begin an attempt on a flow: the flow's attempt number advances (R277). -/
def State.flowAttempt (s : State) (d m f : Nat) : State := s.p (flowBase d m f) R.ETH_FLOW_ATTEMPT_ATTEMPT (s.fg d m f R.ETH_FLOW_ATTEMPT_ATTEMPT + 1)

/-! ### STATUS messages and timeouts (R280, R281) -/

/-- The NAK of a STATUS: the current attempt of an INFLIGHT record of that sequence fails. -/
def State.nakIn (s : State) (d m f c seq attempt : Nat) : State :=
  match (s.recsOf c).find? fun r => r.isIn c .inflight && (match r.mem? c with | some x => x.seq == seq && x.attempt == attempt | none => false) with
  | some r => (((s.failFrom c r.id).sweep).ethEvt d m f R.ETH_EVT_NAK_RX).bump (ethCnt d m 7)
  | none => s

/-- The RCVD of a STATUS: records up to its sequence, sent in full, complete in order. -/
def State.rcvdIn (s : State) (d m f c seq : Nat) : State :=
  let dn := s.cg c R.CSM_CTX_DONE_SEQ
  let ahead (q : Nat) : Nat := (q + 2 ^ 20 - dn) % 2 ^ 20
  if ahead seq = 0 || 2 ^ 19 ≤ ahead seq then s
  else
    let sent (r : Rec) : Bool := r.isIn c .inflight && (match r.mem? c with
      | some x => x.lastSent && decide (1 ≤ ahead x.seq ∧ ahead x.seq ≤ ahead seq)
      | none => false)
    let now := (s.recsOf c).filter sent
    if !now.any fun r => match r.mem? c with | some x => x.seq == seq | none => false then s.bump (ethCnt d m 6)
    else
      let s := each now (fun r s => (s.completeMem r.id c).bump (ethCnt d m 9)) s
      let s := s.p (flowBase d m f) R.ETH_FLOW_RTO_FAILS 0
      (if s.flowSt d m f = 3 then s.p (flowBase d m f) R.ETH_FLOW_CFG_STATE 2 else s).sweep

/-- A received frame that the MAC does not handle. -/
def ethDiscardF (d m : Nat) (s : State) : State := if !s.ethUp d m then s else (s.bump (ethCnt d m 1)).bump (ethCnt d m 13)

/-- ETH_STATUS_RX (R279, R280). A message with a wrong checksum, and one that is no STATUS, are frames discarded under R274; of the three words only
those that SFLAGS marks valid are looked at (log entry 232). -/
def ethStatusRxF (d m f : Nat) (u : UdpRx) (s : State) : State :=
  if !s.ethUp d m then s
  else
    let v6 := s.fg d m f R.ETH_FLOW_CFG_IPV6 == 1
    let x (off n : Nat) : Nat := leAt u.bytes off n
    if udpBad v6 (s.macIp d m v6) (s.srcPort d m f) u || u.bytes.length < 32 || x 3 1 != 2 then ethDiscardF d m s
    else
      let s := s.bump (ethCnt d m 1)
      let c := s.fg d m f R.ETH_FLOW_CFG_CONS
      let has (bit : Nat) : Bool := tbit (x 24 2) bit
      let idBad := [(0, 8), (1, 12), (2, 16)].any fun e => has e.1 && x e.2 4 % 4096 != c
      if s.flowSt d m f < 2 || x 0 2 != 0x524C || x 2 1 != 1 || x 4 4 != s.fg d m f R.ETH_FLOW_SESSION_SESSION || idBad then
        (s.bump (ethCnt d m 6)).ethEvt d m f R.ETH_EVT_STATUS_BAD
      else
        let s := s.bump (ethCnt d m 5)
        let s := if has 2 then s.nakIn d m f c (x 16 4 / 4096) (x 20 4) else s
        let s := if has 0 then s.rcvdIn d m f c (x 8 4 / 4096) else s
        if has 1 then s.ackWord (s.ctxDie c) (x 12 4) else s

/-- ETH_RECEIPT_TIMEOUT (R281): the oldest attempt sent in full and not covered fails; eight in a row stall the flow. -/
def ethReceiptTimeoutF (d m f : Nat) (s : State) : State :=
  let c := s.fg d m f R.ETH_FLOW_CFG_CONS
  if s.flowSt d m f < 2 then s
  else match (s.recsOf c).find? fun r => r.isIn c .inflight && (match r.mem? c with | some x => x.lastSent | none => false) with
  | none => s
  | some r =>
    let n := min 255 (s.fg d m f R.ETH_FLOW_RTO_FAILS + 1)
    let s := ((s.failFrom c r.id).sweep.p (flowBase d m f) R.ETH_FLOW_RTO_FAILS n).bump (ethCnt d m 8)
    let s := s.ethEvt d m f R.ETH_EVT_RTO
    if n < 8 || s.flowSt d m f = 3 then s
    else ((s.p (flowBase d m f) R.ETH_FLOW_CFG_STATE 3).ethEvt d m f R.ETH_EVT_STALLED).raise d 0x1002 m

/-! ### Link and received frames (R274, R276) -/

/-- ETH_LINK_DOWN. -/
def ethLinkDownF (d m : Nat) (s : State) : State :=
  if !s.ethUp d m then s
  else
    let s := s.wr (ethB d m + R.ETH_LINK_UP.off) 0
    let s := (s.ethEvt d m 0 R.ETH_EVT_LINK_DOWN).raise d 0x1000 m
    each (s.boundFlows d m) (fun f s => s.failAll (s.fg d m f R.ETH_FLOW_CFG_CONS)) s

/-- ETH_LINK_UP: an enabled MAC's link comes up; its flows resume, and the heads of its launch queues are checked again. -/
def ethLinkUpF (d m : Nat) (s : State) : State :=
  if s.ethUp d m || !s.gb (ethB d m) R.HDR_CTRL_EN || !s.dieUp d then s
  else
    let s := (s.linkCount (ethCnt d m 2)).ps (ethB d m) [(R.ETH_LINK_UP, 1), (R.ETH_LINK_AN_DONE, s.g (ethB d m) R.ETH_CFG_AN), (R.ETH_LINK_FEC_LOCK, 1)]
    upTo 4 (fun q s => s.checkHead d m q 16) s

/-- ARP_REQUEST_RX: answered where the target is the MAC's own address. -/
def arpRequestRxF (d m : Nat) (v6 : Bool) (target : Nat) (s : State) : State :=
  if !s.ethUp d m then s
  else
    let own := if v6 then s.ip6 d m else s.g (ethB d m) R.ETH_IPV4_ADDR
    if own != 0 && target = own then ((s.bump (ethCnt d m 1)).emit (.arpReply d m target)).bump (ethCnt d m 0)
    else ethDiscardF d m s

/-! ### Commands (R297) -/

def State.macChecks (s : State) (w k : Nat) : List (Nat × Bool) := [(8, s.nd ≤ s.cmdByte w k 8), (9, 7 < s.cmdByte w k 9)]

/-- Whether a MAC carries traffic: a bound flow, a frame that waits to launch, or a port of a bound volume. -/
def State.macBusy (s : State) (d m : Nat) : Bool :=
  !(s.boundFlows d m).isEmpty || (List.range 4).any (fun q => !(tgetD s.launches (launchKey d m q) []).isEmpty)
    || (List.range 16).any fun v => (tgetD s.vols v {}).bound.isSome && (List.range (s.g (volBase v) R.COL_VOL_CFG_PORTS)).any fun p =>
      s.g (volBase v + 4 * p) R.COL_VOL_PORT_DIE == d && s.g (volBase v + 4 * p) R.COL_VOL_PORT_MAC == m

/-- Transmit and receive corrections of a rate in 1/64 ns (R288; log entry 62). -/
def tsCorr (rate : Nat) : Nat × Nat :=
  if rate = 0 then (1168, 6176) else if rate = 1 then (1264, 6561) else if rate = 2 then (1361, 6947) else (1457, 7718)

/-- Disable a MAC: its link goes. -/
def State.macOff (s : State) (d m : Nat) : State :=
  (s.ps (ethB d m) [(R.HDR_CTRL_EN, 0), (R.HDR_CTRL_QUIESCED, 1)]).wr (ethB d m + R.ETH_LINK_UP.off) 0

/-- Lanes that a MAC of a rate may not take: outside a group, not at a multiple of its width, in another mode or in use (R84, R85). -/
def State.lanesBad (s : State) (d first rate : Nat) : Bool :=
  let n := 2 ^ rate
  64 < first + n || first % n != 0 || s.groupMode d (first / 16) == 1 || s.groupMode d (first / 16) == 3
    || (List.range n).any fun i => s.laneUsed d (first + i) || (s.lane d (s.physOf d (first + i))).isolated

def ethSetPortB (w k : Nat) (s : State) : Rsp :=
  let c := s.cmdByte w k
  let d := c 8
  let m := c 9
  let on := c 10 == 1
  let mtu := s.cp w k 14 2
  s.checked w k (s.macChecks w k ++ [(10, decide (1 < c 10)), (11, on && decide (3 < c 11)), (12, on && decide (3 < c 12)), (13, on && decide (63 < c 13)),
    (14, on && (decide (mtu < 4096) || decide (9216 < mtu)))]) <|
  if !s.dieUp d then busy 5
  else if s.macBusy d m then busy 1
  else
    let s0 := s.macOff d m
    if !on then .ok (s0.syncEligible d) []
    else if s0.lanesBad d (c 13) (c 11) then refused 1
    else
      let b := ethB d m
      let s1 := s0.ps b [(R.ETH_CFG_CR, c 12), (R.ETH_CFG_AN, c 12 / 2), (R.ETH_CFG_RATE, c 11), (R.ETH_CFG_FIRST_LANE, c 13), (R.ETH_CFG_MTU, mtu),
        (R.ETH_ADDR_LO_ADDR, s.cp w k 16 4), (R.ETH_ADDR_HI_ADDR, s.cp w k 20 2), (R.ETH_IPV4_ADDR, s.cp w k 24 4), (R.ETH_UDP_SPORT_BASE, s.cp w k 44 2),
        (R.ETH_TS_CORR_TX_CORR, (tsCorr (c 11)).1), (R.ETH_TS_CORR_RX_CORR, (tsCorr (c 11)).2)]
      let s2 := upTo 4 (fun i s => s.p (b + 4 * i) R.ETH_IPV6_ADDR (s.cp w k (28 + 4 * i) 4)) s1
      let s3 := upTo (2 ^ c 11) (fun i s =>
        let q := (c 13 + i) / 4
        if s.quadMode d q = 2 then s else s.setQuadMode d q 2) s2
      .ok ((s3.ps b [(R.HDR_CTRL_EN, 1), (R.HDR_CTRL_QUIESCED, 0)]).syncEligible d) []

def ethSetFlowB (w k : Nat) (s : State) : Rsp :=
  let c := s.cmdByte w k
  let b := flowBase (c 8) (c 9) (c 10)
  let rto := s.cp w k 40 4
  s.checked w k (s.macChecks w k ++ [(11, decide (3 < c 11)), (40, decide (rto < 10 ∨ 10000 < rto))]) <|
  if !s.dieUp (c 8) then busy 5
  else if 2 ≤ s.flowSt (c 8) (c 9) (c 10) then busy 1
  else
    let s1 := s.ps b [(R.ETH_FLOW_CFG_VALID, 1), (R.ETH_FLOW_CFG_IPV6, c 11), (R.ETH_FLOW_CFG_VLAN_EN, c 11 / 2), (R.ETH_FLOW_CFG_STATE, 1),
      (R.ETH_FLOW_DMAC_LO_DMAC, s.cp w k 16 4), (R.ETH_FLOW_DMAC_HI_DMAC, s.cp w k 20 2), (R.ETH_FLOW_DMAC_HI_TCI, s.cp w k 12 2),
      (R.ETH_FLOW_PORT_DPORT, s.cp w k 14 2), (R.ETH_FLOW_RTO_RTO, rto), (R.ETH_FLOW_RTO_FAILS, 0)]
    .ok (upTo 4 (fun i s => s.p (b + 4 * i) R.ETH_FLOW_DIP_DIP (s.cp w k (24 + 4 * i) 4)) s1) []

def ethFlowFreeB (w k : Nat) (s : State) : Rsp :=
  let c := s.cmdByte w k
  let b := flowBase (c 8) (c 9) (c 10)
  s.checked w k (s.macChecks w k) <|
  if !s.dieUp (c 8) then busy 5
  else if 2 ≤ s.flowSt (c 8) (c 9) (c 10) then busy 1
  else .ok (upTo 11 (fun i s => s.wr (b + 0x100 + 4 * i) (resetWord s.part (b + 0x100 + 4 * i))) s) []

def ethQueryB (w k : Nat) (s : State) : Rsp :=
  let d := s.cmdByte w k 8
  let m := s.cmdByte w k 9
  let b := ethB d m
  s.checked w k (s.macChecks w k) <|
  if !s.dieUp d then busy 5
  else .ok s (leBytes 4 (s.rd (b + 0x40)).toNat ++ leBytes 4 (s.rd (b + 0x64)).toNat ++ leBytes 4 (s.rd (b + 0x6C)).toNat ++ leBytes 4 (s.rd (b + 0x70)).toNat
    ++ ((List.range 14).map fun i => leBytes 4 (s.cnt (ethCnt d m i))).flatten)

/-- ETH_SEND: `frame` is what the read of host memory brought. -/
def ethSendB (frame : List Byte) (w k : Nat) (s : State) : Rsp :=
  let d := s.cmdByte w k 8
  let m := s.cmdByte w k 9
  let q := s.cmdByte w k 10
  let n := s.cp w k 14 2
  let l : Launch := { tag := s.cp w k 12 2, len := n, sec := s.cp w k 24 6, ns := s.cp w k 32 4, data := frame.take n, late := false }
  let at0 (l : Launch) : Nat := l.sec * 1000000000 + l.ns
  let queued := tgetD s.launches (launchKey d m q) []
  let others := ((List.range 4).map fun q => tgetD s.launches (launchKey d m q) []).flatten
  let near (o : Launch) : Bool := at0 l != 0 && at0 o != 0 && ((at0 l : Int) - at0 o).natAbs < 100000
  s.checked w k (s.macChecks w k ++ [(10, decide (q = 0 ∨ 3 < q)), (14, n < 60 || s.g (ethB d m) R.ETH_CFG_MTU + 18 < n), (32, decide (999999999 < l.ns))]) <|
  if at0 l != 0 && queued.any (fun o => at0 l < at0 o) then bad 24
  else if !s.dieUp d || !s.ethUp d m then busy 5
  else if 16 ≤ queued.length then busy 3
  else if others.any near || (at0 l != 0 && (tget s.lastLaunch (d * 8 + m)).any fun t => ((at0 l : Int) - t).natAbs < 100000) then busy 4
  else if s.launchPast l && s.discards d m q then .ok ((s.hostFetch (s.slot w k).port (s.cp w k 16 8) n).launchDone d m q l 2) []
  else
    let s := s.hostFetch (s.slot w k).port (s.cp w k 16 8) n
    let l := { l with late := s.launchPast l, len := min n frame.length }
    .ok { s with launches := tset s.launches (launchKey d m q) (queued ++ [l]) } []

end Sys2Proof.Machine
end

