-- ==== Sys2Proof/Machine/CoilOps.lean ====
section
/-!
DEFINITION. The Coil archive: placement of records in stripes, the erasure code, shard writes, retries, failed targets, rebuilds and
replacements (R298 to R313).
-/
namespace Sys2Proof.Machine
open Sys2Proof

/-! ### The code (R300) -/

def gmulGo : Nat → Nat → Nat → Nat → Nat
  | 0, _, _, p => p
  | n + 1, a, b, p =>
    gmulGo n (if a / 128 % 2 = 1 then (a * 2 % 256).xor 0x1D else a * 2 % 256) (b / 2) (if b % 2 = 1 then p.xor a else p)
/-- The product in GF(2^8) with polynomial 0x11D. -/
def gmul (a b : Nat) : Nat := gmulGo 8 a b 0
/-- The inverse in the same field: the 254th power. -/
def ginv (a : Nat) : Nat := (List.range 253).foldl (fun p _ => gmul p a) a
/-- The coefficient of data shard i in parity shard j. -/
def coef (j i : Nat) : Nat := ginv (j.xor (4 + i))

/-- The row that gives shard `idx` from the k data shards. -/
def codeRow (k idx : Nat) : List Nat := (List.range k).map fun i => if idx < k then (if i = idx then 1 else 0) else coef (idx - k) i

/-- The bytes of a combination of shards. -/
def combine (n : Nat) (row : List Nat) (shards : List (List Byte)) : List Byte :=
  (List.range n).map fun b => BitVec.ofNat 8
    ((row.zip shards).foldl (fun v e => v.xor (gmul e.1 ((e.2[b]?).map BitVec.toNat |>.getD 0))) 0)

/-- One step of Gauss–Jordan elimination of rows (coefficients, right-hand sides) at column c. -/
def elim (rows : List (List Nat × List Nat)) (c : Nat) : List (List Nat × List Nat) :=
  match ((rows.zipIdx).find? fun e => c ≤ e.2 && (e.1.1[c]?).getD 0 != 0) with
  | none => rows
  | some (p, i) =>
    let inv := ginv ((p.1[c]?).getD 0)
    let p' : List Nat × List Nat := (p.1.map (gmul inv), p.2.map (gmul inv))
    let rows := (rows.set i ((rows[c]?).getD p)).set c p'
    (rows.zipIdx).map fun (r, n) =>
      if n = c then r
      else
        let f := (r.1[c]?).getD 0
        ((r.1.zip p'.1).map fun e => e.1.xor (gmul f e.2), (r.2.zip p'.2).map fun e => e.1.xor (gmul f e.2))

/-- The row that gives shard `idx` from k shards of the given indices. -/
def decodeRow (k idx : Nat) (have' : List Nat) : List Nat :=
  let rows := (have'.zipIdx).map fun (h, n) => (codeRow k h, (List.range k).map fun i => if i = n then 1 else 0)
  let inv := ((List.range k).foldl elim rows).map (·.2)
  (List.range k).map fun n => ((codeRow k idx).zip inv).foldl (fun v e => v.xor (gmul e.1 ((e.2[n]?).getD 0))) 0

/-! ### Volumes and targets (R298, R299) -/

def State.vol (s : State) (v : Nat) : Vol := tgetD s.vols v {}
def State.setVol (s : State) (v : Nat) (x : Vol) : State := { s with vols := tset s.vols v x }
def State.modVol (s : State) (v : Nat) (f : Vol → Vol) : State := s.setVol v (f (s.vol v))
def State.vg (s : State) (v : Nat) (f : Fld) : Nat := s.g (volBase v) f
def State.tg (s : State) (t : Nat) (f : Fld) : Nat := s.g (tgtBase t) f
def State.v64 (s : State) (v : Nat) (lo hi : Fld) : Nat := s.vg v hi * 2 ^ 32 + s.vg v lo
def State.setV64 (s : State) (v : Nat) (lo hi : Fld) (x : Nat) : State := s.ps (volBase v) [(lo, x), (hi, x / 2 ^ 32)]

def State.volK (s : State) (v : Nat) : Nat := s.vg v R.COL_VOL_CFG_K
def State.volM (s : State) (v : Nat) : Nat := s.vg v R.COL_VOL_CFG_M
def State.volSt (s : State) (v : Nat) : Nat := s.vg v R.COL_VOL_CFG_STATE
/-- The shard size S and the data bytes of a stripe. -/
def State.shardLen (s : State) (v : Nat) : Nat := 4096 * 2 ^ s.vg v R.COL_VOL_CFG_SHIFT
def State.stripeLen (s : State) (v : Nat) : Nat := s.volK v * s.shardLen v
def State.volBaseA (s : State) (v : Nat) : Nat := s.v64 v R.COL_VOL_BASE_LO_BASE R.COL_VOL_BASE_HI_BASE
def State.volSize (s : State) (v : Nat) : Nat := s.v64 v R.COL_VOL_SIZE_LO_SIZE R.COL_VOL_SIZE_HI_SIZE
/-- The volume offset of COL_VOL_WPTR. -/
def State.volOff (s : State) (v : Nat) : Nat := s.v64 v R.COL_VOL_WPTR_LO_WPTR R.COL_VOL_WPTR_HI_WPTR - s.volBaseA v
def State.setOff (s : State) (v o : Nat) : State := s.setV64 v R.COL_VOL_WPTR_LO_WPTR R.COL_VOL_WPTR_HI_WPTR (s.volBaseA v + o)
/-- The next stripe to be written. -/
def State.nextStripe (s : State) (v : Nat) : Nat := s.volOff v / max 1 (s.stripeLen v)

/-- A byte field of an array of registers: the target of a slot or of a place of the spare list, 0xFF for none. -/
def byteFld (off n : Nat) : Fld := { off := off + n / 4 * 4, hi := 8 * (n % 4) + 7, lo := 8 * (n % 4), acc := .ro, rst := 0xFF, tmr := false }
def slotFld (j : Nat) : Fld := byteFld 0x140 j
def spareFld (n : Nat) : Fld := byteFld 0x174 n
def State.slotTgt (s : State) (v j : Nat) : Nat := s.vg v (slotFld j)
def State.spares (s : State) (v : Nat) : List Nat := ((List.range 8).map fun n => s.vg v (spareFld n)).filter (· != 0xFF)
def State.setSpares (s : State) (v : Nat) (l : List Nat) : State := upTo 8 (fun n s => s.p (volBase v) (spareFld n) ((l[n]?).getD 0xFF)) s

/-- The slot of a shard of a stripe. -/
def State.slotOf (s : State) (v stripe i : Nat) : Nat := (i + stripe) % max 1 (s.volK v + s.volM v)
/-- The shard that a slot holds of a stripe. -/
def State.shardAt (s : State) (v stripe j : Nat) : Nat :=
  let n := max 1 (s.volK v + s.volM v)
  (j + n - stripe % n) % n

def colCnt (d i : Nat) : Nat := colB d + R.COL_CNT_COUNT.off + 4 * i
def State.volCnt (s : State) (v i : Nat) (n : Nat := 1) : State := s.bump (colCnt (s.vol v).die i) n
def State.volEvt (s : State) (v t : Nat) (f : Fld) : State :=
  s.evt (colB (s.vol v).die) R.COL_EVT_E [f] [(R.COL_EVT_VOL, v), (R.COL_EVT_TGT, t)]

/-- Tracker entries that a die's Coil engine holds (R303): shard writes, READs and PROBEs that have gone out and have no first response. -/
def State.coilUsed (s : State) (d : Nat) : Nat :=
  (s.vols.filter fun e => e.2.bound.isSome && e.2.die == d).foldl (fun n e =>
    n + (e.2.stripes.map fun (x : Stripe) => (x.shards.filter fun h => h.st == ShardSt.sent && h.port != 64).length).foldl (· + ·) 0
      + (e.2.reads.map fun (r : CRead) => (r.parts.filter fun p => p.frags.isEmpty && p.port != 64).length).foldl (· + ·) 0 + e.2.probes.length) 0

/-- DPTR: the base of the oldest stripe not DURABLE on every slot, or of the next stripe to be written. -/
def State.syncDptr (s : State) (v : Nat) : State :=
  let n := match (s.vol v).stripes.find? fun x => !x.everDurable && !x.lost with
    | some x => x.s
    | none => s.nextStripe v
  s.setV64 v R.COL_VOL_DPTR_LO_DPTR R.COL_VOL_DPTR_HI_DPTR (s.volBaseA v + n * s.stripeLen v)

/-- The rebuild registers show the first job. -/
def State.syncRb (s : State) (v : Nat) : State :=
  let b := volBase v
  match (s.vol v).jobs with
  | j :: _ => (s.ps b [(R.COL_VOL_RB_ACTIVE, 1), (R.COL_VOL_RB_COPY, if j.old.isSome then 1 else 0), (R.COL_VOL_RB_TGT, j.tgt), (R.COL_VOL_RB_SLOT, j.slot)]).setV64 v
      R.COL_VOL_RBPTR_LO_STRIPE R.COL_VOL_RBPTR_HI_STRIPE ((j.todo.head?).getD (s.nextStripe v))
  | [] => s.ps b [(R.COL_VOL_RB_ACTIVE, 0), (R.COL_VOL_RB_COPY, 0), (R.COL_VOL_RB_TGT, 0xFF), (R.COL_VOL_RB_SLOT, 0)]

/-! ### Shard writes (R303) -/

/-- The ports of a volume, and the next one whose link is up from the round-robin place; none while the volume is FAILED, which issues no
shard writes (R310). -/
def State.volPorts (s : State) (v : Nat) : List (Nat × Nat) :=
  (List.range (s.vg v R.COL_VOL_CFG_PORTS)).map fun p => (s.g (volBase v + 4 * p) R.COL_VOL_PORT_DIE, s.g (volBase v + 4 * p) R.COL_VOL_PORT_MAC)
def State.volPort (s : State) (v : Nat) : Option (Nat × Nat × Nat) :=
  let ps := s.volPorts v
  let n := max 1 ps.length
  let order := (List.range ps.length).map fun i => ((s.vol v).rr + i) % n
  if s.volSt v = 4 then none
  else (order.find? fun i => match ps[i]? with | some (d, m) => s.ethUp d m | none => false).bind fun i => (ps[i]?).map fun (d, m) => (d, m, (i + 1) % n)

/-- The next XID of a target. -/
def State.nextXid (s : State) (t : Nat) : Nat × State :=
  let x := (s.tg t R.COL_TGT_XID_XID + 1) % 2 ^ 32
  (x, s.p (tgtBase t) R.COL_TGT_XID_XID x)

/-! ### Messages (R302) -/

/-- The IP address of a target. -/
def State.tgtIp (s : State) (t : Nat) : Nat :=
  let a (i : Nat) : Nat := s.g (tgtBase t + 4 * i) R.COL_TGT_DIP_DIP
  if s.tg t R.COL_TGT_CFG_IPV6 = 1 then a 0 + a 1 * 2 ^ 32 + a 2 * 2 ^ 64 + a 3 * 2 ^ 96 else a 0

/-- Send a request for a volume to a target from a port: its header, its current SESSION in it, and the data. -/
def State.coilSend (s : State) (d m v t type shard flags xid taddr off : Nat) (data : List Byte) : State :=
  s.sendUdp d m (s.tg t R.COL_TGT_CFG_IPV6 == 1) none (s.tg t R.COL_TGT_DMAC_HI_DMAC * 2 ^ 32 + s.tg t R.COL_TGT_DMAC_LO_DMAC) (s.tgtIp t)
    (s.srcPort d m (256 + v)) (s.tg t R.COL_TGT_CFG_DPORT)
    (coilHeader type (s.tg t R.COL_TGT_SESSION_SESSION) v shard 0 flags xid taddr off data.length ++ data)

/-- One of the ports of a volume whose link is up: the spec gives the order of ports for shard writes alone, so a READ or PROBE takes an open
one (log entry 233). -/
def State.anyPort (s : State) (v : Nat) : Option (Nat × Nat) × State :=
  let ups := (s.volPorts v).filter fun e => s.ethUp e.1 e.2
  let (x, s) := s.fresh
  (ups[x % max 1 ups.length]?, s)

/-- Probe a target; SHARD names its slot, or 0xFF for a spare. With no port up no probe goes out (log entry 233). -/
def State.sendProbe (s : State) (v t : Nat) : State :=
  match s.anyPort v with
  | (none, s) => s
  | (some (d, m), s) =>
    let (xid, s) := s.nextXid t
    let slot := if s.tg t R.COL_TGT_CFG_STATE = 1 then 0xFF else s.tg t R.COL_TGT_CFG_SLOT
    (s.coilSend d m v t 5 slot 0 xid 0 0 []).modVol v fun x => { x with probes := tset x.probes t (xid, 8 * d + m) }

/-- A target that is set up, freed or taken into a volume anew is no longer one that an ISOLATE reaction has taken out. -/
def State.tgtBack (s : State) (t : Nat) : State := { s with outUnits := s.outUnits.filter fun u => !(u.2.1 == 0x112 && u.2.2 == t) }

/-- Take a target that answered its probe into a volume, as a spare or in a slot, with a SESSION of its own and its capacity (R302, R313). -/
def State.takeTgt (s : State) (v t st slot mib : Nat) : State :=
  let (ses, s) := (s.tgtBack t).newSession (tgtBase t)
  let s := s.ps (tgtBase t) [(R.COL_TGT_CFG_STATE, st), (R.COL_TGT_CFG_SLOT, slot), (R.COL_TGT_CFG_VOL, v), (R.COL_TGT_SESSION_SESSION, ses),
    (R.COL_TGT_CAP_MIB, mib), (R.COL_TGT_MISS_MISS, 0)]
  (s.sendProbe v t).modVol v fun x => { x with probes := tdel x.probes t }

def State.modStripe (s : State) (v n : Nat) (f : Stripe → Stripe) : State :=
  s.modVol v fun x => { x with stripes := x.stripes.map fun t => if t.s = n then f t else t }
def State.stripe (s : State) (v n : Nat) : Option Stripe := (s.vol v).stripes.find? (·.s == n)

/-- The bytes of a shard of a stripe's data. -/
def State.shardData (s : State) (v : Nat) (data : List Byte) (i : Nat) : List Byte :=
  let k := s.volK v
  let n := s.shardLen v
  let parts := (List.range k).map fun j => bytesAt data (j * n) n
  if i < k then (parts[i]?).getD [] else combine n (codeRow k i) parts

/-- The fragments of a shard, n bytes each, with their offsets. -/
def fragments (n : Nat) (l : List Byte) : List (Nat × List Byte) :=
  (List.range ((l.length + n - 1) / n)).map fun i => (i * n, (l.drop (i * n)).take n)

/-- Write a shard to the target of its slot: the next XID of the target, on the next port whose link is up (R303); an absent slot
takes none. -/
def State.sendShard (s : State) (v n i tries : Nat) (data : List Byte) : State :=
  let t := s.slotTgt v (s.slotOf v n i)
  let put (h : Shard) (s : State) : State := s.modStripe v n fun x => { x with shards := (x.shards.filter (·.idx != i)) ++ [h] }
  if t = 0xFF then put { idx := i, tgt := 0xFF, xid := 0, st := .absent, tries := 0, port := 64 } s
  else
    let (xid, s) := s.nextXid t
    match s.volPort v with
    | none => put { idx := i, tgt := t, xid := xid, st := .sent, tries := tries, port := 64 } s
    | some (d, m, nx) =>
      let frs := fragments (max 1 (s.fragLen d m (s.tg t R.COL_TGT_CFG_IPV6 == 1))) data
      let flags (off len : Nat) : Nat := (if data.length ≤ off + len then 1 else 0) + if s.volK v ≤ i then 2 else 0
      let addr := n * s.shardLen v
      let s := each frs (fun e s => s.coilSend d m v t 1 i (flags e.1 e.2.length) xid addr e.1 e.2) (s.modVol v fun x => { x with rr := nx })
      (put { idx := i, tgt := t, xid := xid, st := .sent, tries := tries, port := 8 * d + m } s).volCnt v 4

/-- Whether the records that a stripe touches are all still in the holding store (R307). -/
def State.stripeHeld (s : State) (x : Stripe) : Bool := x.recs.all fun id => s.recs.any (·.id == id)

/-- Seal the open stripe (R301): its shard writes are issued in shard order; a stripe of an earlier pass of the ring goes. -/
def State.seal (s : State) (v : Nat) : State :=
  let x := s.vol v
  let len := s.stripeLen v
  let n := s.nextStripe v
  let n := if x.cur.length = len then n - 1 else n
  let data := bytesAt x.cur 0 len
  let s := s.setVol v { x with
    cur := [], curRecs := [], stripes := x.stripes.filter (·.s != n) ++ [{ s := n, data := data, shards := [], recs := x.curRecs }],
    jobs := x.jobs.map fun j => { j with todo := j.todo.filter (· != n) }, reads := x.reads.filter (·.stripe != n) }
  let s := (s.volCnt v 2).setOff v ((n + 1) * len)
  let s := if x.cur.length < len then s.volCnt v 3 else s
  (upTo (s.volK v + s.volM v) (fun i s => s.sendShard v n i 0 (s.shardData v data i)) s).syncDptr v

/-! ### Completion and acknowledgement (R305) -/

/-- Whether every shard of a stripe has answered, and whether every present slot is DURABLE. -/
def Stripe.answered (x : Stripe) : Bool := x.shards.all fun h => h.st != .sent
def Stripe.durable (x : Stripe) : Bool := x.shards.all fun h => h.st == .durable || h.st == .absent

/-- Whether all stripes that a record touches have a property; a record in the open stripe has not. -/
def Vol.touched (x : Vol) (id : Nat) (p : Stripe → Bool) : Bool :=
  !x.curRecs.contains id && x.stripes.any (fun t => t.recs.contains id) && x.stripes.all fun t => !t.recs.contains id || p t

/-- Complete records in order and apply the acknowledgement word that the durable ones allow. -/
def State.coilProgress (s : State) (v : Nat) : State :=
  let s := s.modVol v fun x => { x with stripes := x.stripes.map fun t => { t with everDurable := t.everDurable || t.durable } }
  match (s.vol v).bound with
  | none => s
  | some c =>
    let x := s.vol v
    let flying := (s.recsOf c).filter fun r => r.isIn c .inflight
    let now := flying.takeWhile fun r => (match r.mem? c with | some m => m.lastSent | none => false) && x.touched r.id Stripe.answered
    let s := each now (fun r s => (s.completeMem r.id c).volCnt v 0) s
    let open' := (s.recsOf c).filter fun r => match r.mem? c with | some m => m.st == .inflight || m.st == .done | none => false
    let safe := open'.takeWhile fun r => r.isIn c .done && x.touched r.id (·.everDurable)
    let s := match safe.getLast? with
      | none => s
      | some r => match r.mem? c with
        | none => s
        | some m => (s.ackWord (s.ctxDie c) (deliveredWord m)).volCnt v 1 safe.length
    ((s.sweep).syncDptr v)

/-! ### Placing records (R301) -/

/-- Put bytes at WPTR, sealing each stripe that becomes full; `id` is the record they belong to. -/
def State.placeBytes (s : State) (v id : Nat) (mark : Bool) (l : List Byte) : Nat → State
  | 0 => s
  | fuel + 1 =>
    if l.isEmpty then s
    else
      let x := s.vol v
      let part := l.take (s.stripeLen v - x.cur.length)
      let s := s.setVol v { x with cur := x.cur ++ part, curRecs := if mark && !x.curRecs.contains id then x.curRecs ++ [id] else x.curRecs }
      let s := s.setOff v (s.volOff v + part.length)
      let s := if (s.vol v).cur.length = s.stripeLen v then s.seal v else s
      s.placeBytes v id mark (l.drop part.length) fuel

/-- Where a record begins: at the next 64-byte boundary, or at BASE where it would run past the end of the volume, whose stripes from
the current one on are then sealed with zeros. -/
def State.placeStart (s : State) (v len : Nat) : State :=
  let pad := (64 - s.volOff v % 64) % 64
  if s.volOff v + pad + len ≤ s.volSize v then s.placeBytes v 0 false (List.replicate pad 0) 2
  else
    let left := (s.volSize v - s.volOff v + s.stripeLen v - 1) / max 1 (s.stripeLen v)
    (upTo left (fun _ s => s.seal v) s).setOff v 0

/-- The next burst of a record to a volume (R246, R301): `l` is the delivered record. -/
def State.coilBurst (s : State) (v id c burst : Nat) (l : List Byte) : State :=
  match (s.recs.find? (·.id == id)).bind (·.mem? c) with
  | none => s
  | some m =>
    let s := if m.sentBytes = 0 then s.placeStart v l.length else s
    let part := (l.drop m.sentBytes).take burst
    let s := s.modRec id fun r => r.modMem c fun m => { m with sentBytes := m.sentBytes + part.length, lastSent := decide (l.length ≤ m.sentBytes + part.length) }
    (s.placeBytes v id true part (part.length + 1)).coilProgress v

/-- STRIPE_SEAL_TIMEOUT (R301): a stripe with data and no record half placed in it is sealed (log entry 64). -/
def stripeSealTimeoutF (v : Nat) (s : State) : State :=
  let x := s.vol v
  let half := match x.bound with
    | some c => (s.recsOf c).any fun r => match r.mem? c with | some m => m.st == .inflight && decide (0 < m.sentBytes) && !m.lastSent | none => false
    | none => true
  if x.cur.isEmpty || half || s.volSt v = 4 then s else (s.seal v).coilProgress v

/-! ### Reconstruction (R307 to R311) -/

/-- A stripe is lost (R308). -/
def State.loseStripe (s : State) (v n : Nat) : State :=
  let s := s.modStripe v n fun x => { x with lost := true }
  let s := s.modVol v fun x => { x with lostCnt := x.lostCnt + 1 }
  let s := s.setV64 v R.COL_VOL_LOST_LO_ADDR R.COL_VOL_LOST_HI_ADDR (s.volBaseA v + n * s.stripeLen v)
  ((s.volEvt v 0xFF R.COL_EVT_STRIPE_LOST).volCnt v 9).raise (s.vol v).die 0x1203 v

/-- Send the READ of a shard of stripe n, with the next XID of its target; it waits where no port is up. -/
def State.sendRead (s : State) (v t n idx : Nat) : ReadPart × State :=
  let (xid, s) := s.nextXid t
  match s.anyPort v with
  | (none, s) => ({ tgt := t, xid := xid, idx := idx, port := 64 }, s)
  | (some (d, m), s) => ({ tgt := t, xid := xid, idx := idx, port := 8 * d + m }, s.coilSend d m v t 3 idx 0 xid (n * s.shardLen v) (s.shardLen v) [])

/-- Put out READs and hold them as those that give a shard. -/
def State.addRead (s : State) (v n i : Nat) (copy : Bool) (l : List (Nat × Nat)) : State :=
  let (parts, s) := l.foldl (fun (a : List ReadPart × State) e => ((a.1 ++ [(a.2.sendRead v e.1 n e.2).1]), (a.2.sendRead v e.1 n e.2).2)) ([], s)
  s.modVol v fun x => { x with reads := x.reads ++ [{ stripe := n, shard := i, parts := parts, copy := copy }] }

/-- Read k durable shards of a stripe to reconstruct one, or lose the stripe where fewer are left and its records are gone. -/
def State.startRecon (s : State) (v n i : Nat) : State :=
  match s.stripe v n with
  | none => s
  | some x =>
    if x.lost then s else
    let ok := x.shards.filter fun h => h.idx != i && h.st == .durable && s.slotTgt v (s.slotOf v n h.idx) == h.tgt
    let ok := ok.take (s.volK v)
    if ok.length < s.volK v then (if s.stripeHeld x then s.sendShard v n i 0 (s.shardData v x.data i) else s.loseStripe v n)
    else s.addRead v n i false (ok.map fun h => (h.tgt, h.idx))

/-- READs that wait for a port, or whose port has gone down, go out again on a port that is up (log entry 233). -/
def State.moveReads (s : State) (v port : Nat) : State :=
  each ((s.vol v).reads.filter fun r => r.parts.any fun p => p.port == port && (p.port == 64 || p.frags.isEmpty)) (fun r s =>
    if (s.volPort v).isNone then s
    else
      let s := s.modVol v fun x => { x with reads := x.reads.filter (· != r) }
      s.addRead v r.stripe r.shard r.copy (r.parts.map fun p => (p.tgt, p.idx))) s

/-- Issue a shard again after a failure (R307): built from held records, or reconstructed. -/
def State.reissue (s : State) (v n i : Nat) : State :=
  match s.stripe v n with
  | none => s
  | some x =>
    if s.slotTgt v (s.slotOf v n i) = 0xFF then s.sendShard v n i 0 []
    else if s.stripeHeld x then
      ((s.sendShard v n i 0 (s.shardData v x.data i)).volCnt v 6).volEvt v (s.slotTgt v (s.slotOf v n i)) R.COL_EVT_SHARD_REISSUE
    else
      let s := s.modStripe v n fun x => { x with shards := x.shards.map fun h => if h.idx = i then { h with st := .sent, tgt := 0xFF, xid := 0, port := 64 } else h }
      s.startRecon v n i

/-- The number of absent slots decides the state of a volume (R310). -/
def State.volState (s : State) (v : Nat) : State :=
  let x := s.vol v
  let old := s.volSt v
  if old < 2 then s
  else if s.volM v < x.absent.length then
    if old = 4 then s else (s.p (volBase v) R.COL_VOL_CFG_STATE 4).raise x.die 0x1204 v
  else s.p (volBase v) R.COL_VOL_CFG_STATE (if x.absent.isEmpty && x.jobs.all (·.old.isSome) then 2 else 3)

/-- A target takes a slot, with the stripes left to fill (R307, R310). -/
def State.fillSlot (s : State) (v j t : Nat) (todo : List Nat) : State :=
  let s := (s.p (volBase v) (slotFld j) t).ps (tgtBase t) [(R.COL_TGT_CFG_STATE, 4), (R.COL_TGT_CFG_SLOT, j)]
  s.modVol v fun x => { x with jobs := x.jobs ++ [{ slot := j, tgt := t, old := none, todo := todo }], absent := x.absent.filter (· != j) }

/-- A stripe whose shard has no target. -/
def Stripe.without (y : Stripe) (i : Nat) : Stripe :=
  { y with shards := y.shards.map fun h => if h.idx = i then { h with tgt := 0xFF, st := .absent } else h }

/-- A target is FREE again, unless it has failed (R311). -/
def State.freeTgt (s : State) (t : Nat) : State :=
  if s.tg t R.COL_TGT_CFG_STATE = 3 then s else s.ps (tgtBase t) [(R.COL_TGT_CFG_STATE, 0), (R.COL_TGT_CFG_SLOT, 0), (R.COL_TGT_CFG_VOL, 0)]

/-- The target that a replacement retires fails: what it does not deliver is reconstructed (R311). -/
def State.failRetired (s : State) (v t : Nat) : State :=
  let mine (r : CRead) : Bool := r.parts.any fun p => p.tgt == t
  let again := (s.vol v).reads.filter mine
  each again (fun r s => s.startRecon v r.stripe r.shard) (s.modVol v fun x => { x with reads := x.reads.filter fun r => !mine r })

/-- A target is declared failed (R306, R307, R310). -/
def State.failTarget (s : State) (t : Nat) : State :=
  let v := s.tg t R.COL_TGT_CFG_VOL
  let st := s.tg t R.COL_TGT_CFG_STATE
  if !(st = 1 || st = 2 || st = 4) then s
  else
    let s := (s.p (tgtBase t) R.COL_TGT_CFG_STATE 3).modVol v fun x => { x with probes := tdel x.probes t }
    let s := (s.volEvt v t R.COL_EVT_TGT_FAILED).raise (s.vol v).die 0x1201 t
    if st = 1 then s.setSpares v ((s.spares v).filter (· != t))
    else if s.slotTgt v (s.tg t R.COL_TGT_CFG_SLOT) != t then s.failRetired v t
    else
      let j := s.tg t R.COL_TGT_CFG_SLOT
      let x := s.vol v
      let bad (r : CRead) : Bool := r.parts.any (fun p => p.tgt == t) && !r.copy
      let restart := (x.reads.filter bad).map fun r => (r.stripe, r.shard)
      let s := each (x.jobs.filter (·.slot == j)) (fun k s => match k.old with | some o => s.freeTgt o | none => s) s
      let s := s.setVol v { x with
        jobs := x.jobs.filter (fun k => !(k.slot == j)), reads := x.reads.filter fun r => !bad r && s.shardAt v r.stripe j != r.shard }
      let notDur (y : Stripe) : Bool := !(y.shards.any fun h => h.idx == s.shardAt v y.s j && h.st == .durable)
      let before := (x.stripes.takeWhile fun y => !notDur y).map (·.s)
      let after := (x.stripes.dropWhile fun y => !notDur y).map (·.s)
      let s : State := match s.spares v with
        | sp :: rest => (s.setSpares v rest).fillSlot v j sp before
        | [] => ((s.p (volBase v) (slotFld j) 0xFF).modVol v fun x => { x with absent := x.absent ++ [j] }).raise (s.vol v).die 0x1202 v
      let s := (s.volState v).volEvt v t R.COL_EVT_DEGRADED
      let s : State := if s.volSt v = 4 then each after (fun n s => s.modStripe v n fun y => y.without (s.shardAt v n j)) s
        else each after (fun n s => s.reissue v n (s.shardAt v n j)) s
      let s := each (restart.filter fun e => s.shardAt v e.1 j != e.2) (fun e s => s.startRecon v e.1 e.2) s
      (s.syncRb v).coilProgress v

/-- A shard write is sent again to its target, or its target fails when the retries are gone (R306). -/
def State.retryShard (s : State) (v n : Nat) (h : Shard) : State :=
  if s.vg v R.COL_VOL_SEAL_RETRIES ≤ h.tries then s.failTarget h.tgt
  else match s.stripe v n with
  | none => s
  | some x =>
    let s := if s.stripeHeld x then s.sendShard v n h.idx (h.tries + 1) (s.shardData v x.data h.idx) else s.reissue v n h.idx
    (((s.volCnt v 5).volEvt v h.tgt R.COL_EVT_RETRY).raise (s.vol v).die 0x1200 v)

/-- Whether the UDP checksum of a message of a target is wrong (R274). -/
def State.coilSumBad (s : State) (v : Nat) (r : CoilRx) : Bool :=
  let v6 := s.tg r.tgt R.COL_TGT_CFG_IPV6 == 1
  udpBad v6 (s.macIp r.die r.mac v6) (s.srcPort r.die r.mac (256 + v)) r.udp

/-- Whether the header of a message names Coil, the volume, and its target's SESSION, and comes from the target's address (R302). -/
def State.coilNames (s : State) (v : Nat) (r : CoilRx) : Bool :=
  let u := r.udp
  32 ≤ u.bytes.length && leAt u.bytes 0 2 == 0x4C43 && leAt u.bytes 2 1 == 1 && leAt u.bytes 4 4 == s.tg r.tgt R.COL_TGT_SESSION_SESSION
    && leAt u.bytes 8 1 == v && u.sip == s.tgtIp r.tgt && u.sport == s.tg r.tgt R.COL_TGT_CFG_DPORT

/-- A message of a target reaches the volume's engine (R274, R302): its frame is counted, one with a wrong checksum is discarded, and one whose
header does not name the volume, the target's SESSION and address is ignored (log entry 234). `f` handles the rest. -/
def State.coilTake (s : State) (v : Nat) (r : CoilRx) (f : State → State) : State :=
  if !s.ethUp r.die r.mac then s
  else if s.coilSumBad v r then ethDiscardF r.die r.mac s
  else
    let s := s.bump (ethCnt r.die r.mac 1)
    if (s.vol v).bound.isNone then s else if s.coilNames v r then f s else s.volCnt v 8

/-- PROBE_RSP (R304, R306): the probe of that XID is answered. -/
def State.probeRsp (s : State) (v t xid status mib : Nat) : State :=
  if (tget (s.vol v).probes t).map (·.1) != some xid then s.volCnt v 8
  else
    let s := (s.modVol v fun x => { x with probes := tdel x.probes t }).p (tgtBase t) R.COL_TGT_MISS_MISS 0
    let s := s.p (tgtBase t) R.COL_TGT_CAP_MIB mib
    if status = 1 then s.failTarget t else s

/-- WRITE_RSP (R305, R306, R308): what it says of the shard whose current write has that XID. -/
def State.writeRsp (s : State) (v t xid status : Nat) : State :=
  let hit (h : Shard) : Bool := h.tgt == t && h.xid == xid && h.st != .absent
  match (s.vol v).stripes.find? fun y => y.shards.any hit with
  | none => s.volCnt v 8
  | some y =>
    match y.shards.find? hit with
    | none => s
    | some h =>
      let put (q : ShardSt) (s : State) : State :=
        s.modStripe v y.s fun y => { y with shards := y.shards.map fun g => if g.idx = h.idx then { g with st := q } else g }
      if status = 0 then (if h.st == .sent then (put .accepted s).coilProgress v else s)
      else if status = 1 then (put .durable s).coilProgress v
      else if status = 2 && h.st == .sent then s.retryShard v y.s h
      else if status = 3 || status = 4 then (put .sent s).failTarget t
      else s

/-- COIL_RESPONSE_RX (R305, R306, R308): a WRITE_RSP or a PROBE_RSP; another TYPE is ignored. -/
def coilResponseRxF (v : Nat) (r : CoilRx) (s : State) : State :=
  s.coilTake v r fun s =>
    let x (off n : Nat) : Nat := leAt r.udp.bytes off n
    if x 3 1 = 6 then s.probeRsp v r.tgt (x 12 4) (x 10 1) (x 24 4)
    else if x 3 1 = 2 then s.writeRsp v r.tgt (x 12 4) (x 10 1)
    else s.volCnt v 8

/-- SHARD_TIMEOUT (R306): no answer within CTO; a write or READ that found no port up is sent again without a retry. -/
def shardTimeoutF (v n i : Nat) (s : State) : State :=
  let s := s.moveReads v 64
  match (s.stripe v n).bind fun x => x.shards.find? (·.idx == i) with
  | some h =>
    if h.st != .sent || h.tgt = 0xFF then s
    else if h.port = 64 then (if (s.volPort v).isSome then (match s.stripe v n with
      | some x => s.sendShard v n i h.tries (s.shardData v x.data i)
      | none => s) else s)
    else s.retryShard v n h
  | none => s

/-- DURABLE_TIMEOUT (R306). -/
def durableTimeoutF (v n i : Nat) (s : State) : State :=
  match (s.stripe v n).bind fun x => x.shards.find? (·.idx == i) with
  | some h => if (h.st == .sent || h.st == .accepted) && h.tgt != 0xFF then s.failTarget h.tgt else s
  | none => s

/-- TARGET_PROBE (R306): the time of a probe; one that is unanswered counts as missed. -/
def targetProbeF (v t : Nat) (s : State) : State :=
  let st := s.tg t R.COL_TGT_CFG_STATE
  let x := s.vol v
  if x.bound.isNone || s.tg t R.COL_TGT_CFG_VOL != v || !(st = 1 || st = 2 || st = 4) then s
  else
    let missed := (tget x.probes t).isSome
    let s := if missed then (s.p (tgtBase t) R.COL_TGT_MISS_MISS (s.tg t R.COL_TGT_MISS_MISS + 1)).volCnt v 10 else s
    if missed && 3 ≤ s.tg t R.COL_TGT_MISS_MISS then s.failTarget t
    else s.sendProbe v t

/-- A port goes down (R303, R308): the shard writes on it move to the next port that is up, without a retry; READs follow, and a PROBE on it
counts as not sent (log entry 233). -/
def State.coilPortDown (s : State) (d m : Nat) : State :=
  each s.vols (fun e s => each e.2.stripes (fun x s => each x.shards (fun h s =>
    if h.st == .sent && h.tgt != 0xFF && h.port = 8 * d + m then s.sendShard e.1 x.s h.idx h.tries (s.shardData e.1 x.data h.idx) else s) s)
    ((s.modVol e.1 fun x => { x with probes := x.probes.filter fun q => q.2.2 != 8 * d + m }).moveReads e.1 (8 * d + m))) s

/-- ETH_LINK_DOWN with the Coil traffic of the port. -/
def ethLinkDownAllF (d m : Nat) (s : State) : State := if s.ethUp d m then (ethLinkDownF d m s).coilPortDown d m else s

/-! ### Background work (R309, R311) -/

/-- A job is done: its target serves its slot, and the volume returns to RUNNING unless another slot waits. -/
def State.jobDone (s : State) (v : Nat) (j : RbJob) : State :=
  let s := s.modVol v fun x => { x with jobs := x.jobs.drop 1 }
  let s := s.p (tgtBase j.tgt) R.COL_TGT_CFG_STATE 2
  let s := match j.old with
    | some t => s.freeTgt t
    | none => s.volEvt v j.tgt R.COL_EVT_REBUILD_DONE
  (s.volState v).syncRb v

/-- Whether a slot still has writes to answer below the live ones. -/
def State.slotBusy (s : State) (v j : Nat) : Bool :=
  (s.vol v).stripes.any (fun x => x.shards.any fun h => h.idx == s.shardAt v x.s j && h.st == .sent)
    || (s.vol v).reads.any fun r => s.shardAt v r.stripe j == r.shard

/-- REBUILD_STRIPE: the first rebuild takes its next stripe, or ends. -/
def rebuildStripeF (v : Nat) (s : State) : State :=
  match (s.vol v).jobs with
  | [] => s
  | j :: js =>
    if j.old.isSome then s
    else match j.todo with
    | [] => if s.slotBusy v j.slot then s else s.jobDone v j
    | n :: t =>
      let s := s.modVol v fun x => { x with jobs := { j with todo := t } :: js }
      ((s.startRecon v n (s.shardAt v n j.slot)).syncRb v)

/-- REPLACE_COPY_STRIPE: the first copy reads its next stripe from the old target, or ends. -/
def replaceCopyStripeF (v : Nat) (s : State) : State :=
  match (s.vol v).jobs with
  | [] => s
  | j :: js =>
    match j.old, j.todo with
    | none, _ => s
    | some _, [] => if s.slotBusy v j.slot then s else s.jobDone v j
    | some old, n :: t =>
      let s := s.modVol v fun x => { x with jobs := { j with todo := t } :: js }
      let i := s.shardAt v n j.slot
      (if s.tg old R.COL_TGT_CFG_STATE = 3 then s.startRecon v n i else s.addRead v n i true [(old, i)]).syncRb v

/-- The bytes that the fragments of a READ have brought, once they cover the n bytes of a shard. -/
def ReadPart.bytes (p : ReadPart) (n : Nat) : Option (List Byte) :=
  if (p.frags.map (·.2.length)).foldl (· + ·) 0 < n then none
  else some (p.frags.foldl (fun l e => overlay l e.1 e.2) (List.replicate n 0))

/-- READs that have all brought their shards give the shard that they are for: it is written to its slot's target. -/
def State.readDone (s : State) (v : Nat) (g : CRead) : State :=
  let n := s.shardLen v
  if g.parts.any fun p => (p.bytes n).isNone then s
  else
    let s := s.modVol v fun x => { x with reads := x.reads.filter (· != g) }
    let bytes := g.parts.map fun p => (p.bytes n).getD []
    let data := if g.copy then bytes.headD [] else combine n (decodeRow (s.volK v) g.shard (g.parts.map (·.idx))) bytes
    (s.sendShard v g.stripe g.shard 0 data).volCnt v 7 (if g.copy then 0 else 1)

/-- COIL_READ_DATA_RX (R304, R307, R311): a fragment of a reconstruction's or copy's READ; with the last one the shard is written to its slot's
target. A copy whose old target cannot deliver is reconstructed; another target that fails a READ is declared failed (log entry 234). -/
def coilReadDataRxF (v : Nat) (r : CoilRx) (s : State) : State :=
  s.coilTake v r fun s =>
    let x (off n : Nat) : Nat := leAt r.udp.bytes off n
    let data := (r.udp.bytes.drop 32).take (x 28 2)
    let mine (p : ReadPart) : Bool := p.tgt == r.tgt && p.xid == x 12 4 && (p.bytes (s.shardLen v)).isNone
    match (s.vol v).reads.find? fun g => g.parts.any mine with
    | none => s.volCnt v 8
    | some g =>
      if x 3 1 != 4 then s.volCnt v 8
      else if x 10 1 = 3 || x 10 1 = 4 then
        let s := s.modVol v fun x => { x with reads := x.reads.filter (· != g) }
        (if g.copy then s else s.failTarget r.tgt).startRecon v g.stripe g.shard
      else if x 10 1 != 0 || data.length != x 28 2 || s.shardLen v < x 24 4 + data.length then s.volCnt v 8
      else
        let g' := { g with parts := g.parts.map fun p => if mine p then { p with frags := p.frags.filter (·.1 != x 24 4) ++ [(x 24 4, data)] } else p }
        (s.modVol v fun x => { x with reads := x.reads.map fun h => if h = g then g' else h }).readDone v g'

/-! ### Commands (R313); COIL_VOL_SETUP stands in Admission.lean -/

def coilTargetSetB (w k : Nat) (s : State) : Rsp :=
  let t := s.cmdByte w k 8
  let st := s.tg t R.COL_TGT_CFG_STATE
  s.checked w k [(9, 1 < s.cmdByte w k 9)] <|
  if st = 1 || st = 2 || st = 4 then busy 2
  else
    let s1 := (s.tgtBack t).ps (tgtBase t) [(R.COL_TGT_CFG_VALID, 1), (R.COL_TGT_CFG_IPV6, s.cmdByte w k 9), (R.COL_TGT_CFG_STATE, 0), (R.COL_TGT_CFG_SLOT, 0),
      (R.COL_TGT_CFG_VOL, 0), (R.COL_TGT_CFG_DPORT, s.cp w k 10 2), (R.COL_TGT_DMAC_LO_DMAC, s.cp w k 12 4), (R.COL_TGT_DMAC_HI_DMAC, s.cp w k 16 2)]
    .ok (upTo 4 (fun i s => s.p (tgtBase t + 4 * i) R.COL_TGT_DIP_DIP (s.cp w k (24 + 4 * i) 4)) s1) []

/-- Return the registers of a bank to their reset values. -/
def State.clearBank (s : State) (b off n : Nat) : State := upTo n (fun i s => s.wr (b + off + 4 * i) (resetWord s.part (b + off + 4 * i))) s

def coilTargetFreeB (w k : Nat) (s : State) : Rsp :=
  let t := s.cmdByte w k 8
  let st := s.tg t R.COL_TGT_CFG_STATE
  s.checked w k [] <|
  if st = 1 || st = 2 || st = 4 then busy 2
  else .ok ((s.tgtBack t).clearBank (tgtBase t) 0x200 11) []

/-- Free the targets of a volume and its registers. -/
def State.volClear (s : State) (v : Nat) : State :=
  let mine := ((List.range 20).map fun j => s.slotTgt v j) ++ s.spares v ++ (s.vol v).jobs.filterMap (·.old)
  let s := each (mine.filter (· != 0xFF)) (fun t s => s.freeTgt t) s
  let s := s.clearBank (volBase v) 0x100 33
  { s with vols := tdel s.vols v }

def coilVolFreeB (w k : Nat) (s : State) : Rsp :=
  let v := s.cmdByte w k 8
  s.checked w k [(8, 15 < v)] <|
  if !s.dieUp (s.vol v).die then busy 5
  else if (s.vol v).bound.isSome then busy 1
  else .ok (s.volClear v) []

/-- Bytes of SIZE / k that a target must hold. -/
def State.perTarget (s : State) (v : Nat) : Nat := s.volSize v / max 1 (s.volK v)

/-- COIL_ADD_SPARE: `cap` is the capacity that the target's PROBE_RSP gave, none where it did not answer. -/
def coilAddSpareB (cap : Option Nat) (w k : Nat) (s : State) : Rsp :=
  let v := s.cmdByte w k 8
  let t := s.cmdByte w k 9
  let st := s.tg t R.COL_TGT_CFG_STATE
  s.checked w k [(8, 15 < v)] <|
  if s.vg v R.COL_VOL_CFG_VALID = 0 then bad 8
  else if s.tg t R.COL_TGT_CFG_VALID = 0 then bad 48
  else if !s.dieUp (s.vol v).die then busy 5
  else if st = 1 || st = 2 || st = 4 || 8 ≤ (s.spares v).length then busy 2
  else match cap with
  | none => busy 3
  | some mib =>
    if mib * 2 ^ 20 < s.perTarget v then bad 48
    else if (s.volPort v).isNone then busy 3
    else
      let s3 := s.takeTgt v t 1 0 mib
      match (s3.vol v).absent with
      | j :: _ => .ok (((s3.fillSlot v j t ((s3.vol v).stripes.map (·.s))).volState v).syncRb v) []
      | [] => .ok (s3.setSpares v (s3.spares v ++ [t])) []

def coilReplaceB (w k : Nat) (s : State) : Rsp :=
  let v := s.cmdByte w k 8
  let j := s.cmdByte w k 9
  let t := s.cmdByte w k 10
  s.checked w k [(8, 15 < v)] <|
  if s.vg v R.COL_VOL_CFG_VALID = 0 then bad 8
  else if s.volK v + s.volM v ≤ j then bad 9
  else if !(s.spares v).contains t then bad 10
  else if !s.dieUp (s.vol v).die then busy 5
  else if !(s.vol v).jobs.isEmpty || 3 ≤ s.volSt v || s.slotTgt v j = 0xFF then busy 4
  else
    let old := s.slotTgt v j
    let s1 := (s.setSpares v ((s.spares v).filter (· != t))).p (volBase v) (slotFld j) t
    let s2 := s1.ps (tgtBase t) [(R.COL_TGT_CFG_STATE, 4), (R.COL_TGT_CFG_SLOT, j)]
    let job : RbJob := { slot := j, tgt := t, old := some old, todo := (s.vol v).stripes.map (·.s) }
    .ok ((s2.modVol v fun x => { x with jobs := [job] }).syncRb v) []

def coilQueryB (w k : Nat) (s : State) : Rsp :=
  let v := s.cmdByte w k 8
  s.checked w k [(8, 15 < v)] <|
  if !s.dieUp (s.vol v).die then busy 5
  else .ok s (leBytes 1 (s.volSt v) ++ leBytes 1 (s.volK v) ++ leBytes 1 (s.volM v) ++ leBytes 8 (s.v64 v R.COL_VOL_WPTR_LO_WPTR R.COL_VOL_WPTR_HI_WPTR)
    ++ leBytes 8 (s.v64 v R.COL_VOL_DPTR_LO_DPTR R.COL_VOL_DPTR_HI_DPTR) ++ leBytes 1 (s.vg v R.COL_VOL_RB_SLOT) ++ leBytes 1 (s.vg v R.COL_VOL_RB_TGT)
    ++ leBytes 8 (s.v64 v R.COL_VOL_RBPTR_LO_STRIPE R.COL_VOL_RBPTR_HI_STRIPE) ++ leBytes 4 (s.vol v).lostCnt)

def coilTargetQueryB (w k : Nat) (s : State) : Rsp :=
  let t := s.cmdByte w k 8
  s.checked w k [] <|
  .ok s (leBytes 1 (s.tg t R.COL_TGT_CFG_STATE) ++ leBytes 1 (s.tg t R.COL_TGT_CFG_VOL) ++ leBytes 1 (s.tg t R.COL_TGT_CFG_SLOT)
    ++ leBytes 1 (s.tg t R.COL_TGT_MISS_MISS) ++ leBytes 4 (s.tg t R.COL_TGT_CAP_MIB))

end Sys2Proof.Machine
end

