-- ==== Sys2Proof/Machine/DeliverOps.lean ====
section
/-!
DEFINITION. The delivery schedulers: eligible contexts, grants of bursts, attempts and tracker entries (R246, R247, R270, R281).
-/
namespace Sys2Proof.Machine
open Sys2Proof

/-- The PATH code of a kind of path. -/
def pathCode : PathKind → Nat
  | .pcie => 0
  | .eth => 1
  | .coil => 2

/-- The die and the unit (engine, MAC, or 0 for the Coil engine) of a context's path, and its ring, flow or volume (R231). -/
def State.pathOf (s : State) (c : Nat) : Nat × Nat × Nat :=
  let id := s.cg c R.CSM_CTX_PATHID_PATH_ID
  if s.cg c R.CSM_CTX_CFG_PATH = 2 then ((s.vol (id % 256)).die, 0, id % 256) else (id / 65536 % 8, id / 256 % 256, id % 256)

/-- The ring number of a context on PCIe: engine and ring. -/
def State.ringOf (s : State) (c : Nat) : Nat := let p := s.pathOf c; 256 * p.2.1 + p.2.2

/-! ### Tracker entries (R270, R283, R303) -/

/-- Attempts that hold an entry at a scheduler. -/
def State.attemptsAt (s : State) (path die unit : Nat) : Nat :=
  (s.recs.map fun (r : Rec) => (r.members.filter fun m => m.st == RecSt.inflight && s.cg m.cons R.CSM_CTX_CFG_PATH == path
    && (s.pathOf m.cons).1 == die && (s.pathOf m.cons).2.1 == unit).length).foldl (· + ·) 0

/-- Descriptor reads in flight at an engine. -/
def State.descReads (s : State) (d e : Nat) : Nat := (s.rings.filter fun x => x.1 / 256 == 4 * d + e && x.2.req.isSome).length

/-- Entries held at each engine of a die with the engine's reserve. -/
def State.trkEngines (s : State) (d : Nat) : List (Nat × Nat) :=
  ((List.range 4).map fun e => (s.attemptsAt 0 d e + s.descReads d e, 256))
    ++ ((List.range 8).map fun m => (s.attemptsAt 1 d m, if s.gb (ethB d m) R.HDR_CTRL_EN then 128 else 0))
    ++ [(s.attemptsAt 2 d 0 + s.coilUsed d, if s.vols.any fun e => e.2.bound.isSome && e.2.die == d then 512 else 0)]

/-- Whether an engine of a die (0 to 3 DMA, 4 to 11 MAC, 12 Coil) finds an entry: in its reserve, or in the shared pool. -/
def State.trkFree (s : State) (d e : Nat) : Bool :=
  let l := s.trkEngines d
  let (n, r) := (l[e]?).getD (0, 0)
  let pool := 8192 - (l.map (·.2)).foldl (· + ·) 0
  decide (n < r) || decide ((l.map fun x => x.1 - x.2).foldl (· + ·) 0 < pool)

/-- Tracker entries in use on a die. -/
def State.trkUsed (s : State) (d : Nat) : Nat := ((s.trkEngines d).map (·.1)).foldl (· + ·) 0

/-- DMA_TRK shows the entries in use and the most ever in use. -/
def State.syncTrk (s : State) (d : Nat) : State :=
  let n := s.trkUsed d
  s.ps (dmaB d) [(R.DMA_TRK_USED, n), (R.DMA_TRK_MAX, max n (s.g (dmaB d) R.DMA_TRK_MAX))]

/-! ### Descriptor reads (R257, R260, R261) -/

/-- The number under which a ring's descriptor read waits for a tracker entry, beside the contexts. -/
def ringWait (r : Nat) : Nat := 4096 + r

/-- Put out a ring's next descriptor read, where one is due (R261); without a tracker entry it waits in order (R270). -/
def State.pumpRing (s : State) (d r : Nat) : State :=
  let q := s.nextRead d r
  let waiting := tgetD s.trkWait d []
  if !s.canFetch d r || (s.ring d r).req.isSome || (s.ring d r).waits || q.2 = 0 || waiting.contains (ringWait r) then s
  else if !s.trkFree d (r / 256) then { (s.dmaEvt d r R.DMA_EVT_TRK_WAIT) with trkWait := tset s.trkWait d (waiting ++ [ringWait r]) }
  else (((s.modRing d r fun x => { x with req := some q }).readReq d q.1 (32 * q.2)).tlps d 1 0).syncTrk d

/-- A descriptor that read with OWN clear is read again: after its interval, or on a doorbell (R261; log entry 225). -/
def State.rereadDesc (s : State) (d r : Nat) : State :=
  if (s.ring d r).waits && s.canFetch d r then ((s.modRing d r fun x => { x with waits := false }).bump (dmaCnt d 4)).pumpRing d r else s

/-- The effect of a doorbell write (R260, R261). -/
def doorbellApply (d r : Nat) (v : Word) (s : State) : State :=
  if s.doorbellBad d r (bits v 15 0) then s.dmaEvt d r R.DMA_EVT_DB_BAD
  else
    let s := s.postPI d r (bits v 15 0)
    if (s.ring d r).waits then s.rereadDesc d r else s.pumpRing d r

/-- DESCRIPTOR_FETCH: the descriptor read in flight completes. -/
def descriptorFetchF (d r : Nat) (ds : List Desc) (s : State) : State :=
  match (s.ring d r).req with
  | some q => (s.takeDescs d r q.2 ds).pumpRing d r
  | none => s

/-- OWN_CLEAR_REFETCH: the interval has run, and the read completes with the descriptors given. -/
def ownClearRefetchF (d r : Nat) (ds : List Desc) (s : State) : State :=
  if (s.ring d r).waits then descriptorFetchF d r ds (s.rereadDesc d r) else s

/-- Restart a ring: it fetches again from CI (R261, R269). -/
def State.restartFetch (s : State) (d r : Nat) : State := (s.restartRing d r).pumpRing d r

/-- The effect of a written DMA_RING_CTL word (R269). -/
def ringCtlApply (d r : Nat) (v : Word) (s : State) : State :=
  let s := if bits v 1 1 = 1 && (s.ringSt d r = 2 || s.ringSt d r = 3) then s.haltByHost d r else s
  if bits v 0 0 = 1 && s.ringSt d r = 4 && s.busUp d then s.restartFetch d r else s

/-- DMA_RING_RESTART: the ring runs as soon as it leaves HALTED (log entry 225). -/
def dmaRingRestartB (w k : Nat) (s : State) : Rsp :=
  let (d, r) := s.ringArg w k
  s.checked w k (s.ringChecks w k) <|
  if !s.dieUp d then busy 5
  else if !s.busUp d then busy 2
  else if s.ringSt d r != 4 then busy 3
  else .ok (s.restartFetch d r) []

/-! ### Eligibility (R246) -/

/-- Whether a path can carry a burst now. -/
def State.pathOpen (s : State) (c : Nat) : Bool :=
  let (d, u, n) := s.pathOf c
  let path := s.cg c R.CSM_CTX_CFG_PATH
  if path = 0 then (s.ringSt d (s.ringOf c) == 2 || (s.ring d (s.ringOf c)).cur.isSome) && s.busUp d
  else if path = 1 then s.flowSt d u n == 2 && s.ethUp d u
  else (s.volSt n == 2 || s.volSt n == 3) && !s.unitOut d 0x12 n

/-- The record whose next burst a context may be granted, and whether the burst begins an attempt. -/
def State.nextBurst (s : State) (c window : Nat) : Option (Rec × Bool) :=
  let rs := s.recsOf c
  let st (r : Rec) : Option MemRec := if r.isOpen then none else r.mem? c
  match rs.find? fun r => match st r with | some m => m.st == .inflight && !m.lastSent | none => false with
  | some r => some (r, false)
  | none =>
    let used := (rs.filter fun r => match st r with | some m => m.st == .inflight || m.st == .done | none => false).length
    let rest := rs.dropWhile fun r => match st r with | some m => m.st != .ready | none => false
    match rest with
    | r :: _ => if !r.isOpen && used < window then some (r, true) else none
    | [] => none

def State.waitsTrk (s : State) (c : Nat) : Bool := s.trkWait.any fun e => e.2.contains c

def State.eligible (s : State) (c : Nat) : Bool :=
  !s.halted && s.cbound c && s.dieUp (s.ctxDie c) && s.dieUp (s.pathOf c).1 && s.pathOpen c && !s.waitsTrk c
    && (s.nextBurst c (s.cg c R.CSM_CTX_WIN_WINDOW)).isSome

/-! ### Grants -/

/-- One burst of a record over the context's path. -/
def State.sendBurst (s : State) (c id burst : Nat) : State :=
  match s.recs.find? (·.id == id) with
  | none => s
  | some r => match r.mem? c with
    | none => s
    | some m =>
      let (d, u, n) := s.pathOf c
      let l := delivered r m
      let path := s.cg c R.CSM_CTX_CFG_PATH
      if path = 0 then s.ringBurst d (s.ringOf c) id c burst l
      else if path = 1 then s.flowBurst d u n id c burst l
      else s.coilBurst n id c burst l

/-- Begin an attempt: an owed GAP_BEFORE is latched (R243), a descriptor is taken on PCIe (R262), the attempt number advances on
Ethernet (R277), and the record is INFLIGHT. -/
def State.beginAttempt (s : State) (c id : Nat) : State :=
  let owed := (s.ctx c).gapOwed
  let s := (s.modRec id fun r => r.modMem c fun m => { m with gap := m.gap || owed, sentBytes := 0, lastSent := false }).modCtx c fun x => { x with gapOwed := false }
  match s.recs.find? (·.id == id) with
  | none => s
  | some r => match r.mem? c with
    | none => s
    | some m =>
      let (d, u, n) := s.pathOf c
      let path := s.cg c R.CSM_CTX_CFG_PATH
      let fly (s : State) (a : Nat) : State := s.modRec id fun r => r.modMem c fun m => { m with st := .inflight, attempt := a }
      if path = 0 then
        let s := s.takeBuffer d (s.ringOf c) (64 + r.payload.length) (deliveredWord m) (deliveredFlags r m) 65536
        if (s.ring d (s.ringOf c)).cur.isSome then fly s 0 else s
      else if path = 1 then
        let s := s.flowAttempt d u n
        fly s (s.fg d u n R.ETH_FLOW_ATTEMPT_ATTEMPT)
      else fly s 0

/-- Grant a burst to a context: it begins an attempt where a tracker entry is free, and waits in order for one where none is (R270). -/
def State.grant (s : State) (c window burst : Nat) (engine : Nat) : State :=
  match s.nextBurst c window with
  | none => s
  | some (r, first) =>
    let d := (s.pathOf c).1
    if !first then (s.sendBurst c r.id burst).syncTrk d
    else if !s.trkFree d engine then
      (s.dmaEvt d (if engine < 4 then s.ringOf c else 0) R.DMA_EVT_TRK_WAIT) |> fun s => { s with trkWait := tset s.trkWait d (tgetD s.trkWait d [] ++ [c]) }
    else
      let s := (s.beginAttempt c r.id).syncTrk d
      let s := if engine < 4 then s.pumpRing d (s.ringOf c) else s
      if (s.nextBurst c (window + 1)).any fun e => e.1.id == r.id && !e.2 then (s.sendBurst c r.id burst).syncTrk d else s

/-- The engine number of a scheduler within its die. -/
def engineNo (path unit : Nat) : Nat := if path = 0 then unit else if path = 1 then 4 + unit else 12

def State.burstOf (s : State) (c : Nat) : Nat := 4096 * 2 ^ s.cg c R.CSM_CTX_WIN_BURST

/-- SCHEDULER_GRANT (R246): strict priority, then round robin in consumer order after the context granted last. -/
def schedulerGrantF (path : PathKind) (d u : Nat) (s : State) : State :=
  let p := pathCode path
  let key := p * 1024 + d * 16 + u
  let mine := (s.ctxs.map (·.1)).filter fun c => s.cg c R.CSM_CTX_CFG_PATH == p && (s.pathOf c).1 == d && (s.pathOf c).2.1 == u && s.eligible c
  match (mine.map fun c => s.cg c R.CSM_CTX_CFG_PRIO).min? with
  | none => s
  | some top =>
    let level := mine.filter fun c => s.cg c R.CSM_CTX_CFG_PRIO == top
    let last := tget s.lastGrant key
    let after := level.filter fun c => match last with | some l => l < c | none => true
    match (if after.isEmpty then level else after) with
    | [] => s
    | c :: _ => { s with lastGrant := tset s.lastGrant key c }.grant c (s.cg c R.CSM_CTX_WIN_WINDOW) (s.burstOf c) (engineNo p u)

/-- TRACKER_ENTRY_GRANT (R270): the first request that waits on a die receives an entry, if one is free, and proceeds. -/
def trackerEntryGrantF (d : Nat) (s : State) : State :=
  match tgetD s.trkWait d [] with
  | [] => s
  | c :: t =>
    let e := engineNo (s.cg c R.CSM_CTX_CFG_PATH) (s.pathOf c).2.1
    if 4096 ≤ c then
      if s.trkFree d ((c - 4096) / 256) then ({ s with trkWait := tset s.trkWait d t } : State).pumpRing d (c - 4096) else s
    else if !s.cbound c then { s with trkWait := tset s.trkWait d t }
    else if !s.trkFree d e then s
    else
      let s := { s with trkWait := tset s.trkWait d t }
      if s.eligible c then s.grant c (s.cg c R.CSM_CTX_WIN_WINDOW) (s.burstOf c) e else s

/-- STALLED_RESEND (R281): a stalled flow, with a window of 1, sends its oldest READY record again. -/
def stalledResendF (d m f : Nat) (s : State) : State :=
  let c := s.fg d m f R.ETH_FLOW_CFG_CONS
  if s.halted || s.flowSt d m f != 3 || !s.ethUp d m then s
  else
    let doneOnly := !(s.recsOf c).any fun r => r.isIn c .inflight
    match s.nextBurst c 8192 with
    | some (r, true) => if doneOnly then s.grant c 8192 (64 + r.payload.length) (engineNo 1 m) else s
    | _ => s

end Sys2Proof.Machine
end

