-- ==== Sys2Proof/Machine/SpliceOps.lean ====
section
/-!
DEFINITION. The splice engine: registration, seams, hand-off packets, closing of spliced lines and composed frames, staged sets and the
splice commands (R212 to R229).
-/
namespace Sys2Proof.Machine
open Sys2Proof

def State.grp (s : State) (g : Nat) : Grp := tgetD s.grps g {}
def State.setGrp (s : State) (g : Nat) (x : Grp) : State := { s with grps := tset s.grps g x }
def State.modGrp (s : State) (g : Nat) (f : Grp → Grp) : State := s.setGrp g (f (s.grp g))

/-- Registers of a group and of a channel's member context. -/
def grpB (g : Nat) : Nat := splB (g / 8) + 0x40 * (g % 8)
def memB (ch : Nat) : Nat := splB (ch / 24) + 0x40 * (ch % 24)
def splCnt (d i : Nat) : Nat := splB d + R.SPL_CNT_COUNT.off + 4 * i
def State.splEvt (s : State) (d g : Nat) (f : Fld) : State := s.evt (splB d) R.SPL_EVT_E [f] [(R.SPL_EVT_GROUP, g)]

/-- The group that a channel is a member of. -/
def State.memberOf (s : State) (ch : Nat) : Option Nat :=
  if s.gb (memB ch) R.SPL_MEM_CFG_VALID then some (s.g (memB ch) R.SPL_MEM_CFG_GROUP) else none

/-- The flags of R6 that a member line gives to a spliced line (R221). -/
def splKeep (f : Nat) : Nat := f &&& (2 ^ flCRC + 2 ^ flHDRFIX + 2 ^ flMALF + 2 ^ flLATE + 2 ^ flCOARSE + 2 ^ flSPARED)

/-! ### Geometry (R214, R216, R217) -/

/-- First and last output column that a member covers. -/
def SplMem.lo (m : SplMem) : Int := max 0 (-((-m.x0) / 256))
def SplMem.hi (m : SplMem) (wo : Nat) : Int := min ((wo : Int) - 1) ((((m.w : Int) - 1) * 256 + m.x0) / 256)

def SplCfg.mem (c : SplCfg) (i : Nat) : Option SplMem := c.mems[i]?

/-- The columns that a member covers; an empty range has its first column beyond its last. -/
def SplMem.cover (c : SplCfg) (m : SplMem) : Int × Int := (m.lo, m.hi c.width)
def nonEmpty (r : Int × Int) : Bool := decide (r.1 ≤ r.2)
def SplCfg.coverOf (c : SplCfg) (i : Nat) : Int × Int :=
  match c.mem i with
  | some m => m.cover c
  | none => (0, -1)

/-- Ranges of columns without those of another range. -/
def minus (l : List (Int × Int)) (r : Int × Int) : List (Int × Int) :=
  if nonEmpty r then ((l.map fun e => [(e.1, min e.2 (r.1 - 1)), (max e.1 (r.2 + 1), e.2)]).flatten).filter nonEmpty else l.filter nonEmpty

/-- The overlap of seam i, and the exclusive columns of member i in ranges, ascending (R216, R217). -/
def SplCfg.seam (c : SplCfg) (i : Nat) : Int × Int :=
  (max (c.coverOf i).1 (c.coverOf (i + 1)).1, min (c.coverOf i).2 (c.coverOf (i + 1)).2)
def SplCfg.excl (c : SplCfg) (i : Nat) : List (Int × Int) :=
  minus (minus [c.coverOf i] (if i = 0 then (0, -1) else c.coverOf (i - 1))) (c.coverOf (i + 1))

/-- The registered value of a member at output column u from its down-web line (R214). -/
def SplMem.regValue (m : SplMem) (dn : List Nat) (u : Int) : Nat :=
  let q := (u * 256 - m.x0).toNat
  let i := q / 256
  let f := q % 256
  let a := dn.getD i 0
  let b := if i + 1 < m.w then dn.getD (i + 1) 0 else a
  ((256 - f) * a + f * b + 128) / 256

/-- The registered values of a range of columns, plane by plane. -/
def SplMem.regRange (m : SplMem) (dn : List (List Nat)) (r : Int × Int) : List (List Nat) :=
  dn.map fun p => (List.range (r.2 + 1 - r.1).toNat).map fun k => m.regValue p (r.1 + k)

/-- The blend of a seam's two bursts (R216). -/
def SplMem.blend (m : SplMem) (a : Int) (l r : List (List Nat)) : List (List Nat) :=
  (l.zip r).map fun (x, y) => ((x.zip y).zipIdx).map fun (e, k) =>
    let u := (a + k).toNat
    if u < m.ra then e.1
    else if m.rn = 0 || m.ra + m.rn ≤ u then e.2
    else
      let w := (2 * (u - m.ra) + 1) * m.binv / 2 ^ 17
      ((256 - w) * e.1 + w * e.2 + 128) / 256

/-- A range of columns filled with SPL_GRP_FILL. -/
def State.fillRange (s : State) (g planes : Nat) (r : Int × Int) : List (List Nat) :=
  List.replicate planes (List.replicate (r.2 + 1 - r.1).toNat (s.g (grpB g) R.SPL_GRP_FILL_FILL))

/-! ### Open units -/

def State.modUnit (s : State) (g : Nat) (t : Tag) (f : OpenUnit → OpenUnit) : State :=
  s.modGrp g fun x => { x with opened := x.opened.map fun u => if u.tag.frame = t.frame ∧ u.tag.line = t.line then f u else u }
def State.unit (s : State) (g frame line : Nat) : Option OpenUnit :=
  (s.grp g).opened.find? fun u => u.tag.frame == frame && u.tag.line == line

/-- Whether the unit of a frame and line has closed. -/
def Grp.closed (x : Grp) (frame line : Nat) : Bool :=
  match x.last with
  | some (f, l) => if f = frame then decide (line ≤ l) else frameFrom f frame
  | none => false

/-- A part that arrives after its unit has closed (R221). -/
def State.latePart (s : State) (g : Nat) : State := (s.bump (splCnt (g / 8) 5)).splEvt (g / 8) g R.SPL_EVT_LATE_PART

/-- What a hand-off packet says (R218), its values plane by plane in pixel order. -/
structure Handoff where
  kind   : Nat
  group  : Nat
  seam   : Nat
  frame  : Nat
  line   : Nat
  first  : Nat
  flags  : Nat
  planes : List (List Nat)

/-- The bytes of a packet: the 32-byte header, then values of 20 bits pixel by pixel, padded to a multiple of 64 bytes; the CRC covers header bytes 0
to 27 and the values with their padding (log entry 221). -/
def Handoff.bytes (p : Handoff) : List Byte :=
  let n := (p.planes.headD []).length
  let head := leBytes 2 p.kind ++ leBytes 1 p.group ++ leBytes 1 p.seam ++ leBytes 4 p.frame ++ leBytes 3 p.line ++ leBytes 1 p.planes.length
    ++ leBytes 4 p.first ++ leBytes 4 n ++ leBytes 4 p.flags ++ leBytes 4 0
  let body := packBits 20 ((List.range n).map fun i => p.planes.map fun v => v.getD i 0).flatten 0 0
  let body := body ++ List.replicate ((64 - body.length % 64) % 64) 0
  head ++ leBytes 4 (crc32c (head ++ body)) ++ body

/-- n values of 20 bits from bytes. -/
def unpack20 : Nat → List Byte → List Nat
  | 0, _ => []
  | 1, l => [ofLe (l.take 3) % 2 ^ 20]
  | n + 2, l => let v := ofLe (l.take 5); v % 2 ^ 20 :: v / 2 ^ 20 :: unpack20 n (l.drop 5)

/-- A packet from its bytes; none where its CRC does not match or its length is not that of its header. -/
def Handoff.ofBytes (l : List Byte) : Option Handoff :=
  let q := leAt l 11 1
  let n := leAt l 16 4
  if l.length = 32 + (n * q * 20 + 511) / 512 * 64 && leAt l 28 4 == crc32c (l.take 28 ++ l.drop 32) then
    let v := unpack20 (n * q) (l.drop 32)
    some { kind := leAt l 0 2, group := leAt l 2 1, seam := leAt l 3 1, frame := leAt l 4 4, line := leAt l 8 3, first := leAt l 12 4, flags := leAt l 20 4,
           planes := (List.range q).map fun j => (List.range n).map fun i => v.getD (i * q + j) 0 }
  else none

/-- Put a hand-off packet on the fabric between two dies that are up (R218). -/
def State.sendPkt (s : State) (src dst : Nat) (p : Handoff) : State :=
  if s.dieUp src && s.dieUp dst then { s with handoffs := s.handoffs ++ [(dst, src, p.group, p.bytes)] } else s

def packet (kind g seam : Nat) (t : Tag) (line first flags : Nat) (v : List (List Nat)) : Handoff :=
  { kind := kind, group := g, seam := seam, frame := t.frame, line := line, first := first, flags := flags, planes := v }

/-- Flags of a packet: those of the lines used, with HALF_FILLED where a fill or a partner's value was used (log entry 70). -/
def partFlags (fl : Nat) (half : Bool) : Nat := if half then setb fl flHALF else fl

/-- A part reaches the home die. -/
def State.homePart (s : State) (g : Nat) (t : Tag) (row layer first flags : Nat) (v : List (List Nat)) : State :=
  s.modUnit g t fun u => { u with
    parts := u.parts ++ [(row, layer, first, v)], flags := u.flags ||| splKeep flags, half := u.half || tbit flags flHALF }

/-- Keys of a unit's parts: 8 i + j for range j of the exclusive columns of member i, 8 i + 7 for seam i. -/
def exclKey (i j : Nat) : Nat := 8 * i + j
def seamKey (i : Nat) : Nat := 8 * i + 7

/-- The parts of a die's span with their columns, ascending: the exclusive columns of its members, and the seams with both members there. -/
def SplCfg.spanParts (c : SplCfg) (d : Nat) : List (Nat × Int × Int) :=
  let here (j : Nat) : Bool := match c.mem j with | some m => m.ch / 24 == d | none => false
  let l := ((List.range c.mems.length).map fun i =>
    (if here i then (c.excl i).zipIdx.map fun e => (exclKey i e.2, e.1.1, e.1.2) else [])
      ++ (if here i && here (i + 1) && nonEmpty (c.seam i) then [(seamKey i, (c.seam i).1, (c.seam i).2)] else [])).flatten
  l.mergeSort fun a b => a.2.1 ≤ b.2.1

/-- Join parts that lie side by side, given in rising order of columns. -/
def joinParts : List (Nat × List (List Nat)) → List (Nat × List (List Nat))
  | [] => []
  | (f, v) :: t =>
    match joinParts t with
    | (f', v') :: r => if f + (v.headD []).length = f' then (f, (v.zip v').map fun e => e.1 ++ e.2) :: r else (f, v) :: (f', v') :: r
    | [] => [(f, v)]

/-- A part computed on a die goes to the home die: placed there at once, sent as a packet of its own (a seam between dies), or gathered
into the die's span (R217). -/
def State.sendPart (s : State) (g : Nat) (u : OpenUnit) (d key first flags : Nat) (v : List (List Nat)) : State :=
  let home := g / 8
  if !s.dieUp d then s
  else if d = home then s.homePart g u.tag 0 0 first flags v
  else if !((u.cfg.spanParts d).any (·.1 == key)) then s.sendPkt d home (packet 1 g 0 u.tag u.tag.line first flags v)
  else
    let s := s.modUnit g u.tag fun u => { u with gather := u.gather ++ [(d, key, flags, first, v)] }
    match s.unit g u.tag.frame u.tag.line with
    | none => s
    | some u =>
      let mine := u.gather.filter (·.1 == d)
      if !(u.cfg.spanParts d).all fun k => mine.any (·.2.1 == k.1) then s
      else
        let sorted := ((u.cfg.spanParts d).map fun k => (mine.filter (·.2.1 == k.1)).map (·.2.2.2)).flatten
        let fl := (mine.map (·.2.2.1)).foldl (· ||| ·) 0
        let s := s.modUnit g u.tag fun u => { u with gather := u.gather.filter (·.1 != d) }
        each (joinParts sorted) (fun e s => s.sendPkt d home (packet 1 g 0 u.tag u.tag.line e.1 fl e.2)) s

/-- Values whose first word was uncorrectable (R228; log entry 95). -/
def zeroFirst (v : List (List Nat)) : List (List Nat) := v.map fun x => List.replicate (min 4 x.length) 0 ++ x.drop 4

/-- The error that an injection makes the next read of a die's history or pairing store find (R228, R332): 0 none, 1 corrected, 2 uncorrectable. -/
def State.splStore (s : State) (d g : Nat) : Nat × State :=
  let (w, s) := s.takeInj d [0x1703, 0x1704] (g % 8)
  (w, if w = 1 then s.raise d 0x1703 (g % 8) else if w = 2 then s.raise d 0x1704 (g % 8) else s)

/-- Blend a seam on the die of its left member with the bursts that its pairing store holds (R216, R220, R228). -/
def State.pairSeam (s : State) (g : Nat) (u : OpenUnit) (i : Nat) : State :=
  match u.cfg.mem i with
  | none => s
  | some m =>
    let r := u.cfg.seam i
    let s := s.modUnit g u.tag fun u => { u with paired := u.paired ++ [i] }
    let mine := u.bursts.filter (·.1 == i)
    let (w, s) := if mine.isEmpty then (0, s) else s.splStore (m.ch / 24) g
    let mine := match mine with
      | e :: t => (if w = 2 then (e.1, e.2.1, setb e.2.2.1 flCRC, zeroFirst e.2.2.2) else e) :: t
      | [] => []
    let b (side : Nat) := mine.find? fun e => e.2.1 == side
    let go (v : List (List Nat)) (fl : Nat) (half : Bool) : State := s.sendPart g u (m.ch / 24) (seamKey i) r.1.toNat (partFlags fl half) v
    match b 0, b 1 with
    | some x, some y => go (m.blend r.1 x.2.2.2 y.2.2.2) (x.2.2.1 ||| y.2.2.1) false
    | some x, none => go x.2.2.2 x.2.2.1 true
    | none, some y => go y.2.2.2 y.2.2.1 true
    | none, none => go (s.fillRange g u.cfg.planes r) 0 true

/-- A burst reaches the die of the seam's left member; the second one pairs them. -/
def State.burstIn (s : State) (g : Nat) (t : Tag) (i side flags : Nat) (v : List (List Nat)) : State :=
  match s.unit g t.frame t.line with
  | none => if (s.grp g).closed t.frame t.line then s.latePart g else s
  | some u =>
    if u.paired.contains i then s.latePart g
    else
      let s := s.modUnit g t fun u => { u with bursts := u.bursts ++ [(i, side, flags, v)] }
      match s.unit g t.frame t.line with
      | some u => if (u.bursts.filter (·.1 == i)).length = 2 then s.pairSeam g u i else s
      | none => s

/-! ### Closing (R219 to R225) -/

/-- Column ranges that a spliced line needs. -/
def SplCfg.ranges (c : SplCfg) : List (Int × Int) :=
  (((List.range c.mems.length).map fun i => c.excl i ++ [c.seam i]).flatten).filter nonEmpty

/-- Whether a part covers a range of columns. -/
def covered (parts : List (Nat × Nat × Nat × List (List Nat))) (r : Int × Int) : Bool :=
  parts.any fun p => decide ((p.2.2.1 : Int) ≤ r.1 ∧ r.2 < (p.2.2.1 : Int) + (p.2.2.2.headD []).length)

/-- Owned rows of a composed layer, with the first owned column of each piece. -/
def SplCfg.pieces (c : SplCfg) (layer : Nat) : List (Nat × Nat) :=
  ((c.mems.filter (·.layer == layer)).map fun m => (List.range (m.oy1 + 1 - m.oy0)).map fun r => (m.oy0 + r, m.ox0)).flatten

def OpenUnit.layerFull (u : OpenUnit) (l : Nat) : Bool :=
  (u.cfg.pieces l).all fun e => u.parts.any fun p => p.1 == e.1 && p.2.1 == l && p.2.2.1 == e.2

def OpenUnit.full (u : OpenUnit) : Bool :=
  if u.cfg.compose then (List.range u.cfg.layers).all u.layerFull else u.cfg.ranges.all (covered u.parts)

/-- The source's offer of a unit. -/
def splOffer (g : Nat) (u : OpenUnit) (flags : Nat) : Offer :=
  let dt := match u.cfg.mems.head? with | some m => m.dt | none => 0
  { kind := 7, id := 0x100 + g, die := g / 8, chNo := 0x100 + g, vc := 0, dt := dt, lineNo := if u.cfg.compose then 0 else u.tag.line, no := if u.cfg.compose then u.tag.frame else u.tag.line,
    tag := u.tag, flags := flags }

/-- A value of the absent pattern (R224). -/
def State.absent (s : State) (g pat u r : Nat) : Nat :=
  if pat = 1 && (u / 16 + r / 16) % 2 == 1 then s.g (grpB g) R.SPL_GRP_ABSB_ABS_B else s.g (grpB g) R.SPL_GRP_ABSA_ABS_A

/-- A row of planes with pieces laid over it. -/
def layOver (base : List (List Nat)) (ps : List (Nat × List (List Nat))) : List (List Nat) :=
  ps.foldl (fun b p => (b.zip p.2).map fun e => (e.1.take p.1 ++ e.2 ++ e.1.drop (p.1 + e.2.length)).take e.1.length) base

/-- A composed row of a layer. -/
def State.composedRow (s : State) (g : Nat) (u : OpenUnit) (layer row : Nat) : List (List Nat) :=
  layOver (List.replicate u.cfg.planes ((List.range u.cfg.width).map fun c => s.absent g u.cfg.pat c row))
    ((u.parts.filter fun p => p.1 == row && p.2.1 == layer).map (·.2.2))

/-- Close the first open unit of a group. -/
def State.closeSpl (s : State) (g : Nat) (u : OpenUnit) : State :=
  let d := g / 8
  let short := !u.full
  let fl := splKeep u.flags
  let fl := if u.tag.coarse then setb fl flCOARSE else fl
  let s := s.modGrp g fun x => { x with opened := x.opened.drop 1, last := some (u.tag.frame, u.tag.line) }
  let s := { s with live := tset (tset s.live (grpB g + R.SPL_GRP_FRAME_FRAME.off) u.tag.frame) (grpB g + R.SPL_GRP_LINE_LINE.off) u.tag.line }
  let close (fl : Nat) (pay : Nat → List Byte) (s : State) : State :=
    each (s.sharesOn 7 (0x100 + g)) (fun sh s =>
      match s.openOf sh u.tag, (s.shareMembers sh).head? with
      | some r, some c => s.closeRec r.id fl (pay c)
      | _, _ => s) s
  if u.cfg.compose then
    let fl := if short then setb fl flABSENT else fl
    let s := s.bump (splCnt d 1)
    let s := if short then ((s.bump (splCnt d 3)).splEvt d g R.SPL_EVT_LAYER_ABSENT).raise d 0x1701 (g % 8) else s
    close fl (fun c =>
      let dt := (splOffer g u 0).dt
      (((List.range u.cfg.layers).filter fun l => tbit (s.cg c R.CSM_CTX_SRC_LAYERS) l).map fun l =>
        ((List.range (s.cg c R.CSM_CTX_V_V1 + 1 - s.cg c R.CSM_CTX_V_V0)).map fun r =>
          s.rowOut c dt (s.composedRow g u l (s.cg c R.CSM_CTX_V_V0 + r)) []).flatten).flatten)
      (s.p (grpB g) R.SPL_GRP_OPEN_OPEN (min 3 (s.grp g).opened.length))
  else
    let half := u.half || short
    let fl := if half then setb fl flHALF else fl
    let line := layOver (s.fillRange g u.cfg.planes (0, (u.cfg.width : Int) - 1)) (u.parts.map (·.2.2))
    let s := s.bump (splCnt d 0)
    let s := if half then (s.bump (splCnt d 2)).splEvt d g R.SPL_EVT_HALF_FILLED else s
    close fl (fun c => s.rowOut c (splOffer g u 0).dt line []) s

/-- Show a group's registers empty and leave its members' contexts (R227). -/
def State.clearGroupRegs (s : State) (g : Nat) : State :=
  let s := each ((List.range s.nch).filter fun ch => s.memberOf ch == some g) (fun ch s =>
    upTo 9 (fun i s => s.wr (memB ch + 0x400 + 4 * i) (resetWord s.part (memB ch + 0x400 + 4 * i))) s) s
  each [0x100, 0x104, 0x108] (fun o s => s.wr (grpB g + o) (resetWord s.part (grpB g + o))) s

/-- Bytes that a set reserves in the burst store of a die (R226). -/
def SplCfg.reserve (c : SplCfg) (d rate : Nat) : Nat :=
  if c.compose then 0
  else
    let unit64 (n : Nat) : Nat := (n * c.planes * 5 / 2 + (n * c.planes * 5 % 2) + 63) / 64 * 64
    let hist := ((c.mems.filter fun m => m.ch / 24 == d).map fun m => (m.ds + 1) * unit64 m.w).foldl (· + ·) 0
    let p := (c.deadline * rate + 9999999) / 10000000 + c.la + 1
    let pair := ((List.range c.mems.length).map fun i =>
      let r := c.seam i
      match c.mem i with
      | some m => if m.ch / 24 = d && nonEmpty r then p * unit64 (r.2 + 1 - r.1).toNat else 0
      | none => 0).foldl (· + ·) 0
    hist + pair

/-- The set that a group's registers hold. -/
def State.splCfg (s : State) (g : Nat) : SplCfg :=
  let b := grpB g
  let mem (ch : Nat) : SplMem :=
    let m := memB ch
    { ch := ch, idx := s.g m R.SPL_MEM_CFG_INDEX, x0 := sint (s.g m R.SPL_MEM_X0_X0) 32, offy := sint (s.g m R.SPL_MEM_OFFY_OFFY) 32,
      ds := s.g m R.SPL_MEM_CFG_DS, y0 := s.g m R.SPL_MEM_Y0_Y0, ra := s.g m R.SPL_MEM_RA_RA, rn := s.g m R.SPL_MEM_RN_RN, binv := s.g m R.SPL_MEM_BINV_BINV,
      layer := s.g m R.SPL_MEM_CFG_LAYER, ox0 := s.g m R.SPL_MEM_OWNX_X0, ox1 := s.g m R.SPL_MEM_OWNX_X1, oy0 := s.g m R.SPL_MEM_OWNY_Y0,
      oy1 := s.g m R.SPL_MEM_OWNY_Y1, w := (tgetD (s.grp g).shapes ch (s.outWidth ch, 0)).1, dt := (tgetD (s.grp g).shapes ch (0, 0)).2 }
  let ms := ((List.range s.nch).filter fun ch => s.memberOf ch == some g).map mem
  { compose := s.gb b R.SPL_GRP_CFG_KIND, gen := s.g b R.SPL_GRP_CFG_GEN, la := s.g b R.SPL_GRP_CFG_LA, planes := max 1 (s.g b R.SPL_GRP_CFG_PLANES),
    width := s.g b R.SPL_GRP_WIDTH_WIDTH_M1 + 1, height := s.g b R.SPL_GRP_HEIGHT_HEIGHT_M1 + 1, layers := s.g b R.SPL_GRP_CFG_LAYERS_M1 + 1,
    pat := s.g b R.SPL_GRP_CFG_PAT, deadline := s.g b R.SPL_GRP_DEADLINE_DEADLINE, deadmin := s.g b R.SPL_GRP_DEADMIN_DEADMIN, wait := s.g b R.SPL_GRP_WAIT_WAIT,
    fill := s.g b R.SPL_GRP_FILL_FILL, absA := s.g b R.SPL_GRP_ABSA_ABS_A, absB := s.g b R.SPL_GRP_ABSB_ABS_B,
    mems := ((List.range ms.length).map fun i => ms.filter (·.idx == i)).flatten }

/-- Groups in use or committed, with the set that their reserve counts. -/
def State.splSets (s : State) : List (Nat × SplCfg) :=
  (s.grps.map fun (e : Nat × Grp) => (if e.2.active then [(e.1, s.splCfg e.1)] else []) ++ (match e.2.commit with | some c => [(e.1, c)] | none => [])).flatten

/-- Splice reserve of a die in bytes; a group with a committed set counts the larger of its two sets. -/
def State.splReserve (s : State) (d : Nat) (skip : Option Nat := none) : Nat :=
  let of (e : Nat × SplCfg) : Nat := e.2.reserve d (s.gen e.2.gen).maxRate
  let sets := s.splSets.filter fun e => skip != some e.1
  ((sets.map (·.1)).eraseDups.map fun g => ((sets.filter (·.1 == g)).map of).foldl max 0).foldl (· + ·) 0

/-- SPL_RESERVE of every die. -/
def State.syncReserve (s : State) : State := upTo s.nd (fun d s => s.p (splB d) R.SPL_RESERVE_UNITS (min 0xFFFF ((s.splReserve d + 4095) / 4096))) s

/-- A group ends once nothing of it is open (R227). -/
def State.splEnd (s : State) (g : Nat) : State :=
  let x := s.grp g
  let ended := x.stopped || !(s.gen (s.g (grpB g) R.SPL_GRP_CFG_GEN)).running
  if x.removing && ended && x.opened.isEmpty then ({ s.clearGroupRegs g with grps := tdel s.grps g }).syncReserve else s

/-- Close every unit at the head of a group that is full or due, in order (R221). -/
def State.splClose (s : State) (g : Nat) : Nat → State
  | 0 => s
  | fuel + 1 =>
    match (s.grp g).opened with
    | u :: _ => if u.full || u.forced then (s.closeSpl g u).splClose g fuel else s.splEnd g
    | [] => s.splEnd g

def State.splTry (s : State) (g : Nat) : State := s.splClose g ((s.grp g).opened.length + 1)

/-! ### Contributions (R214, R215, R217, R220, R223) -/

/-- A held line whose first word was uncorrectable: its values read as 0, and the line carries CRC_ERR (R228; log entry 95). -/
def Delay.struck (e : Delay) (bad : Bool) : Delay :=
  if bad then { e with segs := zeroFirst e.segs, flags := setb e.flags flCRC } else e

/-- A released line of a STITCH member: history, registration, its exclusive columns and its bursts. -/
def State.stitchLine (s : State) (g : Nat) (l : PLine) (planes : List (List Nat)) : State :=
  let ch := l.raw.ch
  let h := tgetD (s.grp g).hist ch []
  let x := l.raw.tag.coord
  let held := h.takeWhile fun e => e.run == l.raw.tag.run && e.rev == l.raw.tag.rev
  let me : Delay := { run := l.raw.tag.run, rev := l.raw.tag.rev, coord := x, segs := planes, flags := l.raw.flags }
  let s := s.modGrp g fun y => { y with hist := tset y.hist ch ((me :: h).take 16) }
  match s.unit g l.raw.tag.frame l.raw.tag.line with
  | none => if (s.grp g).closed l.raw.tag.frame l.raw.tag.line then s.latePart g else s
  | some u =>
    let i := u.cfg.mems.findIdx (·.ch == ch)
    match u.cfg.mem i with
    | none => s
    | some m =>
      if u.got.contains i then s
      else if u.dead then s.latePart g
      else
        let ls := me :: held.take m.ds
        let (lo, hi, alpha, clamp) := downPair (x - m.offy) m.ds (ls.map (·.coord))
        let (w, s) := if lo = 0 && hi = 0 then (0, s) else s.splStore (ch / 24) g
        let a := (ls.getD lo me).struck (2 ≤ w && lo != 0)
        let b := (ls.getD hi me).struck (2 ≤ w && lo = 0)
        let dn := (List.range planes.length).map fun q => blendLine alpha (a.segs.getD q []) (b.segs.getD q []) m.w
        let fl := splKeep (a.flags ||| b.flags)
        let s := if clamp then (s.bump (memB ch + R.SPL_MEM_CLAMPS_COUNT.off)).bump (splCnt (ch / 24) 6) else s
        let s := s.modUnit g u.tag fun u => { u with got := u.got ++ [i] }
        let s := each (u.cfg.excl i).zipIdx (fun e s => s.sendPart g u (ch / 24) (exclKey i e.2) e.1.1.toNat fl (m.regRange dn e.1)) s
        let burst (j side : Nat) (s : State) : State :=
          let r := u.cfg.seam j
          match u.cfg.mem j with
          | none => s
          | some left =>
            if !nonEmpty r then s
            else if left.ch / 24 = ch / 24 then s.burstIn g u.tag j side fl (m.regRange dn r)
            else s.sendPkt (ch / 24) (left.ch / 24) (packet 2 g j u.tag u.tag.line r.1.toNat fl (m.regRange dn r))
        let s := burst i 0 s
        (if i = 0 then s else burst (i - 1) 1 s).splTry g

/-- A composed piece reaches the home die; a layer that becomes complete first is the frame boundary. -/
def State.pieceIn (s : State) (g frame row layer first flags : Nat) (v : List (List Nat)) : State :=
  match s.unit g frame 0 with
  | none => if (s.grp g).closed frame 0 then s.latePart g else s
  | some u =>
    let s := s.homePart g u.tag row layer first flags v
    let s := s.modUnit g u.tag fun u => { u with boundary := u.boundary || (List.range u.cfg.layers).any u.layerFull }
    s.splTry g

/-- A released row of a COMPOSE member (R222, R223). -/
def State.composeRow (s : State) (g : Nat) (l : PLine) (planes : List (List Nat)) : State :=
  let ch := l.raw.ch
  match s.unit g l.raw.tag.frame 0 with
  | none => if (s.grp g).closed l.raw.tag.frame 0 then s.latePart g else s
  | some u =>
    match u.cfg.mems.find? (·.ch == ch) with
    | none => s
    | some m =>
      let row := m.y0 + l.raw.row
      if row < m.oy0 || m.oy1 < row then s
      else
        let v := planes.map fun p => (p.drop ((m.ox0 : Int) - m.x0 / 256).toNat).take (m.ox1 + 1 - m.ox0)
        let fl := splKeep l.raw.flags
        if ch / 24 = g / 8 then s.pieceIn g u.tag.frame row m.layer m.ox0 fl v
        else s.sendPkt (ch / 24) (g / 8) (packet 3 g m.layer u.tag row m.ox0 fl v)

/-- The group that a line belongs to: the one with a unit of the line's trigger open under a set with its channel, else the one that its channel is
a member of (R212, R227). -/
def State.lineGroup (s : State) (r : RawLine) : Option Nat :=
  let mine (u : OpenUnit) : Bool :=
    u.tag.frame == r.tag.frame && (u.cfg.compose || u.tag.line == r.tag.line) && some u.cfg.gen == (s.chan r.ch).gen && u.cfg.mems.any (·.ch == r.ch)
  match s.grps.find? fun (e : Nat × Grp) => e.2.opened.any mine with
  | some e => some e.1
  | none => s.memberOf r.ch

/-- A line that leaves its slice, given to its channel's group (R212). -/
def State.splMember (s : State) (l : PLine) (planes : List (List Nat)) : State :=
  match s.lineGroup l.raw with
  | none => s
  | some g =>
    if (s.grp g).isolated || !(s.grp g).active then s
    else if (s.chan l.raw.ch).area then s.composeRow g l planes else s.stitchLine g l planes

/-- What a received packet carries reaches its place (R217, R223). -/
def State.packetIn (s : State) (p : Handoff) : State :=
  let g := p.group
  if p.kind = 1 then
    (match s.unit g p.frame p.line with
    | some u => (s.homePart g u.tag 0 0 p.first p.flags p.planes).splTry g
    | none => s.latePart g)
  else if p.kind = 2 then (s.burstIn g { frame := p.frame, line := p.line } p.seam 1 p.flags p.planes).splTry g
  else s.pieceIn g p.frame p.line p.seam p.first p.flags p.planes

/-- HANDOFF_PACKET_RX (R218): the oldest packet in flight to a die from a source for a group arrives, with the bytes as they are received. -/
def handoffRxF (d src g : Nat) (bytes : List Byte) (s : State) : State :=
  match s.handoffs.find? fun e => e.1 == d && e.2.1 == src && e.2.2.1 == g with
  | some e =>
    let s := ({ s with handoffs := s.handoffs.erase e } : State).xdfCarried src |>.xdfCarried d
    let (m, s) := s.takeInj d [0x1702] (g % 8)
    if !s.dieUp d || (s.grp g).isolated then s
    else match (if m = 0 then Handoff.ofBytes bytes else none) with
      | some p => s.packetIn p
      | none => ((s.bump (splCnt d 7)).splEvt d g R.SPL_EVT_HANDOFF_CRC).raise d 0x1702 (g % 8)
  | none => s

/-! ### Deadlines (R219, R220, R224) -/

/-- A bubble of a member (R220). -/
def State.bubble (s : State) (g ch : Nat) : State :=
  let s := (s.modGrp g fun x => { x with bubbles := x.bubbles + 1 }).bump (memB ch + R.SPL_MEM_BUBBLES_COUNT.off)
  (s.bump (splCnt (ch / 24) 4)).raise (g / 8) 0x1700 (g % 8)

/-- Whether a line's deadline is set (R219): trigger n + LA has fired, or the source's WEB_STALL time stands in for it; with WEB_STALL 0 it does
not. -/
def State.deadlineSet (s : State) (u : OpenUnit) : Bool :=
  let src := s.genSrc u.cfg.gen
  u.no + u.cfg.la ≤ (s.gen u.cfg.gen).total || (src != 0x3F && s.g (unitB src) R.WEB_STALL_STALL != 0)

/-- SPL_LINE_DEADLINE: the oldest line before its deadline; every die completes its own parts with bubbles filled. -/
def splLineDeadlineF (g : Nat) (s : State) : State :=
  match (s.grp g).opened.find? fun u => !u.dead && !u.cfg.compose with
  | none => s
  | some u =>
    if !s.deadlineSet u then s
    else
    let s := s.modUnit g u.tag fun u => { u with dead := true }
    let s := upTo u.cfg.mems.length (fun i s =>
      match u.cfg.mem i with
      | none => s
      | some m =>
        if u.got.contains i then s
        else
          let s := s.bubble g m.ch
          each (u.cfg.excl i).zipIdx (fun e s => s.sendPart g u (m.ch / 24) (exclKey i e.2) e.1.1.toNat (partFlags 0 true) (s.fillRange g u.cfg.planes e.1)) s) s
    let s := upTo u.cfg.mems.length (fun i s =>
      match s.unit g u.tag.frame u.tag.line, u.cfg.mem i, u.cfg.mem (i + 1) with
      | some u', some m, some n =>
        if !nonEmpty (u.cfg.seam i) || u'.paired.contains i || !s.dieUp (m.ch / 24) then s
        else
          let lost := u'.got.contains (i + 1) && !u'.bursts.any fun e => e.1 == i && e.2.1 == 1
          (if lost then s.bubble g n.ch else s).pairSeam g u' i
      | _, _, _ => s) s
    s.splTry g

/-- Mark a unit for closing. -/
def State.forceUnit (s : State) (g : Nat) (u : OpenUnit) : State := (s.modUnit g u.tag fun u => { u with forced := true }).splTry g

/-- SPL_CLOSE_TIMEOUT: 10 µs after its deadline the oldest line closes. -/
def splCloseTimeoutF (g : Nat) (s : State) : State :=
  match (s.grp g).opened.find? fun u => u.dead && !u.forced with
  | some u => s.forceUnit g u
  | none => s

/-- COMPOSE_WAIT_EXPIRY: SPL_GRP_WAIT after its boundary a frame closes. -/
def composeWaitExpiryF (g : Nat) (s : State) : State :=
  match (s.grp g).opened.find? fun u => u.boundary && !u.forced with
  | some u => s.forceUnit g u
  | none => s

/-- COMPOSE_STOP_WAIT_EXPIRY: SPL_GRP_WAIT after the last trigger of a generator that has stopped, the oldest open frame closes. -/
def composeStopWaitF (g : Nat) (s : State) : State :=
  match (s.grp g).opened.find? fun u => u.cfg.compose && !u.forced with
  | some u => if (s.gen u.cfg.gen).running then s else s.forceUnit g u
  | none => s

/-- The effect of a written SPL_GRP_DEADLINE word (R219). -/
def splDeadlineApply (g : Nat) (v : Word) (s : State) : State :=
  let b := grpB g
  let least := s.g b R.SPL_GRP_DEADMIN_DEADMIN
  if bits v 23 0 < least then (s.p b R.SPL_GRP_DEADLINE_DEADLINE least).splEvt (g / 8) g R.SPL_EVT_DEADLINE_RAISED
  else s.p b R.SPL_GRP_DEADLINE_DEADLINE (bits v 23 0)

/-! ### Triggers and staged sets (R219, R227) -/

/-- What SPL_APPLY writes at once: DEADMIN, the deadline, and the RW fields of the group that SPL_SET_GROUP gave (R219, R227; log entry 98). -/
def State.splCommitRW (s : State) (g : Nat) (raised : Bool) (c : SplCfg) : State :=
  let s := s.ps (grpB g) [(R.SPL_GRP_DEADMIN_DEADMIN, c.deadmin), (R.SPL_GRP_DEADLINE_DEADLINE, c.deadline)]
  let s := if !c.own then s else s.ps (grpB g) [(R.SPL_GRP_WAIT_WAIT, c.wait), (R.SPL_GRP_FILL_FILL, c.fill), (R.SPL_GRP_ABSA_ABS_A, c.absA), (R.SPL_GRP_ABSB_ABS_B, c.absB)]
  if raised then s.splEvt (g / 8) g R.SPL_EVT_DEADLINE_RAISED else s

/-- Write a set to the context registers of its group and members, and take it into use at frame f. -/
def State.splApplySet (s : State) (g f : Nat) (c : SplCfg) : State :=
  let b := grpB g
  let old := (List.range s.nch).filter fun ch => s.memberOf ch == some g
  let s := s.clearGroupRegs g
  let s := s.ps b [(R.SPL_GRP_CFG_VALID, 1), (R.SPL_GRP_CFG_KIND, if c.compose then 1 else 0), (R.SPL_GRP_CFG_PAT, c.pat), (R.SPL_GRP_CFG_LAYERS_M1, c.layers - 1),
    (R.SPL_GRP_CFG_PLANES, if c.planes = 3 then 3 else 1), (R.SPL_GRP_CFG_GEN, c.gen), (R.SPL_GRP_CFG_LA, c.la), (R.SPL_GRP_CFG_MEMBERS_M1, c.mems.length - 1),
    (R.SPL_GRP_WIDTH_WIDTH_M1, c.width - 1), (R.SPL_GRP_HEIGHT_HEIGHT_M1, c.height - 1)]
  let s := each c.mems (fun m s =>
    s.ps (memB m.ch) [(R.SPL_MEM_CFG_VALID, 1), (R.SPL_MEM_CFG_GROUP, g), (R.SPL_MEM_CFG_INDEX, m.idx), (R.SPL_MEM_CFG_LAYER, m.layer), (R.SPL_MEM_CFG_DS, m.ds),
      (R.SPL_MEM_X0_X0, (m.x0 % 2 ^ 32).toNat), (R.SPL_MEM_OFFY_OFFY, (m.offy % 2 ^ 32).toNat), (R.SPL_MEM_Y0_Y0, m.y0), (R.SPL_MEM_RA_RA, m.ra), (R.SPL_MEM_RN_RN, m.rn),
      (R.SPL_MEM_BINV_BINV, m.binv), (R.SPL_MEM_OWNX_X1, m.ox1), (R.SPL_MEM_OWNX_X0, m.ox0), (R.SPL_MEM_OWNY_Y1, m.oy1), (R.SPL_MEM_OWNY_Y0, m.oy0)]) s
  let chs := c.mems.map (·.ch)
  let s := s.modGrp g fun x => { x with
    active := true, commit := none, hist := x.hist.filter fun e => old.contains e.1 || !chs.contains e.1, shapes := c.mems.map fun m => (m.ch, m.w, m.dt) }
  ((s.p b R.SPL_GRP_APPLIED_FRAME f).splEvt (g / 8) g R.SPL_EVT_APPLIED).syncReserve

/-- SPL_GROUP_APPLY: the group's generator has started the frame unit at which a committed set applies. -/
def splGroupApplyF (g : Nat) (s : State) : State :=
  match (s.grp g).commit with
  | some c =>
    match (s.gen c.gen).frame with
    | some f => if frameFrom f (s.grp g).applyAt && s.dieUp (g / 8) then s.splApplySet g f c else s
    | none => s
  | none => s

/-- A unit of a group opens at a trigger, with its records (R224, R238). -/
def State.splOpen (s : State) (g : Nat) (t : Tag) : State :=
  let c := s.splCfg g
  let t := { t with line := if c.compose then 0 else t.line }
  let u : OpenUnit := { tag := t, cfg := c, no := (s.gen c.gen).total }
  let s := if c.compose && 2 ≤ (s.grp g).opened.length then
      (match (s.grp g).opened with
      | o :: _ => (s.bump (splCnt (g / 8) 8)).forceUnit g o
      | [] => s)
    else s
  let s := s.modGrp g fun x => { x with opened := x.opened ++ [u] }
  let s := if c.compose then s.p (grpB g) R.SPL_GRP_OPEN_OPEN (min 3 (s.grp g).opened.length) else s
  let o := splOffer g u 0
  each (s.sharesOn 7 (0x100 + g)) (fun sh s =>
    match (s.shareMembers sh).find? fun k => s.produces k t.frame with
    | some k => if s.selects k t.coord o.no then s.openRec sh o (s.ctxPB k o.dt c.compose) else s
    | none => s) s

/-- A trigger of a generator at one group: at a frame-unit start a committed set applies (R227); a spliced line opens at every trigger, and a composed
frame at a frame-unit start (R224). A group that is being removed opens nothing after the last trigger of its open frame unit. -/
def State.splTrigger (s : State) (g i : Nat) (t : Tag) : State :=
  let x := s.grp g
  let start := t.line = 0
  let last := (t.line + 1) % max 1 (s.g (genB i) R.TRG_GEN_FU_FU_LINES) = 0
  if x.isolated || !s.dieUp (g / 8) then s
  else
    let s := if start then
        let s := s.modGrp g fun x => { x with rejoin := false, stopped := x.stopped || x.removing }
        if x.commit.any (·.gen == i) then splGroupApplyF g s else s
      else s
    let x := s.grp g
    let c := s.splCfg g
    let s := if !x.active || x.stopped || x.rejoin || c.gen != i || (c.compose && !start) then s else s.splOpen g t
    (if last then s.modGrp g fun x => { x with stopped := x.stopped || x.removing } else s).splTry g

/-- The triggers that a command has fired reach the groups of their generator. -/
def State.splFired (s0 s : State) (i : Nat) : State :=
  if (s.gen i).total = (s0.gen i).total then s
  else each (s.grps.map (·.1)) (fun g s =>
    let mine := (s.gb (grpB g) R.SPL_GRP_CFG_VALID && s.g (grpB g) R.SPL_GRP_CFG_GEN == i) || (s.grp g).commit.any (·.gen == i)
    if mine then s.splTrigger g i (s.gen i).tag else s) s

/-- A generator that stands: the groups that were to end with their open frame unit do (R227). -/
def State.splStopped (s : State) (i : Nat) : State :=
  each (s.grps.map (·.1)) (fun g s => if s.g (grpB g) R.SPL_GRP_CFG_GEN = i then s.splTry g else s) s

/-- TRG_STOP with the groups of the generator. -/
def trgStopAllB (w k : Nat) (s : State) : Rsp :=
  match trgStopB w k s with
  | .ok t r => .ok (t.splStopped (s.cmdByte w k 8)) r
  | r => r

/-- TRIGGER_FIRE and TIME_TRIGGER with the groups of the generator. -/
def triggerFireAllF (i : Nat) (s : State) : State := s.splFired (triggerFireF i s) i
def timeTriggerAllF (i : Nat) (s : State) : State := s.splFired (timeTriggerF i s) i

/-! ### Isolation and unit reset of a group (R20, R316, R330) -/

/-- Take a group out: its open units go, and its contexts owe GAP_BEFORE. -/
def State.isolateGroup (s : State) (g : Nat) : State :=
  let tags := (s.grp g).opened.map (·.tag)
  let s := s.modGrp g fun x => { x with isolated := true, opened := [], hist := [] }
  let s := each (s.onSource 7 (0x100 + g)) (fun c s => s.modCtx c fun x => { x with gapOwed := true }) s
  each tags (fun t s => each (s.sharesOn 7 (0x100 + g)) (fun sh s =>
    match s.openOf sh t with
    | some r => ((s.closeRec r.id 0 []).expireNow { r with isOpen := false }).sweep
    | none => s) s) s

/-- A group after its unit reset: it rejoins at its next frame-unit start. -/
def State.resetGroup (s : State) (g : Nat) : State := s.modGrp g fun x => { x with isolated := false, rejoin := true }

/-! ### Commands (R229); SPL_APPLY's admission stands in Admission.lean -/

/-- The set that staging changes: the staged one, else the committed one, else the one in use. -/
def State.stagedSet (s : State) (g : Nat) : SplCfg :=
  match (s.grp g).staged, (s.grp g).commit with
  | some c, _ => c
  | none, some c => { c with own := false }
  | none, none => if (s.grp g).active then s.splCfg g else {}

def State.grpChecks (s : State) (w k : Nat) : List (Nat × Bool) := [(8, 8 * s.nd ≤ s.cmdByte w k 8)]

def splSetGroupB (w k : Nat) (s : State) : Rsp :=
  let c := s.cmdByte w k
  let g := c 8
  let n (o : Nat) : Nat := s.cp w k o 4
  s.checked w k (s.grpChecks w k ++ [(9, decide (1 < c 9)), (10, decide (8 * s.nd ≤ c 10)), (11, c 9 == 1 && decide (c 11 = 0 ∨ 4 < c 11)), (18, decide (1 < c 18)),
    (20, decide (1677721 < n 20)), (24, decide (0xFFFFFF < n 24)), (28, decide (0xFFFFF < n 28)), (32, decide (0xFFFFF < n 32)), (36, decide (0xFFFFF < n 36))]) <|
  let x := s.stagedSet g
  let x' := { x with compose := c 9 == 1, gen := c 10, layers := max 1 (c 11), width := n 12, height := s.cp w k 16 2, pat := c 18,
                     deadline := 10 * n 20, wait := n 24, fill := n 28, absA := n 32, absB := n 36, own := true }
  .ok (s.modGrp g fun y => { y with staged := some x' }) []

/-- DS of an offset on a generator (R215). -/
def State.dsOf (s : State) (gen : Nat) (offy : Int) : Nat := if s.genKind gen = 1 then s.depthOf gen offy.natAbs else 0

def splSetMemberB (w k : Nat) (s : State) : Rsp :=
  let c := s.cmdByte w k
  let g := c 8
  let ch := s.cp w k 10 2
  let n2 (o : Nat) : Nat := s.cp w k o 2
  let other := (match s.memberOf ch with | some h => h != g | none => false)
    || s.grps.any fun (e : Nat × Grp) => e.1 != g && ((e.2.staged.any fun x => x.mems.any (·.ch == ch)) || e.2.commit.any fun x => x.mems.any (·.ch == ch))
  s.checked w k (s.grpChecks w k ++ [(10, decide (s.nch ≤ ch)), (13, decide (3 < c 13)), (14, decide (1 < c 14)), (28, decide (0xFFFFF < s.cp w k 28 4)),
    (32, decide (4096 < n2 32))]) <|
  if other then bad 10
  else
  let x := s.stagedSet g
  let rest := x.mems.filter (·.ch != ch)
  let put (l : List SplMem) : State := s.modGrp g fun y => { y with staged := some { x with mems := l } }
  if c 14 = 1 then .ok (put rest) [0]
  else
    let offy := sint (s.cp w k 20 4) 32
    let ds := s.dsOf x.gen offy
    let m : SplMem := { ch := ch, idx := c 12, x0 := sint (s.cp w k 16 4) 32, offy := offy, ds := ds, y0 := n2 24, ra := s.cp w k 28 4, rn := n2 32,
                        binv := if n2 32 = 0 then 0 else 2 ^ 24 / n2 32, layer := c 13, ox0 := n2 34, ox1 := n2 36, oy0 := n2 38, oy1 := n2 40, w := s.outWidth ch }
    .ok (put (rest ++ [m])) (leBytes 1 (min 255 ds))

def splDiscardB (w k : Nat) (s : State) : Rsp :=
  s.checked w k (s.grpChecks w k) <| .ok (s.modGrp (s.cmdByte w k 8) fun x => { x with staged := none }) []

/-- SPL_REMOVE: the group ends after its open frame unit closes. -/
def splRemoveB (w k : Nat) (s : State) : Rsp :=
  let g := s.cmdByte w k 8
  s.checked w k (s.grpChecks w k) <|
  let gen := s.gen (s.g (grpB g) R.SPL_GRP_CFG_GEN)
  let between := !gen.running || gen.n % max 1 (s.g (genB (s.g (grpB g) R.SPL_GRP_CFG_GEN)) R.TRG_GEN_FU_FU_LINES) == 0
  let s1 := s.modGrp g fun x => { x with removing := true, staged := none, commit := none, stopped := between || !x.active || x.isolated }
  .ok (s1.syncReserve.splTry g) []

def splQueryB (w k : Nat) (s : State) : Rsp :=
  let g := s.cmdByte w k 8
  let b := grpB g
  s.checked w k (s.grpChecks w k) <|
  .ok s (leBytes 1 (s.g b R.SPL_GRP_CFG_KIND) ++ leBytes 1 (if (s.grp g).active then s.g b R.SPL_GRP_CFG_LAYERS_M1 + 1 else 0) ++ leBytes 1 (s.g b R.SPL_GRP_OPEN_OPEN)
    ++ leBytes 4 (if (s.grp g).active then s.g b R.SPL_GRP_WIDTH_WIDTH_M1 + 1 else 0) ++ leBytes 4 (s.g b R.SPL_GRP_DEADLINE_DEADLINE)
    ++ leBytes 4 (s.g b R.SPL_GRP_DEADMIN_DEADMIN) ++ leBytes 4 (s.cnt (b + R.SPL_GRP_FRAME_FRAME.off)) ++ leBytes 4 (s.cnt (b + R.SPL_GRP_LINE_LINE.off))
    ++ leBytes 4 (s.g b R.SPL_GRP_APPLIED_FRAME) ++ leBytes 4 (s.grp g).bubbles)

/-- The first column from `c` on that none of some ranges covers. -/
def firstGap (l : List (Int × Int)) : Nat → Int → Int
  | 0, c => c
  | fuel + 1, c =>
    let d := l.foldl (fun m r => if r.1 ≤ c && m ≤ r.2 then r.2 + 1 else m) c
    if d = c then c else firstGap l fuel d

/-- X0 rises with the index, members that are not neighbours cover no column in common, and no column of 0 to WO − 1 is bare (R216): the first member
that breaks this. -/
def SplCfg.coverBad (c : SplCfg) : Option Nat :=
  let n := c.mems.length
  let cov := (List.range n).map c.coverOf
  let gap := firstGap (cov.filter nonEmpty) n 0
  ((List.range n).find? fun i =>
    (i != 0 && (match c.mem (i - 1), c.mem i with | some p, some m => decide (m.x0 ≤ p.x0) | _, _ => false))
      || (List.range (i - 1)).any fun j => nonEmpty (max (c.coverOf j).1 (c.coverOf i).1, min (c.coverOf j).2 (c.coverOf i).2)).or
    (if (c.width : Int) ≤ gap then none else some (((List.range n).find? fun i => decide (gap < (c.coverOf i).1)).getD (n - 1)))

/-- Seams whose ramp leaves the overlap (R216). -/
def SplCfg.seamBad (c : SplCfg) : Option Nat :=
  (List.range (c.mems.length - 1)).find? fun i =>
    match c.mem i with
    | none => false
    | some m =>
      let r := c.seam i
      nonEmpty r && decide ((m.ra : Int) < r.1 ∨ r.2 + 1 < (m.ra : Int) + m.rn)

/-- Members whose owned rectangle leaves their tile or the layer, or overlaps another; then a layer that is not covered whole (R222). -/
def State.tileBad (s : State) (c : SplCfg) : Option Nat :=
  let out (m : SplMem) : Bool :=
    let x0 := m.x0 / 256
    m.x0 % 256 != 0 || m.ox1 < m.ox0 || m.oy1 < m.oy0 || c.width ≤ m.ox1 || c.height ≤ m.oy1 || decide ((m.ox0 : Int) < x0) || decide (x0 + m.w ≤ (m.ox1 : Int))
      || m.oy0 < m.y0 || m.y0 + (s.chan m.ch).image.height ≤ m.oy1 || c.layers ≤ m.layer
  let clash (m : SplMem) : Bool := c.mems.any fun o => o.idx != m.idx && o.layer == m.layer && m.ox0 ≤ o.ox1 && o.ox0 ≤ m.ox1 && m.oy0 ≤ o.oy1 && o.oy0 ≤ m.oy1
  match c.mems.find? fun m => out m || clash m with
  | some m => some m.idx
  | none =>
    let area (l : Nat) : Nat := ((c.mems.filter (·.layer == l)).map fun m => (m.ox1 + 1 - m.ox0) * (m.oy1 + 1 - m.oy0)).foldl (· + ·) 0
    if (List.range c.layers).all fun l => area l == c.width * c.height then none else some 0xFF

/-- The checks of SPL_APPLY in the order of log entry 71: a reason and a member index. -/
def State.splBad (s : State) (c0 : SplCfg) : Option (Nat × Nat) :=
  let ms := ((List.range 256).map fun i => c0.mems.filter (·.idx == i)).flatten.map fun m => { m with w := s.nextWidth m.ch }
  let c := { c0 with mems := ms }
  let n := c.mems.length
  let wide := if c.compose then c.width = 0 || 65536 < c.width || c.height = 0 else c.width = 0 || 1048576 < c.width
  let mem (f : SplMem → Bool) (reason : Nat) : Option (Nat × Nat) := (c.mems.find? f).map fun m => (reason, m.idx)
  let planes := match c.mems.head? with | some m => s.nextPlanes m.ch | none => 1
  if wide || n = 0 || 192 < n then some (7, 0xFF)
  else match (List.range n).find? fun i => (c.mems.filter (·.idx == i)).length != 1 with
  | some i => some (7, i)
  | none =>
    (mem (fun m => !(s.chan m.ch).admitted || (s.chan m.ch).gen != some c.gen) 1)
      <|> (if !c.compose && s.genKind c.gen != 1 then some (2, 0xFF) else none)
      <|> (mem (fun m => s.nextPlanes m.ch != planes || (s.chan m.ch).area != c.compose) 3)
      <|> (if c.compose then (s.tileBad c).map fun i => (8, i)
        else (mem (fun m => m.offy < 0 || 15 < s.dsOf c.gen m.offy) 6) <|> (c.coverBad.map fun i => (4, i)) <|> (c.seamBad.map fun i => (5, i)))

/-- The set that SPL_APPLY commits: members in index order with DS and BINV, planes, LA and DEADMIN from its members (R215, R219). -/
def State.splBuild (s : State) (x : SplCfg) : SplCfg :=
  let ms := ((List.range 192).map fun i => x.mems.filter (·.idx == i)).flatten.map fun m => { m with ds := s.dsOf x.gen m.offy, w := s.nextWidth m.ch, dt := (s.chan m.ch).image.dt }
  let bayer (m : SplMem) : Bool := s.nextPlanes m.ch == 3 && s.nextWidth m.ch == (s.chan m.ch).image.width
  let dl := (ms.map fun m => s.g (strB m.ch) R.STR_DEADLINE_DEADLINE).foldl max 0 + 500
  { x with mems := ms, planes := (match ms.head? with | some m => s.nextPlanes m.ch | none => 1), la := if x.compose then 0 else if ms.any bayer then 4 else 1,
           deadmin := dl, deadline := min 0xFFFFFF (max x.deadline dl) }

end Sys2Proof.Machine
end

