-- ==== Sys2Proof/Machine/ReleaseOps.lean ====
section
/-!
DEFINITION. A line leaves its slice: the release checks, the main record, its taps, its statistics and its splice group, the release after a
takeover, and the collector that writes statistics records (R168, R172, R173, R187, R191, R192, R201 to R208).
-/
namespace Sys2Proof.Machine
open Sys2Proof

/-- What a channel offers its consumers for a line: the fields of the tag block (R150, R191). `kind` 0 is the main output, 1 to 5 the taps
T0 to T4, 6 the statistics (R230). -/
def State.lineOffer (s : State) (kind : Nat) (r : RawLine) : Offer :=
  let c := s.chan r.ch
  { kind := kind, id := r.ch, die := r.ch / 24, chNo := r.ch, vc := c.image.vc, dt := c.image.dt, lineNo := if c.area then 0 else r.tag.line,
    no := if c.area then r.tag.frame else r.tag.line, tag := r.tag, flags := r.flags }

/-- A line, or a row of an area frame, goes to the consumers of one of its channel's sources. -/
def State.offerPx (s : State) (kind : Nat) (r : RawLine) (planes : List (List Nat)) : State :=
  let o := s.lineOffer kind r
  if (s.chan r.ch).area then s.offerRow o r.row r.lastFu planes r.bytes else s.offerLine o planes r.bytes

/-- The copies of a line at its channel's taps (R191). -/
def State.offerTaps (s : State) (p : Nat) (l : PLine) (planes : List (List Nat)) : State :=
  each [[], [l.blk], [l.dyn.getD []], [l.shd], planes].zipIdx (fun e s =>
    if tbit l.set.taps e.2 then (s.bump (dmsCnt (l.raw.ch / 24) p 6)).offerPx (e.2 + 1) l.raw e.1 else s) s

/-- The oldest line of a channel that is ready leaves its slice. -/
def State.releaseLine (s : State) (ch p k : Nat) : State :=
  match s.leaveSlice ch p k with
  | none => s
  | some (l, planes, s) =>
    let s := s.staMerge l planes
    let s := if l.raw.lastFu then s.staEnd ch else s
    let s := s.splMember l planes
    (s.offerPx 0 l.raw planes).offerTaps p l planes

/-- The end-of-line checks of a channel's oldest line (R168), with the errors injected into them: it leaves its slice, or has failed them. -/
def State.checkedRelease (s : State) (ch p k : Nat) (check : LineCheck) : State :=
  let d := ch / 24
  let (residue, s) := s.takeInj d [0x0900] p
  let (ecc, s) := s.takeInj d [0x0901] p
  let s := if ecc = 1 then s.sliceEcc d p else s
  let (word, s) := if s.g (dctxB d p k) R.DMS_CTX_CFG_MODE = 2 then s.takeInj d [0x0A00, 0x0A01] p else (0, s)
  let s := if word = 1 then (s.bump (dmsCnt d p 7)).raise d 0x0A00 p else s
  let check : LineCheck := if residue != 0 || ecc = 2 then .fail else if word = 2 && check == .pass then .storeUncorr 1 0 0 4 else check
  match check with
    | .pass => s.releaseLine ch p k
    | .fail => s.checkFail ch p k
    | .storeUncorr back seg first n => (s.storeUncorr ch p k back seg first n).releaseLine ch p k

/-- LINE_RELEASE (R168): in a slice in service, the channel's oldest line passes its checks and leaves, or fails them. -/
def lineReleaseF (ch : Nat) (check : LineCheck) (s0 : State) : State :=
  let s := s0.corAdvance ch
  match s.chanSlice ch with
  | none => s0
  | some p =>
    match s.corCtx ch p with
    | none => s0
    | some k => if s.g (corB (ch / 24) p) R.COR_SLICE_ROLE != 0 || (s.releasable ch).isNone then s0 else s.checkedRelease ch p k check

/-- The lines of a channel that are ready pass their checks and leave, up to one that fails them. -/
def State.releaseReady (s : State) (ch p k : Nat) : State :=
  upTo (s.cor ch).lines.length (fun _ s => if (s.releasable ch).any fun x => !x.2.1.tried then s.checkedRelease ch p k .pass else s) s

/-- TAKEOVER_DONE (R172, R173): the spare serves the logical slice, and the lines that were ready are released. -/
def takeoverDoneF (d l tenNs : Nat) (ringBad : List (Nat × Nat)) (s : State) : State :=
  let p := s.physSlice d l
  if 5 ≤ p || s.g (corB d p) R.COR_SLICE_ROLE != 2 then s
  else
    let s := s.takeoverEnd d l p tenNs ringBad
    each (s.sliceChans d l) (fun ch s =>
      match s.corCtx ch p with
      | some k => s.releaseReady ch p k
      | none => s) s

/-- STA_RECORD_DRAIN (R201, R205 to R208): the collector writes the next bank as a record where a consumer is bound to the statistics. -/
def staRecordDrainF (d : Nat) (bad : List (Nat × Nat)) (s : State) : State :=
  match s.staTake d with
  | none => s
  | some (ch, b, s) =>
    let (m, s) := s.takeInj d [0x0B00, 0x0B01] (ch % 24)
    let s := if m = 1 then (s.bump (staCnt d 3)).raise d 0x0B00 (ch % 24) else s
    let bad := if m = 2 then bad ++ [(16, 8)] else bad
    let s := if bad.isEmpty then s else ((s.bump (staCnt d 4) bad.length).staEvt ch R.STA_EVT_BANK_UNCORR).raise d 0x0B01 (ch % 24)
    let o : Offer := { kind := 6, id := ch, die := d, chNo := ch, vc := b.vc, dt := b.dt, lineNo := 0, no := b.frame, tag := { b.tag with frame := b.frame },
                       flags := if bad.isEmpty then b.flags else setb b.flags flCRC }
    let t := s.offerWhole o fun _ => b.body bad
    if t.nextRec = s.nextRec then t
    else (t.setSta ch { t.sta ch with written := (t.sta ch).written + 1, lastFrame := b.frame }).bump (staCnt d 0)

end Sys2Proof.Machine
end

