-- ==== Sys2Proof/Machine/CanOps.lean ====
section
/-!
DEFINITION. The CAN FD controllers: bit timing, rate detection, transmit buffers, error confinement, reception in object and queue mode,
timestamps, sleep and wake, and the CAN commands (R337 to R358). A controller's channel is its die.
-/
namespace Sys2Proof.Machine
open Sys2Proof

def State.can (s : State) (d : Nat) : Can := tgetD s.cans d {}
def State.setCan (s : State) (d : Nat) (x : Can) : State := { s with cans := tset s.cans d x }
def State.modCan (s : State) (d : Nat) (f : Can → Can) : State := s.setCan d (f (s.can d))

/-- Base of a controller's indirect registers, and of its transmit buffers, objects and queue entries. -/
def canI (d : Nat) : Nat := indBase d 0x12
def txbB (d b : Nat) : Nat := canI d + 0x60 * b
def objB (d o : Nat) : Nat := canI d + 0x60 * o
def qeB (d q e : Nat) : Nat := canI d + 0x1000 + 0x1800 * q + 0x60 * (e % 64)

def State.ci (s : State) (d : Nat) (f : Fld) : Nat := s.g (canI d) f
def State.cst (s : State) (d : Nat) (f : Fld) : Nat := s.g (canB d) f
def canCnt (d i : Nat) : Nat := canB d + R.CAN_CNT_COUNT.off + 4 * i

/-- OPSTATE codes. -/
def opDISABLED : Nat := 0
def opINTEGRATING : Nat := 1
def opRUNNING : Nat := 2
def opSLEEPING : Nat := 3
def opDETECTING : Nat := 4
def opRECOVERING : Nat := 5

/-- OPSTATE; on an isolated die the controller behaves as a disabled one (R356). -/
def State.opSt (s : State) (d : Nat) : Nat := if s.dieUp d && !s.unitOut d 0x13 0 then s.cst d R.CAN_STATUS_OPSTATE else opDISABLED
def State.setOp (s : State) (d v : Nat) : State := s.p (canB d) R.CAN_STATUS_OPSTATE v
def State.txOut (s : State) (d b : Nat) : Nat := s.g (txbB d b) R.TXB_STAT_OUTCOME

/-- A CAN event and its interrupt (CAN_IRQ). -/
def State.canEvt (s : State) (d : Nat) (f : Fld) : State :=
  let s := s.evt (canB d) R.CAN_EVT_E [f]
  if s.gb (canB d) R.CAN_IRQ_EN && tbit (s.g (canB d) R.CAN_IRQ_MASK) f.lo then s.msix (s.g (canB d) R.CAN_IRQ_PORT) (s.g (canB d) R.CAN_IRQ_VECTOR) else s

/-! ### Timestamps (R353) -/

/-- Kernel cycles of 12.5 ns since reset. -/
def State.kernel (s : State) : Nat := s.clock.now * 4 / 25

/-- CAN_TS at a kernel count. -/
def State.canTs (s : State) (d k : Nat) : Nat :=
  let x := s.can d
  let p := 2 ^ s.ci d R.CAN_TSCFG_DIV
  (x.ts0 + k / p + (2 ^ 32 - x.k0 / p % 2 ^ 32)) % 2 ^ 32

/-- A write of CAN_TSCFG: the counter goes on from its value at the new rate. -/
def tsCfgApply (d : Nat) (v : Word) (s : State) : State :=
  let s1 := s.modCan d fun x => { x with ts0 := s.canTs d s.kernel, k0 := s.kernel }
  s1.p (canI d) R.CAN_TSCFG_DIV (bits v 3 0)

/-! ### Bit timing (R339) -/

def nbtOk (v : Word) : Bool :=
  let brp := bits v 31 24 + 1
  let s1 := bits v 23 16 + 1
  let s2 := bits v 14 8 + 1
  let j := bits v 6 0 + 1
  decide (2 ≤ s1 ∧ j ≤ min s1 s2 ∧ 8 ≤ 1 + s1 + s2 ∧ 1 + s1 + s2 ≤ 385 ∧ 80 ≤ brp * (1 + s1 + s2))

def dbtOk (v : Word) : Bool :=
  let brp := bits v 28 24 + 1
  let s1 := bits v 20 16 + 1
  let s2 := bits v 11 8 + 1
  let j := bits v 3 0 + 1
  decide (j ≤ min s1 s2 ∧ 5 ≤ 1 + s1 + s2 ∧ 1 + s1 + s2 ≤ 49 ∧ 10 ≤ brp * (1 + s1 + s2))

/-- The writable bits of CAN_NBT, CAN_DBT and CAN_TDC. -/
def nbtMask : Word := 0xFFFF7F7F
def dbtMask : Word := 0x1F1F0F0F
def tdcMask : Word := 0x80007F00

/-- CAN_TIMING_WRITE: a write of CAN_NBT (offset 4) or CAN_DBT (offset 8). -/
def canTimingApply (d off : Nat) (v : Word) (s : State) : State :=
  if off = 4 then (if nbtOk v then s.wr (canI d + 4) (v &&& nbtMask) else s.canEvt d R.CAN_EVT_TIMING_BAD)
  else (if dbtOk v then s.wr (canI d + 8) (v &&& dbtMask) else s.canEvt d R.CAN_EVT_TIMING_BAD)

/-- Load NBT, DBT and TDC. -/
def State.setTiming (s : State) (d : Nat) (n b t : Word) : State :=
  ((s.wr (canI d + 4) (n &&& nbtMask)).wr (canI d + 8) (b &&& dbtMask)).wr (canI d + 0xC) ((s.rd (canI d + 0xC) &&& ~~~tdcMask) ||| (t &&& tdcMask))

/-! ### Transmit buffers (R343 to R345) -/

/-- The three transmit buffers that are PENDING, ascending. -/
def State.txPending (s : State) (d : Nat) : List Nat := (List.range 3).filter fun b => s.txOut d b == 1

/-- Whether a buffer is PENDING or ACTIVE. -/
def State.txBusy (s : State) (d b : Nat) : Bool := s.txOut d b == 1 || s.txOut d b == 2
def State.anyTxBusy (s : State) (d : Nat) : Bool := (List.range 3).any fun b => s.txBusy d b

/-- A buffer takes an outcome: a set event of TXB_STAT; every outcome but PENDING and ACTIVE clears REQ. -/
def State.outcome (s : State) (d b o : Nat) : State :=
  let s := s.ps (txbB d b) [(R.TXB_STAT_SEQ, s.g (txbB d b) R.TXB_STAT_SEQ + 1), (R.TXB_STAT_OUTCOME, o)]
  if o = 1 || o = 2 then s else s.p (txbB d b) R.TXB_CTL_REQ 0

/-- A buffer ends FAILED (4), ABORTED (5) or BUS_OFF (6). -/
def State.txFail (s : State) (d b o : Nat) : State :=
  let s := (s.outcome d b o).canEvt d R.CAN_EVT_TX_FAIL
  if o = 4 then (s.bump (canCnt d 5)).raise d 0x1302 0 else s

/-- Arbitration value of a buffer's frame under ISO 11898-1: identifier, RTR or SRR, IDE, extended identifier, RTR. -/
def State.arbValue (s : State) (d b : Nat) : Nat :=
  let id := s.g (txbB d b) R.TXB_ID_ID
  let rtr := if s.gb (txbB d b) R.TXB_ID_FDF then 0 else s.g (txbB d b) R.TXB_CTL_RTR
  if s.gb (txbB d b) R.TXB_ID_IDE then id / 2 ^ 18 * 2 ^ 21 + 2 ^ 20 + 2 ^ 19 + id % 2 ^ 18 * 2 + rtr
  else id / 2 ^ 18 * 2 ^ 21 + rtr * 2 ^ 20

/-- The buffer picked at a start of arbitration (R343). -/
def State.txPick (s : State) (d : Nat) : Option Nat :=
  let l := s.txPending d
  if s.ci d R.CAN_MODE_TXORD = 1 then l.head?
  else l.foldl (fun best b =>
    match best with
    | none => some b
    | some c => if s.arbValue d b < s.arbValue d c then some b else some c) none

/-- Wake a controller (R355): WAKE is set and bus integration begins. -/
def State.wakeCan (s : State) (d : Nat) : State := ((s.canEvt d R.CAN_EVT_WAKE).bump (canCnt d 7)).setOp d opINTEGRATING

/-- Request a buffer: PENDING; a sleeping controller wakes. -/
def State.txRequest (s : State) (d b : Nat) : State :=
  let s := (s.ps (txbB d b) [(R.TXB_CTL_REQ, 1), (R.TXB_STAT_TRIES, 0)]).outcome d b 1
  if s.opSt d = opSLEEPING then s.wakeCan d else s

/-- The effect of a written TXB_CTL word on a buffer. -/
def txbCtlApply (d b : Nat) (v : Word) (s : State) : State :=
  if s.gb (txbB d b) R.TXB_CTL_REQ then
    if bits v 30 30 = 1 then
      (if s.txOut d b = 2 then s.modCan d fun x => { x with abort := true } else s.txFail d b 5)
    else s.canEvt d R.CAN_EVT_TXB_LOCKED
  else
    let s := s.ps (txbB d b) [(R.TXB_CTL_RTR, bits v 29 29), (R.TXB_CTL_DLC, bits v 3 0)]
    if bits v 31 31 = 1 then s.txRequest d b else s

/-- A write to the identifier or a data word of a buffer, at storage address a (R345). -/
def txbWordApply (d b a : Nat) (v : Word) (s : State) : State :=
  if s.gb (txbB d b) R.TXB_CTL_REQ then s.canEvt d R.CAN_EVT_TXB_LOCKED else s.wr a v

/-- The controller has finished its work in hand after EN was cleared (R42): it is disabled. -/
def State.canQuiet (s : State) (d : Nat) : State :=
  if s.gb (canB d) R.HDR_CTRL_EN || (s.can d).active.isSome then s
  else
    let s := (s.modCan d fun x => { x with sleepReq := false }).p (canB d) R.HDR_CTRL_QUIESCED 1
    s.setOp d opDISABLED

/-- Enable and disable a controller. -/
def State.canEnable (s : State) (d : Nat) : State :=
  if s.gb (canB d) R.HDR_CTRL_EN then s else (s.ps (canB d) [(R.HDR_CTRL_EN, 1), (R.HDR_CTRL_QUIESCED, 0)]).setOp d opINTEGRATING
def State.canDisable (s : State) (d : Nat) : State := (s.p (canB d) R.HDR_CTRL_EN 0).canQuiet d

/-! ### Error confinement (R346 to R348) -/

/-- The state that follows from the counters, with its events and sources; a bus-off ends every waiting buffer. -/
def State.confine (s : State) (d tec rec' : Nat) : State :=
  let old := s.cst d R.CAN_STATUS_STATE
  let s := s.ps (canB d) [(R.CAN_STATUS_TEC, min 511 tec), (R.CAN_STATUS_REC, min 255 rec')]
  if 256 ≤ tec then
    let s := (((s.p (canB d) R.CAN_STATUS_STATE 2).canEvt d R.CAN_EVT_BUS_OFF).bump (canCnt d 6)).raise d 0x1300 0
    let s := each ((List.range 3).filter fun b => s.txBusy d b) (fun b s => s.txFail d b 6) s
    let s := s.modCan d fun x => { x with active := none, abort := false }
    if s.ci d R.CAN_MODE_AUTO_RECOV = 1 then s.setOp d opRECOVERING else s
  else if 128 ≤ tec || 128 ≤ rec' then
    if old = 1 then s else ((s.p (canB d) R.CAN_STATUS_STATE 1).canEvt d R.CAN_EVT_ERR_PASSIVE).raise d 0x1301 0
  else s.p (canB d) R.CAN_STATUS_STATE 0

/-- CAN_ARBITRATION_START. A halted part starts no transmission (R356). -/
def canArbitrationStartF (d : Nat) (s : State) : State :=
  if s.opSt d != opRUNNING || s.cst d R.CAN_STATUS_STATE = 2 || s.ci d R.CAN_MODE_LOM = 1 || (s.can d).active.isSome || s.halted
      || !s.gb (canB d) R.HDR_CTRL_EN then s
  else match s.txPick d with
    | none => s
    | some b => (s.modCan d fun x => { x with active := some b, abort := false }).outcome d b 2

/-- Bytes of a frame, from its DLC (ISO 11898-1). -/
def canLen (f : CanFrame) : Nat :=
  if f.rtr && !f.fdf then 0
  else if f.dlc ≤ 8 then f.dlc
  else if !f.fdf then 8
  else ([12, 16, 20, 24, 32, 48, 64][f.dlc - 9]?).getD 64

/-- The bytes of n words from a storage address. -/
def State.canWords (s : State) (a n : Nat) : List Byte := ((List.range n).map fun i => leBytes 4 (s.rd (a + 4 * i)).toNat).flatten

/-- The 80 bytes of an object or queue entry at a storage address. -/
def State.canEntry (s : State) (a : Nat) : List Byte := s.canWords a 4 ++ s.canWords (a + 0x20) 16

/-- The frame of a transmit buffer; with FD_EN at 0 it goes as a classical one (log entry 236). ESI shows an error-passive sender (ISO 11898-1). -/
def State.txFrame (s : State) (d b sof : Nat) : CanFrame :=
  let g := s.gb (txbB d b)
  let id := s.g (txbB d b) R.TXB_ID_ID
  let fd := g R.TXB_ID_FDF && s.ci d R.CAN_MODE_FD_EN = 1
  let f : CanFrame := { id := if g R.TXB_ID_IDE then id else id / 2 ^ 18, ide := g R.TXB_ID_IDE, fdf := fd, brs := fd && g R.TXB_ID_BRS,
                        esi := fd && s.cst d R.CAN_STATUS_STATE = 1, rtr := !fd && g R.TXB_CTL_RTR, dlc := s.g (txbB d b) R.TXB_CTL_DLC, data := [],
                        own := true, sof := sof }
  { f with data := (s.canWords (txbB d b + R.TXB_DATA_DATA.off) 16).take (canLen f) }

/-- Whether a controller may drive dominant bits: not listen-only and not in internal loopback (R337, R338). -/
def State.canDrives (s : State) (d : Nat) : Bool := s.ci d R.CAN_MODE_LOM = 0 && s.ci d R.CAN_MODE_LBACK = 0

/-- The error flag that follows a detected error (R347): active while the controller is error-active. -/
def State.errorFlag (s : State) (d : Nat) : State := if s.canDrives d then s.emit (.canErrorFlag d (s.cst d R.CAN_STATUS_STATE == 0)) else s

/-- Whether an indirect address holds a word of a stored frame. -/
def Part.frameWord (p : Part) (ia : Nat) : Bool :=
  if p == .msd8 then 0x1000 ≤ ia && ia < 0x4000 && ((ia - 0x1000) % 0x60 < 0xC || 0x20 ≤ (ia - 0x1000) % 0x60)
  else 0x400 ≤ ia && ia < 0x1C00 && ((ia - 0x400) % 0x60 == 8 || 0x20 ≤ (ia - 0x400) % 0x60)

/-- An uncorrectable word at an indirect address (R357): a stored frame reads it as 0, and a requested buffer that holds it ends FAILED with
LEC 0x0. -/
def State.canRamUncorr (s : State) (d ia : Nat) : State :=
  let b := (ia - 0x100) / 0x60
  if 0x100 ≤ ia && ia < 0x220 then
    if !s.txBusy d b then s
    else
      let s := if (s.can d).active = some b then s.modCan d fun x => { x with active := none, abort := false } else s
      (s.p (txbB d b) R.TXB_STAT_LEC 0).txFail d b 4
  else if s.part.frameWord ia then s.wr (canI d + ia) 0 else s

/-- The check of a stored frame that is read, with the injection that waits for it (R332). -/
def State.canChecked (s : State) (d a : Nat) : State :=
  match s.takeInj d [0x1304, 0x1305] 0 with
  | (1, s) => s.raise d 0x1304 0
  | (2, s) => (s.canRamUncorr d (a + 0x20 - canI d)).raise d 0x1305 0 (a + 0x20 - canI d)
  | (_, s) => s

/-- Count an attempt that has been made. -/
def State.tried (s : State) (d b : Nat) : State := s.p (txbB d b) R.TXB_STAT_TRIES (min 31 (s.g (txbB d b) R.TXB_STAT_TRIES + 1))

/-- CAN_TX_ATTEMPT_END. TDCV shows the loop delay measured on a frame with BRS (R340). -/
def canTxAttemptEndF (d : Nat) (r : CanTxEnd) (s : State) : State :=
  match (s.can d).active with
  | none => s
  | some b =>
    let abort := (s.can d).abort
    let s := s.modCan d fun x => { x with active := none, abort := false }
    let tec := s.cst d R.CAN_STATUS_TEC
    let rc := s.cst d R.CAN_STATUS_REC
    let (m, s) := s.takeInj d [0x1304, 0x1305] 0
    let s := if m = 1 then s.raise d 0x1304 0 else s
    let e := if m = 2 then CanTxEnd.ramUncorr else r
    let timed := match e with
      | .sent _ => true
      | .error _ _ _ => true
      | .lostArb => false
      | .ramUncorr => false
    let s := if timed && s.ci d R.CAN_TDC_EN = 1 && s.gb (txbB d b) R.TXB_ID_FDF && s.gb (txbB d b) R.TXB_ID_BRS then s.measured (canI d) R.CAN_TDC_TDCV else s
    let s := match e with
      | .sent sof =>
        let s := (s.tried d b).p (txbB d b) R.TXB_TS_TS (s.canTs d sof)
        let s := ((s.outcome d b 3).canEvt d R.CAN_EVT_TX_DONE).bump (canCnt d 1)
        (if s.ci d R.CAN_MODE_LBACK = 1 then s else s.emit (.canFrame d b (s.txFrame d b sof))).confine d (tec - 1) rc
      | .lostArb => if abort then s.txFail d b 5 else s.outcome d b 1
      | .ramUncorr => ((s.p (txbB d b) R.TXB_STAT_LEC 0).txFail d b 4).raise d 0x1305 0
      | .error lec quiet extra =>
        let passive := s.cst d R.CAN_STATUS_STATE = 1
        let s := ((s.tried d b).p (txbB d b) R.TXB_STAT_LEC lec).errorFlag d
        let s := s.confine d (tec + (if quiet && ((lec = 3 && passive) || lec = 1) then 0 else 8) + 8 * extra) rc
        if s.txOut d b = 6 then s
        else if abort then s.txFail d b 5
        else if s.ci d R.CAN_MODE_RETRY != 31 && s.ci d R.CAN_MODE_RETRY < s.g (txbB d b) R.TXB_STAT_TRIES then s.txFail d b 4
        else (s.outcome d b 1).bump (canCnt d 4)
    s.canQuiet d

/-- CAN_RECOVERY_DONE. -/
def canRecoveryDoneF (d : Nat) (s : State) : State :=
  if s.opSt d != opRECOVERING then s
  else (s.ps (canB d) [(R.CAN_STATUS_TEC, 0), (R.CAN_STATUS_REC, 0), (R.CAN_STATUS_STATE, 0)]).setOp d opRUNNING

/-- Start recovery by register or command. -/
def State.startRecovery (s : State) (d : Nat) : State :=
  if s.cst d R.CAN_STATUS_STATE = 2 && s.opSt d != opRECOVERING && s.opSt d != opDISABLED then s.setOp d opRECOVERING else s

/-! ### Rate detection (R341, R342) -/

/-- The loaded candidates of a controller: those whose NBT word is not 0. -/
def State.cands (s : State) (d : Nat) : List Nat := (List.range 8).filter fun c => s.rd (canI d + 0x40 + 0x10 * c) != 0

/-- Start detection on a disabled controller. -/
def State.detect (s : State) (d : Nat) : State :=
  match s.cands d with
  | [] => s
  | c :: _ =>
    let s := s.modCan d fun x => { x with detCand := c, detRound := 0, detGood := 0, detBrs := false, detReady := false }
    let s := (s.ps (canI d) [(R.CAN_DETSTAT_INDEX, 0xFF), (R.CAN_DETSTAT_DATA_UNVERIFIED, 0)]).ps (canB d) [(R.HDR_CTRL_EN, 1), (R.HDR_CTRL_QUIESCED, 0)]
    s.setOp d opDETECTING

/-- Answer the CAN_DETECT that waits. -/
def State.detAnswer (s : State) (d idx : Nat) : State :=
  match (s.can d).detSlot with
  | some (w, k) => (s.modCan d fun x => { x with detSlot := none }).answer w k stOK 0 (leBytes 1 idx)
  | none => s

/-- The candidate fails: the next one, the next round, or the end of detection. -/
def State.detFail (s : State) (d : Nat) : State :=
  let x := s.can d
  let next (c r : Nat) : State := s.modCan d fun x => { x with detCand := c, detRound := r, detGood := 0, detBrs := false, detReady := false }
  match (s.cands d).find? (x.detCand < ·) with
  | some c => next c x.detRound
  | none =>
    if x.detRound < 3 then next ((s.cands d).headD 0) (x.detRound + 1)
    else
      let s := ((s.canEvt d R.CAN_EVT_DET_FAIL).raise d 0x1306 0).p (canB d) R.HDR_CTRL_EN 0
      (s.canQuiet d).detAnswer d 0xFF

/-- A clean frame under detection; the second in a row accepts the candidate. -/
def State.detFrame (s : State) (d : Nat) (brs : Bool) : State :=
  let x := s.can d
  if !x.detReady then s
  else if x.detGood = 0 then s.modCan d fun x => { x with detGood := 1, detBrs := brs }
  else
    let c := canI d + 0x40 + 0x10 * x.detCand
    let s := s.setTiming d (s.rd c) (s.rd (c + 4)) (s.rd (c + 8))
    let s := s.ps (canI d) [(R.CAN_DETSTAT_INDEX, x.detCand), (R.CAN_DETSTAT_DATA_UNVERIFIED, if x.detBrs || brs then 0 else 1), (R.CAN_MODE_LOM, 1)]
    ((s.canEvt d R.CAN_EVT_DET_OK).setOp d opRUNNING).detAnswer d x.detCand

/-- CAN_DETECT_DWELL_EXPIRY. -/
def canDwellExpiryF (d : Nat) (s : State) : State := if s.opSt d = opDETECTING then s.detFail d else s

/-! ### Receiving (R349 to R352) -/

/-- The identifier as the registers hold it: a base identifier in bits [28:18]. -/
def canId (f : CanFrame) : Nat := if f.ide then f.id % 2 ^ 29 else f.id % 2 ^ 11 * 2 ^ 18

/-- Whether the compared bits of an identifier equal a register's: of a base identifier bits [28:18] only. -/
def idMatch (f : CanFrame) (val mask : Nat) : Bool := ((canId f).xor val) &&& mask &&& (if f.ide then 2 ^ 29 - 1 else 2 ^ 29 - 2 ^ 18) == 0

/-- Write the 64 data bytes of a stored frame. -/
def State.canData (s : State) (a : Nat) (f : CanFrame) : State := s.wrBytes a (bytesAt (f.data.take (canLen f)) 0 64)

/-- A frame is stored: event and count. -/
def State.rxStored (s : State) (d : Nat) : State := (s.canEvt d R.CAN_EVT_RX_STORED).bump (canCnt d 0)

/-- A frame is lost: count, event and source. -/
def State.rxLost (s : State) (d : Nat) : State := ((s.bump (canCnt d 3)).canEvt d R.CAN_EVT_RX_LOST).raise d 0x1303 0

/-- A frame in object mode (R350). -/
def State.objStore (s : State) (d : Nat) (f : CanFrame) : State :=
  match (List.range 64).find? fun o => s.gb (objB d o) R.OBJ_CFG_EN && (s.gb (objB d o) R.OBJ_CFG_IDE == f.ide)
      && idMatch f (s.g (objB d o) R.OBJ_CFG_ID) (2 ^ 29 - 1) with
  | none => s.bump (canCnt d 2)
  | some o =>
    let b := objB d o
    let was := s.gb b R.OBJ_STAT_NEW
    let s := s.ps b [(R.OBJ_STAT_SEQ, s.g b R.OBJ_STAT_SEQ + 1), (R.OBJ_STAT_NEW, 1), (R.OBJ_STAT_LOST, if was then 1 else s.g b R.OBJ_STAT_LOST),
      (R.OBJ_STAT_FDF, if f.fdf then 1 else 0), (R.OBJ_STAT_BRS, if f.brs then 1 else 0), (R.OBJ_STAT_ESI, if f.esi then 1 else 0),
      (R.OBJ_STAT_RTR, if f.rtr then 1 else 0), (R.OBJ_STAT_DLC, f.dlc), (R.OBJ_TS_TS, s.canTs d f.sof)]
    let s := (s.canData (b + R.OBJ_DATA_DATA.off) f).rxStored d
    if was then s.rxLost d else s

/-- The put and get indices of a queue. -/
def State.qPut (s : State) (d q : Nat) : Nat := s.g (canI d + 0x10 * q) R.Q_PUT_PUT
def State.qGet (s : State) (d q : Nat) : Nat := s.g (canI d + 0x10 * q) R.Q_GET_GET
def State.qOcc (s : State) (d q : Nat) : Nat := (s.qPut d q + 128 - s.qGet d q) % 128

/-- A frame in queue mode (R351, R352). -/
def State.queueStore (s : State) (d : Nat) (f : CanFrame) : State :=
  match (List.range 128).find? fun p => s.gb (canI d + 8 * p) R.FLT_MATCH_EN && (s.gb (canI d + 8 * p) R.FLT_MATCH_IDE == f.ide)
      && idMatch f (s.g (canI d + 8 * p) R.FLT_MATCH_MATCH) (s.g (canI d + 8 * p) R.FLT_MASK_MASK) with
  | none => s.bump (canCnt d 2)
  | some p =>
    let q := s.g (canI d + 8 * p) R.FLT_MATCH_Q
    let lost := (s.can d).lost.getD q 0
    if 64 ≤ s.qOcc d q then (s.modCan d fun x => { x with lost := x.lost.set q (min 255 (lost + 1)) }).rxLost d
    else
      let a := qeB d q (s.qPut d q)
      let b1 (b : Bool) (i : Nat) : Nat := if b then 2 ^ i else 0
      let s := s.wr a (BitVec.ofNat 32 (b1 f.ide 31 + b1 f.fdf 30 + b1 f.brs 29 + canId f))
      let s := s.wr (a + 4) (BitVec.ofNat 32 (lost * 2 ^ 24 + b1 f.esi 23 + b1 f.rtr 22 + p * 2 ^ 15 + f.dlc % 16))
      let s := (s.wr (a + 8) (BitVec.ofNat 32 (s.canTs d f.sof))).canData (a + 0x20) f
      let s := s.p (canI d + 0x10 * q) R.Q_PUT_PUT (s.qPut d q + 1)
      (s.modCan d fun x => { x with lost := x.lost.set q 0 }).rxStored d

/-- Whether the package filters by queues (R338). -/
def Part.queueMode (p : Part) : Bool := p == .msd8

def State.rxStore (s : State) (d : Nat) (f : CanFrame) : State := if s.part.queueMode then s.queueStore d f else s.objStore d f

/-- REC after a frame received without error (ISO 11898-1): one less, or, from above 127, an open value between 119 and 127. -/
def State.recGood (s : State) (d : Nat) : State :=
  let r := s.cst d R.CAN_STATUS_REC
  if 127 < r then
    let (v, s) := s.fresh
    s.confine d (s.cst d R.CAN_STATUS_TEC) (119 + v % 9)
  else s.confine d (s.cst d R.CAN_STATUS_TEC) (r - 1)

/-- CAN_FRAME_RX (R349): a frame that passes every check is acknowledged, whether or not a filter accepts it. -/
def canFrameRxF (d : Nat) (f : CanFrame) (s : State) : State :=
  if s.opSt d = opDETECTING then (if f.own then s else s.detFrame d f.brs)
  else if s.opSt d != opRUNNING || s.cst d R.CAN_STATUS_STATE = 2 || (f.fdf && s.ci d R.CAN_MODE_FD_EN = 0) then s
  else if f.own then (if s.ci d R.CAN_MODE_LBACK = 1 then s.rxStore d f else s)
  else ((if s.canDrives d then s.emit (.canAck d) else s).recGood d).rxStore d f

/-- CAN_RX_ERROR. -/
def canRxErrorF (d : Nat) (e : CanRxErr) (s : State) : State :=
  if s.opSt d = opDETECTING then (if (s.can d).detReady then s.detFail d else s)
  else if s.opSt d != opRUNNING || s.cst d R.CAN_STATUS_STATE = 2 then s
  else (s.errorFlag d).confine d (s.cst d R.CAN_STATUS_TEC) (s.cst d R.CAN_STATUS_REC + (match e with | .plain => 1 | .more => 8))

/-- Q_GET_WRITE (R352). -/
def qGetApply (d q : Nat) (v : Word) (s : State) : State :=
  if s.qOcc d q < (bits v 6 0 + 128 - s.qGet d q) % 128 then s.canEvt d R.CAN_EVT_Q_BAD else s.p (canI d + 0x10 * q) R.Q_GET_GET (bits v 6 0)

/-- OBJ_CFG_WRITE (R350). -/
def objCfgApply (d o : Nat) (v : Word) (s : State) : State :=
  s.ps (objB d o) [(R.OBJ_CFG_EN, bits v 31 31), (R.OBJ_CFG_IDE, bits v 30 30), (R.OBJ_CFG_ID, bits v 28 0), (R.OBJ_STAT_NEW, 0), (R.OBJ_STAT_LOST, 0)]

/-! ### Sleep and wake (R354, R355) -/

/-- Answer the CAN_SLEEP that waits. -/
def State.sleepAnswer (s : State) (d : Nat) : State :=
  match (s.can d).slSlot with
  | some (w, k) => (s.modCan d fun x => { x with slSlot := none }).answer w k stOK 0 []
  | none => s

/-- CAN_SLEEP_ENTRY at a bus idle: a wake event in the same cycle, or a buffer requested since, prevents the sleep. -/
def canSleepEntryF (d : Nat) (wake : Bool) (s : State) : State :=
  if !(s.can d).sleepReq || s.opSt d != opRUNNING || (s.can d).active.isSome then s
  else
    let s := s.modCan d fun x => { x with sleepReq := false }
    (if wake || s.anyTxBusy d then s else s.setOp d opSLEEPING).sleepAnswer d

/-- Whether a frame is the wake frame. -/
def State.wakeMatch (s : State) (d : Nat) (f : CanFrame) : Bool :=
  let wd := leBytes 4 (s.ci d R.CAN_WK_DATA_LO_DATA) ++ leBytes 4 (s.ci d R.CAN_WK_DATA_HI_DATA)
  s.ci d R.CAN_WAKECFG_EN_FRAME = 1 && (decide (s.ci d R.CAN_WAKECFG_WK_IDE = 1) == f.ide) && idMatch f (s.ci d R.CAN_WK_ID_ID) (s.ci d R.CAN_WK_MASK_MASK)
    && s.ci d R.CAN_WAKECFG_WK_DLC == f.dlc
    && (s.ci d R.CAN_WAKECFG_DATA_EN = 0 || (List.range 8).any fun i => (wd.getD i 0) &&& ((f.data.take (canLen f)).getD i 0) != 0)

/-- CAN_WAKE_EVENT. -/
def canWakeEventF (d : Nat) (k : CanWake) (s : State) : State :=
  if s.opSt d != opSLEEPING then s
  else match k with
    | .edge n => if s.ci d R.CAN_WAKECFG_EN_EDGE = 1 && s.ci d R.CAN_WAKECFG_WFILT ≤ n then s.wakeCan d else s
    | .frame f => if s.wakeMatch d f then (s.wakeCan d).rxStore d f else s

/-- CAN_INTEGRATION_DONE. -/
def canIntegrationDoneF (d : Nat) (s : State) : State :=
  if s.opSt d = opINTEGRATING then s.setOp d opRUNNING
  else if s.opSt d = opDETECTING then s.modCan d fun x => { x with detReady := true }
  else s

/-- A written CAN_OPCTL word, one effect per bit; a refused sleep sets SLEEP_REFUSED. -/
def opctlSleep (d : Nat) (s : State) : State :=
  if s.anyTxBusy d then s.canEvt d R.CAN_EVT_SLEEP_REFUSED
  else if s.opSt d = opRUNNING || s.opSt d = opINTEGRATING then s.modCan d fun x => { x with sleepReq := true } else s
def opctlWake (d : Nat) (s : State) : State :=
  if s.opSt d = opSLEEPING then s.wakeCan d else (s.modCan d fun x => { x with sleepReq := false }).sleepAnswer d
def opctlRecover (d : Nat) (s : State) : State := s.startRecovery d
def opctlDetect (d : Nat) (s : State) : State := if 2 ≤ d && s.opSt d = opDISABLED then s.detect d else s

def opctlApply (d : Nat) (v : Word) (s : State) : State :=
  let s := if bits v 0 0 = 1 then opctlSleep d s else s
  let s := if bits v 1 1 = 1 then opctlWake d s else s
  let s := if bits v 2 2 = 1 then opctlRecover d s else s
  if bits v 3 3 = 1 then opctlDetect d s else s

/-! ### Commands (R358) -/

def State.canArg (s : State) (w k : Nat) : Nat := s.cmdByte w k 8

def State.onCan (s : State) (d : Nat) (r : Rsp) : Rsp := if s.dieUp d then r else busy 5

def canSetPortB (w k : Nat) (s : State) : Rsp :=
  let d := s.canArg w k
  let fl := s.cmdByte w k 10
  let n : Word := BitVec.ofNat 32 (s.cp w k 12 4)
  let b : Word := BitVec.ofNat 32 (s.cp w k 16 4)
  let t : Word := BitVec.ofNat 32 (s.cp w k 20 4)
  s.checked w k [(8, s.nd ≤ d), (9, 1 < s.cmdByte w k 9), (10, 31 < fl), (11, 31 < s.cmdByte w k 11), (12, !(nbtOk n && dbtOk b))] <| s.onCan d <|
  let same := s.rd (canI d + 4) = n &&& nbtMask && s.rd (canI d + 8) = b &&& dbtMask && s.rd (canI d + 0xC) &&& tdcMask = t &&& tdcMask
  if s.gb (canB d) R.HDR_CTRL_EN && !same then busy 2
  else
    let s1 := (s.setTiming d n b t).ps (canI d) [(R.CAN_MODE_FD_EN, fl % 2), (R.CAN_MODE_LOM, fl / 2), (R.CAN_MODE_LBACK, fl / 4),
      (R.CAN_MODE_TXORD, fl / 8), (R.CAN_MODE_AUTO_RECOV, fl / 16), (R.CAN_MODE_RETRY, s.cmdByte w k 11)]
    .ok (if s.cmdByte w k 9 = 1 then s1.canEnable d else s1.canDisable d) []

def canSetFilterB (w k : Nat) (s : State) : Rsp :=
  let d := s.canArg w k
  let o := s.cmdByte w k 9
  let fl := s.cmdByte w k 10
  let id := s.cp w k 12 4
  s.checked w k [(8, s.nd ≤ d), (9, (if s.part.queueMode then 127 else 63) < o), (10, 7 < fl), (12, 2 ^ 29 ≤ id), (16, 2 ^ 29 ≤ s.cp w k 16 4)] <| s.onCan d <|
  if s.part.queueMode then
    .ok (s.ps (canI d + 8 * o) [(R.FLT_MATCH_EN, fl), (R.FLT_MATCH_IDE, fl / 2), (R.FLT_MATCH_Q, fl / 4), (R.FLT_MATCH_MATCH, id), (R.FLT_MASK_MASK, s.cp w k 16 4)]) []
  else .ok (objCfgApply d o (BitVec.ofNat 32 (fl % 2 * 2 ^ 31 + fl / 2 % 2 * 2 ^ 30 + id)) s) []

def canSendB (w k : Nat) (s : State) : Rsp :=
  let d := s.canArg w k
  let b := s.cmdByte w k 9
  let fl := s.cmdByte w k 10
  let id := s.cp w k 12 4
  s.checked w k [(8, s.nd ≤ d), (9, 2 < b), (10, 15 < fl), (11, 15 < s.cmdByte w k 11), (12, 2 ^ 29 ≤ id)] <| s.onCan d <|
  if s.txBusy d b then busy 1
  else
    let s1 := s.ps (txbB d b) [(R.TXB_ID_IDE, fl), (R.TXB_ID_FDF, fl / 2), (R.TXB_ID_BRS, fl / 4), (R.TXB_ID_ID, id), (R.TXB_CTL_RTR, fl / 8),
      (R.TXB_CTL_DLC, s.cmdByte w k 11)]
    .ok ((s1.wrBytes (txbB d b + R.TXB_DATA_DATA.off) (s.cmdBytes w k 16 64)).txRequest d b) []

def canRecvB (w k : Nat) (s : State) : Rsp :=
  let d := s.canArg w k
  let o := s.cmdByte w k 9
  let n := s.cmdByte w k 10
  s.checked w k [(8, s.nd ≤ d), (9, (if s.part.queueMode then 1 else 63) < o), (10, n = 0 || 3 < n), (11, 1 < s.cmdByte w k 11)] <| s.onCan d <|
  if s.part.queueMode then
    let m := min n (s.qOcc d o)
    let s := if m = 0 then s else s.canChecked d (qeB d o (s.qGet d o))
    let l := ((List.range m).map fun i => s.canEntry (qeB d o (s.qGet d o + i))).flatten
    .ok (if s.cmdByte w k 11 = 1 then s.p (canI d + 0x10 * o) R.Q_GET_GET (s.qGet d o + m) else s) l
  else if s.gb (objB d o) R.OBJ_STAT_NEW then
    let s := s.canChecked d (objB d o + R.OBJ_CFG_EN.off)
    .ok (s.ps (objB d o) [(R.OBJ_STAT_NEW, 0), (R.OBJ_STAT_LOST, 0)]) (s.canEntry (objB d o + R.OBJ_CFG_EN.off))
  else .ok s []

def canQueryB (w k : Nat) (s : State) : Rsp :=
  let d := s.canArg w k
  s.checked w k [(8, s.nd ≤ d)] <| s.onCan d <|
  .ok s (leBytes 4 (s.rd (canB d + R.CAN_STATUS_STATE.off)).toNat ++ leBytes 4 (s.rd (canI d + R.CAN_DETSTAT_INDEX.off)).toNat
    ++ ((List.range 3).map fun b => leBytes 4 (s.rd (txbB d b + R.TXB_STAT_OUTCOME.off)).toNat).flatten
    ++ ((List.range 8).map fun i => leBytes 4 (s.cnt (canCnt d i))).flatten)

def canDetectB (w k : Nat) (s : State) : Rsp :=
  let d := s.canArg w k
  let n := s.cmdByte w k 9
  let word (c i : Nat) : Word := BitVec.ofNat 32 (s.cp w k (16 + 12 * c + 4 * i) 4)
  s.checked w k [(8, s.nd ≤ d || d < 2), (9, n = 0 || 8 < n), (12, (List.range (min n 8)).any fun c => !(nbtOk (word c 0) && dbtOk (word c 1)))] <| s.onCan d <|
  if s.gb (canB d) R.HDR_CTRL_EN || s.opSt d != opDISABLED then busy 2
  else
    let s1 := upTo 8 (fun c s => upTo 3 (fun i s => s.wr (canI d + 0x40 + 0x10 * c + 4 * i) (if c < n then word c i else 0)) s) s
    let s1 := (s1.p (canI d) R.CAN_DWELL_DWELL (s.cp w k 10 2)).detect d
    .wait (s1.modCan d fun x => { x with detSlot := some (w, k) }) none

def canSetWakeB (w k : Nat) (s : State) : Rsp :=
  let d := s.canArg w k
  s.checked w k [(8, s.nd ≤ d)] <| s.onCan d <|
  let b := canI d
  let s1 := (s.wr (b + 0x20) (BitVec.ofNat 32 (s.cp w k 12 4) &&& 0xF00FFFFF)).wr (b + 0x24) (BitVec.ofNat 32 (s.cp w k 16 4 % 2 ^ 29))
  let s1 := (s1.wr (b + 0x28) (BitVec.ofNat 32 (s.cp w k 20 4 % 2 ^ 29))).wr (b + 0x2C) (BitVec.ofNat 32 (s.cp w k 24 4))
  .ok (s1.wr (b + 0x30) (BitVec.ofNat 32 (s.cp w k 28 4))) []

def canSleepB (w k : Nat) (s : State) : Rsp :=
  let d := s.canArg w k
  s.checked w k [(8, s.nd ≤ d), (9, 1 < s.cmdByte w k 9)] <| s.onCan d <|
  if s.cmdByte w k 9 = 1 then .ok (opctlWake d s) []
  else if s.anyTxBusy d then busy 1
  else if s.opSt d = opRUNNING || s.opSt d = opINTEGRATING then .wait (s.modCan d fun x => { x with sleepReq := true, slSlot := some (w, k) })
  else .ok s []

def canRecoverB (w k : Nat) (s : State) : Rsp :=
  let d := s.canArg w k
  s.checked w k [(8, s.nd ≤ d)] <| s.onCan d <|
  if s.cst d R.CAN_STATUS_STATE != 2 || s.ci d R.CAN_MODE_AUTO_RECOV = 1 then busy 3 else .ok (s.startRecovery d) []

end Sys2Proof.Machine
end

