-- ==== Sys2Proof/Machine/FaultOps.lean ====
section
/-!
DEFINITION. What the part does about faults: management clusters and leadership, the units that ISOLATE takes out, the spares that SPARE
brings in, HALT, escalation, injection, the memory scrubs and sweeps, and the fault commands (R12, R20, R59 to R62, R314 to R336, R387).
-/
namespace Sys2Proof.Machine
open Sys2Proof

/-! ### Clusters and the leader (R59 to R62, R74) -/

def State.cluster (s : State) (d : Nat) : Cluster := tgetD s.clusters d {}
def State.setCluster (s : State) (d : Nat) (x : Cluster) : State := { s with clusters := tset s.clusters d x }

/-- In service (R60): started, not declared failed, its die not isolated. -/
def State.inService (s : State) (d : Nat) : Bool := s.dieUp d && ((s.cluster d).st == .running || (s.cluster d).st == .restarting)

/-- The dies whose clusters are in service, ascending. -/
def State.served (s : State) : List Nat := (List.range s.nd).filter s.inService

/-- MBX_LEADER.STATE codes. -/
def ldSTARTING : Nat := 0
def ldRUNNING : Nat := 1
def ldRECOVERING : Nat := 2
def ldUPDATING : Nat := 3

/-- A live activation goes on (R81): the next cluster in service restarts on the image; the leader is the last, and its restart is a fault
reaction to every other command (R74). After the last one the leader runs and FW_ACTIVATE is answered. -/
def State.updStep (s : State) : State :=
  match s.boot.update with
  | none => s
  | some u =>
    match u.left.filter s.inService with
    | [] =>
      let s := { s with boot := { s.boot with update := none }, leaderSt := if s.leaderSt = ldUPDATING then ldRUNNING else s.leaderSt }
      match u.ans with
      | some (w, k) => s.answer w k stOK 0 []
      | none => s
    | d :: rest =>
      let s := { s with boot := { s.boot with update := some { u with left := d :: rest } } }
      let s := s.setCluster d { s.cluster d with st := .restarting, copy := s.boot.img u.slot }
      if d = s.leader then s.abortAll u.ans else s

/-- The first cluster of a live activation has left service (R61): the activation goes on with the next. -/
def State.updSkip (s : State) : State :=
  match s.boot.update with
  | some u => if u.left.headD 8 < 8 && !s.inService (u.left.headD 8) then s.updStep else s
  | none => s

/-- Apply the rule of R60; a change of leader aborts the commands in flight (R74) and waits for the takeover (R62). With no cluster in
service nobody runs commands, and those in flight are aborted (log entry 194). -/
def State.electLeader (s : State) : State :=
  if s.leaderSt = ldSTARTING then s
  else match s.served with
    | d :: _ => (if d = s.leader then s else { s with leader := d, leaderSt := ldRECOVERING }.abortAll).updSkip
    | [] => if s.leaderSt = ldRECOVERING then s else { s with leaderSt := ldRECOVERING }.abortAll

/-- The fault reaction of a cluster in service (R74, R317): it restarts, and the commands in flight are aborted. -/
def State.clusterFault (s : State) (d : Nat) : State :=
  let x := s.cluster d
  if !(x.st == .running || x.st == .restarting) then s
  else
    let recent := x.faults.filter fun t => s.clock.now < t + 5000000000
    let s := s.setCluster d { x with st := .restarting, faults := recent ++ [s.clock.now] }
    (if s.leader = d then { s with leaderSt := ldRECOVERING } else s).abortAll

/-- Three fault reactions within 10 s (R61). -/
def Cluster.thrice (x : Cluster) (now : Nat) : Bool := 3 ≤ (x.faults.filter fun t => now < t + 5000000000).length

/-- STATE once the leader runs: updating while a live activation is under way (R81), else running. -/
def State.leaderRuns (s : State) : State :=
  if s.leaderSt = ldRECOVERING && s.inService s.leader && (s.cluster s.leader).st == .running then
    { s with leaderSt := if s.boot.update.isSome then ldUPDATING else ldRUNNING }
  else s

/-- CLUSTER_RESTART: it verifies its copy of the image again and runs it (R59); in a live activation the next cluster follows (R81). -/
def clusterRestartF (d : Nat) (s : State) : State :=
  let x := s.cluster d
  if x.st != .restarting || x.thrice s.clock.now || !s.dieUp d || s.boot.check x.copy != 0 then s
  else
    match s.boot.update with
    | some u =>
      if u.left.head? = some d then
        (({ s with boot := { s.boot with update := some { u with left := u.left.tail } } } : State).setCluster d
          { x.load x.copy u.slot with st := .running }).leaderRuns.updStep
      else (s.setCluster d { x with st := .running }).leaderRuns
    | none => (s.setCluster d { x with st := .running }).leaderRuns

/-- CLUSTER_DECLARED_FAILED (R61). -/
def clusterDeclaredFailedF (d : Nat) (s : State) : State :=
  let x := s.cluster d
  if x.st != .restarting then s else ((s.setCluster d { x with st := .failed }).raise d 0x0401 0).electLeader

/-- LEADER_TAKEOVER (R62). -/
def leaderTakeoverF (s : State) : State := s.leaderRuns

/-! ### Links between dies (R13, R329, R387) -/

/-- Whether the link on a die's port carries traffic. -/
def State.linkUp (s : State) (d p : Nat) : Bool :=
  match neighbour s.part d p with
  | some e => s.dieUp d && s.dieUp e && (s.g (xdfB d p) R.XDF_LINK_STATE == 2 || s.g (xdfB d p) R.XDF_LINK_STATE == 3)
  | none => false

/-- Dies within n hops of a die over links that are up. -/
def State.within (s : State) (d : Nat) : Nat → List Nat
  | 0 => [d]
  | n + 1 =>
    let l := s.within d n
    (l ++ (l.map fun e => ((List.range 4).filter (s.linkUp e)).filterMap (neighbour s.part e)).flatten).eraseDups

/-- Both ends of a link. -/
def State.linkEnds (s : State) (d p : Nat) : List (Nat × Nat) :=
  match neighbour s.part d p with
  | some e => [(d, p), (e, farPort p)]
  | none => []

def State.putLink (s : State) (d p : Nat) (l : List (Fld × Nat)) : State := each (s.linkEnds d p) (fun e s => s.ps (xdfB e.1 e.2) l) s

/-- A replica whose home die is gone, or more than four hops away, raises SRC_LOST (R151, R329). -/
def State.replicaCheck (s : State) : State :=
  each s.reps (fun e s =>
    let d := e.1 / 32
    let h := e.1 % 32 / 4
    if s.dieUp d && !(s.dieUp h && (s.within d 4).contains h) then srcLostF d (e.1 % 32) s else s) s

/-! ### Units taken out (R20, R315, R316) -/

/-- Contexts of the named sources owe GAP_BEFORE (R20). -/
def State.owe (s : State) (p : Nat → Nat → Bool) : State :=
  each s.ctxs (fun e s => if p (s.cg e.1 R.CSM_CTX_CFG_SRC_KIND) (s.cg e.1 R.CSM_CTX_SRC_SRC_ID) then s.modCtx e.1 fun x => { x with gapOwed := true } else s) s

def State.oweChans (s : State) (chs : List Nat) : State := s.owe fun k id => k < 7 && chs.contains id

/-- The open records of a channel go: they close and expire. -/
def State.dropOpen (s : State) (ch : Nat) : State :=
  let mine := s.recs.filter fun r => r.isOpen && r.chNo == ch
  each mine (fun r s => ((s.closeRec r.id 0 []).expireNow { r with isOpen := false }).sweep) s

/-- A channel stops: its tags, its lines and its open records go. -/
def State.isolateChan (s : State) (ch : Nat) : State :=
  if !(s.chan ch).admitted then s
  else
    let l := ch / 24 * 8 + (s.chan ch).slice
    let s := each (s.chan ch).tun (fun t s => s.tunnelFail t) s
    let s := s.modChan ch fun c => { c with st := .isolated, tags := [], ready := [], held := none, fus := [], fuOpen := false, tun := [] }
    let s := { s with sliceQ := tset s.sliceQ l ((tgetD s.sliceQ l []).filter (·.ch != ch)) }
    ((s.modCor ch fun c => { c with lines := [] }).dropOpen ch).oweChans [ch]

/-- A generator stops and fires no more. -/
def State.isolateGen (s : State) (i : Nat) : State :=
  let s := ((s.setGen i { s.gen i with running := false, stopFu := false, due := [], pre := [], isolated := true }).syncRun i).splStopped i
  s.oweChans ((s.chans.filter fun e => e.2.gen == some i).map (·.1))

/-- The generators that a WEB source instance of a die feeds there: an encoder unit's, or those on a replica. -/
def State.fedBy (s : State) (d inst : Nat) : List Nat :=
  if inst < 4 then s.genIds.filter fun i => s.genSrc i == 4 * d + inst && s.genKind i != 0
  else match (s.repsOf d)[inst - 4]? with
    | some src => s.genIds.filter fun i => s.genSrc i == src && s.genKind i != 0 && (s.genDies i).contains d
    | none => []

/-- A generator fed by a lost replica stops on that die (R151): everywhere where it is homed there; else its replica on the die fires no more. -/
def State.loseFeed (s : State) (d i : Nat) : State :=
  if i / 8 = d || s.genHome i = d then s.isolateGen i
  else if (s.gen i).cut.contains d then s
  else (s.setGen i { s.gen i with cut := (s.gen i).cut ++ [d] }).oweChans ((s.chans.filter fun e => e.2.gen == some i && e.1 / 24 == d).map (·.1))

/-- The generators on a replica or an encoder unit that has come back fire again where it feeds them. -/
def State.regainFeed (s : State) (d i : Nat) : State :=
  s.setGen i (if i / 8 = d || s.genHome i = d then { s.gen i with isolated := false } else { s.gen i with cut := (s.gen i).cut.filter (· != d) })

/-- What a physical lane carries is lost as a link loss of its protocol (R83, R96, R97): LINK_DOWN of a Strand channel (R124), the link of a MAC,
or the PCIe link. -/
def State.linkLoss (s : State) (d p : Nat) : State :=
  match s.logOf d p with
  | none => s
  | some l =>
    if s.laneMode d p = 3 then (if 48 ≤ l then pcieLinkDownF d s else s)
    else if s.laneMode d p = 2 then (match s.macOfLane d l with | some m => ethLinkDownAllF d m s | none => s)
    else match s.chanOfLane d l with
      | some ch => linkDownF ch s
      | none => s

/-- SELF_CHECK_DONE (R96): a failed check raises RX_CORE; a passed one LINK_LOSS, and the lane's protocol loses its link while the lane waits for
its signal in TRAIN (log entry 214). -/
def selfCheckDoneF (d l : Nat) (pass : Bool) (s : State) : State :=
  let x := s.lane d l
  if !x.selfChk then s
  else
    let s := s.setLane d l { x with selfChk := false }
    if pass then ((if s.laneSt d l = laACTIVE then s.toTrain d l else s).raise d 0x0502 l).linkLoss d l else s.raise d 0x0501 l

/-- Every output of a die goes to its inactive level, its windows void (R316, R335). -/
def State.outputsOff (s : State) (d : Nat) : State :=
  upTo 16 (fun o s => ({ s with windows := tdel s.windows (d * 16 + o) }).emit (.output d o (s.gb (outB d o) R.TRG_OUT_CFG_POL))) s

/-- Records homed on a die are gone with its holding store; deliveries under way have no record left. -/
def State.dropStore (s : State) (d : Nat) : State :=
  let s := { s with recs := s.recs.filter fun r => r.die != d }
  let s := s.p (hldB d) R.HLD_OPEN_COUNT 0
  each (s.ctxs.filter fun e => s.ctxDie e.1 = d) (fun e s =>
    let s := s.modCtx e.1 fun x => { x with gapOwed := true }
    let p := s.pathOf e.1
    if s.cg e.1 R.CSM_CTX_CFG_PATH = 0 && (s.ring p.1 (s.ringOf e.1)).bound == some e.1 then
      s.modRing p.1 (s.ringOf e.1) fun x => { x with cur := none, wb := [], fly := [] }
    else s) s

/-- A port is gone: links, records in flight over it, and Coil writes on it. -/
def State.loseMacs (s : State) (d : Nat) : State := upTo 8 (fun m s => ethLinkDownAllF d m s) s

/-- One die stops (R20, R316). -/
def State.stopDie (s : State) (d : Nat) : State :=
  let s := (s.haltPort d 5).loseMacs d
  let s := s.wr (pciB d + R.PCI_LINK_DL_UP.off) 0
  let s := each ((s.chans.filter fun e => e.1 / 24 == d).map (·.1)) (fun ch s => s.isolateChan ch) s
  let s := upTo 8 (fun k s => if (s.gen (8 * d + k)).running then s.isolateGen (8 * d + k) else s) s
  let s := (s.outputsOff d).dropStore d
  let s := upTo 8 (fun k s => s.isolateGroup (8 * d + k)) s
  let s := upTo 4 (fun p s => s.putLink d p [(R.XDF_LINK_STATE, 4)]) s
  ({ s with handoffs := s.handoffs.filter fun e => e.1 != d && e.2.1 != d, isolated := s.isolated ++ [d] }.pkgEvt R.FLT_PKG_EVT_DIE_ISOLATED d).indIsolated d

/-- Isolate a die; every die left with no route to the leader's die follows (R329). -/
def State.isolateDie (s : State) (d : Nat) : State :=
  if !s.dieUp d then s
  else
    let s := (s.stopDie d).electLeader
    let cut := s.upDies.filter fun e => !(s.within s.leader s.nd).contains e
    let s := if s.dieUp s.leader && (List.range s.nd).any (fun e => (List.range 4).any (s.linkUp e)) then each cut (fun e s => s.stopDie e) s else s
    let s := if d = 0 then s.unlock else s
    s.electLeader.replicaCheck

/-- A link is lost (R329): both ends show it, the routes change, and dies without a route to the leader are isolated. -/
def State.loseLink (s : State) (d p : Nat) : State :=
  let s := each (s.linkEnds d p) (fun e s =>
    let s := if s.unitOut e.1 0x15 e.2 then s else { s with outUnits := s.outUnits ++ [(e.1, 0x15, e.2)] }
    (s.p (xdfB e.1 e.2) R.XDF_LINK_STATE 4).evt (xdfB e.1 e.2) R.XDF_EVT_E [R.XDF_EVT_LINK_LOST] [(R.XDF_EVT_LANE, 0)]) s
  let cut := s.upDies.filter fun e => !(s.within s.leader s.nd).contains e
  (each cut (fun e s => s.stopDie e) s).electLeader.replicaCheck

/-! ### HALT (R334, R335) -/

def State.haltPart (s : State) (d src inst : Nat) : State :=
  if s.halted then s
  else
    let s := { s with halted := true, aliveOn := false }.emit (.alive false)
    let s := s.ps fltpBase [(R.FLT_ALIVE_TOGGLING, 0), (R.FLT_ALIVE_HALTED, 1), (R.FLT_ALIVE_INST, inst), (R.FLT_ALIVE_SRC, src), (R.FLT_ALIVE_DIE_DIE, d)]
    let s := s.pkgEvt R.FLT_PKG_EVT_HALT d
    let s := each s.genIds (fun i s => if (s.gen i).running then ((s.setGen i { s.gen i with running := false, due := [], pre := [] }).syncRun i).splStopped i else s) s
    each s.upDies (fun e s => s.outputsOff e) s

/-! ### Spares (R322 to R328) -/

def hbmI (d : Nat) : Nat := indBase d 0xD
def hbmCh (d f : Nat) : Nat := hbmI d + 4 * f

/-- The rate of a sweep (R325), in GB/s. -/
def State.sweepRate (s : State) (d : Nat) : Nat := min 256 (max 50 (1400 - s.g (hldB d) R.HLD_TRES_RATE / 10))

/-- Start a sweep; its start in TIME cycles stands at the register's live count. -/
def State.startSweep (s : State) (d rev : Nat) : State :=
  let s := s.ps (hbmI d) [(R.HBM_SWEEP_ACTIVE, 1), (R.HBM_SWEEP_REVERSE, rev), (R.HBM_SWEEP_ROW, 0), (R.HBM_SWEEP_RATE_RATE, s.sweepRate d)]
  { s with live := tset s.live (hbmI d + R.HBM_SWEEP_ROW.off) s.clock.now }

/-- The failed channel of a stack, if one is. -/
def State.hbmFailed (s : State) (d : Nat) : Option Nat := (List.range 17).find? fun f => s.g (hbmCh d f) R.HBM_CHAN_STATE == 2

/-- HBM_CHAN at SPARE: true where the stack's parity channel stands in; for the channel that is already out nothing is left to do (R326). -/
def State.hbmSpare (s : State) (d f : Nat) : Bool × State :=
  if s.hbmFailed d = some f then (true, s)
  else if (s.hbmFailed d).isSome || s.gb (hbmI d) R.HBM_SWEEP_ACTIVE then (false, s)
  else
    let s := s.setUnprot d 2 true
    let s := (s.measured (hbmCh d f) R.HBM_CHAN_RECON).p (hbmCh d f) R.HBM_CHAN_STATE 2
    (true, if f = 16 then s else s.startSweep d 0)

/-- HBM_SWEEP_DONE (R325, R326): the parity channel holds the data of the failed one, or the stack is protected again. -/
def hbmSweepDoneF (d : Nat) (s : State) : State :=
  if !s.gb (hbmI d) R.HBM_SWEEP_ACTIVE then s
  else
    let rev := s.gb (hbmI d) R.HBM_SWEEP_REVERSE
    let s := s.ps (hbmI d) [(R.HBM_SWEEP_ACTIVE, 0), (R.HBM_SWEEP_ROW, 46875000)]
    if rev then
      let s := upTo 17 (fun f s => s.ps (hbmCh d f) [(R.HBM_CHAN_STATE, if f = 16 then 1 else 0), (R.HBM_CHAN_HOLDS, 0x1F)]) s
      s.setUnprot d 2 false
    else match s.hbmFailed d with
      | some f => s.ps (hbmCh d 16) [(R.HBM_CHAN_STATE, 3), (R.HBM_CHAN_HOLDS, f)]
      | none => s

/-- SRAM_ROW at SPARE: the row moves to the macro's next spare row, if one is left; FLT_SRC_INFO names it. -/
def State.rowSpare (s : State) (d mno : Nat) : Bool × State :=
  let key := d * 512 + mno
  let used := tgetD s.remaps key []
  if 4 ≤ used.length then (false, s)
  else
    let used := used ++ [s.g (srcBase d 0x1801 mno) R.FLT_SRC_INFO_INFO % 1024]
    let s := { s with remaps := tset s.remaps key used }
    (true, if used.length = 4 then s.setUnprot d 3 true else s)

/-- Flits of a link's data channel are resent (R328): XDF_RETRY with its flag and count. -/
def State.xdfRetry (s : State) (d p : Nat) : State :=
  (s.evt (xdfB d p) R.XDF_EVT_E [R.XDF_EVT_RETRY] [(R.XDF_EVT_LANE, 0)]).bump (xdfB d p + R.XDF_CNT_COUNT.off + 8)

/-- XDF_LANE at SPARE: a repair lane of the link takes over (R328), which leaves the link unprotected; a further one acts as ISOLATE
(R20, R322). Whether flits of the data channel are caught in the repair, and so resent, and whether the lane carried a copy of a firing-sideband
message that comes out invalid, is open (log entry 235). -/
def State.xdfSpare (s : State) (d p : Nat) : Bool × State :=
  let b := xdfB d p
  let left := s.g b R.XDF_LINK_SPARE_LEFT
  if left = 0 || s.gb b R.XDF_LINK_REPAIRED then (false, s)
  else
    let s := s.putLink d p [(R.XDF_LINK_SPARE_LEFT, left - 1), (R.XDF_LINK_REPAIRED, 1)]
    let lane := s.g (srcBase d 0x1500 p) R.FLT_SRC_INFO_INFO % 256
    let s := (s.evt b R.XDF_EVT_E [R.XDF_EVT_LANE_REPAIRED] [(R.XDF_EVT_LANE, lane)]).bump (b + R.XDF_CNT_COUNT.off + 12)
    let s := each (s.linkEnds d p) (fun e s => s.setUnprot e.1 4 true) s
    let (v, s) := s.fresh
    let s := if v % 2 = 1 then (s.xdfRetry d p).raise d 0x1501 p else s
    (true, if v / 2 % 2 = 1 then (s.evt b R.XDF_EVT_E [R.XDF_EVT_SB_COPY_BAD] [(R.XDF_EVT_LANE, lane)]).bump (b + R.XDF_CNT_COUNT.off + 24) else s)

/-- Whether R97 answers a fault of a lane without isolating it: the lane is not eligible or its group not armed, or the spare stands by; a spare
in use is judged by the lane it carries, and one that carries none is not in use. -/
def State.laneCanSpare (s : State) (d p : Nat) : Bool :=
  let g := if p < 64 then p / 16 else p - 64
  let l := if p < 64 then p else (s.logOf d p).getD (s.g (spareB d g) R.LNQ_SPARE_STAT_LANE)
  !(tbit (s.g (spareB d g) R.LNQ_SPARE_POL_ELIGIBLE) (l % 16) && s.gb (spareB d g) R.LNQ_SPARE_POL_ARMED)
    || (if p < 64 then s.laneSt d (64 + g) = laSTANDBY else s.g (spareB d g) R.LNQ_SPARE_STAT_STATE != 1)

/-- The SPARE reaction of a lane fault, and the link loss of what the lane carried where no swap carries it on (R83, R97). -/
def State.laneReact (s : State) (d p src : Nat) : State :=
  let t := s.laneSpare d p src
  if s.laneSt d p != laFAILED && t.laneSt d p = laFAILED && (t.swapOf d p).isNone then t.linkLoss d p else t

/-- The ISOLATE reaction of a source whose group has a unit: the unit of R315 stops. -/
def State.isolateOne (s : State) (d src inst : Nat) : State :=
  let g := src / 256
  let out (s : State) : State := if s.unitOut d g inst then s else { s with outUnits := s.outUnits ++ [(d, g, inst)] }
  if g = 0 then s.isolateDie d
  else if g = 4 then s.clusterFault d
  else if g = 5 then
    let s := match (s.logOf d inst).bind (s.chanOfLane d) with
      | some ch => s.oweChans [ch]
      | none => s
    let s := (s.isolateLane d inst).linkLoss d inst
    let s := if inst < 64 then s else
      ({ s with swaps := tdel s.swaps (d * 4 + (inst - 64)) } : State).p (spareB d (inst - 64)) R.LNQ_SPARE_STAT_STATE 2
    s.syncLaneProt d
  else if g = 6 then out (s.isolateChan (24 * d + inst))
  else if g = 7 then out (each (s.fedBy d inst) (fun i s => s.loseFeed d i) s)
  else if g = 8 then out (s.isolateGen (8 * d + inst))
  else if g = 9 || g = 0xA then
    let role := s.g (corB d inst) R.COR_SLICE_ROLE
    if role = 0 || role = 2 then
      let l := s.g (corB d inst) R.COR_SLICE_LOGICAL
      let s := s.oweChans (s.sliceChans d l)
      let s := s.isolateSlice d l inst
      { s with outUnits := s.outUnits ++ [(d, 9, inst)] }
    else if role = 1 then ({ s with outUnits := s.outUnits ++ [(d, 9, inst)] }.p (corB d inst) R.COR_SLICE_ROLE 3).syncSliceProt d
    else s
  else if g = 0xB then (out s).owe fun k id => k == 6 && id == 24 * d + inst
  else if g = 0xC then out (if s.cbound inst then (s.unbind inst 1).1 else s)
  else if g = 0xD then
    if s.unitOut d 0xD 0 then s else ({ s with outUnits := s.outUnits ++ [(d, 0xD, 0)] }).dropStore d
  else if g = 0xE then (if (s.ringSt d inst = 2 || s.ringSt d inst = 3) then out (s.haltByHost d inst) else out s)
  else if g = 0xF then out (pcieLinkDownF d s)
  else if g = 0x10 then out (ethLinkDownAllF d inst s)
  else if g = 0x11 then out s.unlock
  else if g = 0x12 then (if src % 256 = 1 then
      (if s.unitOut d 0x112 inst then s else { s with outUnits := s.outUnits ++ [(d, 0x112, inst)] }).failTarget inst else out s)
  else if g = 0x13 then
    let s := s.modCan d fun x => { x with active := none, abort := false }
    (out (s.canDisable d)).detAnswer d 0xFF |>.sleepAnswer d
  else if g = 0x15 then (if s.g (xdfB d inst) R.XDF_LINK_STATE = 4 || (neighbour s.part d inst).isNone then s else s.loseLink d inst)
  else if g = 0x17 then out (s.isolateGroup (8 * d + inst))
  else s

/-- The number of instances of a group's unit; none where no group has the code. -/
def groupUnits (g : Nat) : Option Nat :=
  if g = 0x14 then some 1 else if g = 0x12 then some 256 else (srcDef (g * 256)).map (·.1)

/-- The groups that may own an SRAM macro, and the owner of one (log entry 193). -/
def sramGroups : List Nat := [0, 4, 5, 6, 7, 8, 9, 0xB, 0xC, 0xD, 0xE, 0xF, 0x10, 0x11, 0x12, 0x13, 0x15, 0x17]
def sramOwner (d mno : Nat) : Nat × Nat :=
  let v := Config.sramOwner (512 * d + mno)
  let g := sramGroups.getD (v % 18) 0
  (g, v / 18 % max 1 (if g = 7 then 4 else if g = 0x12 then 16 else if g = 0xD then 1 else (groupUnits g).getD 1))

/-- The ISOLATE reaction: for an SRAM macro, the unit that owns it. -/
def State.isolateUnit (s : State) (d src inst : Nat) : State :=
  if src / 256 = 0x18 then s.isolateOne d ((sramOwner d inst).1 * 256) (sramOwner d inst).2 else s.isolateOne d src inst

/-- The SPARE reaction (R322): true where a spare takes over; otherwise the source is handled as ISOLATE. -/
def State.spareUnit (s : State) (d src inst : Nat) : Bool × State :=
  let g := src / 256
  if g = 5 then
    if (src = 0x0500 || src = 0x0501 || src = 0x0503) && s.laneCanSpare d inst then (true, s.laneReact d inst src) else (false, s)
  else if g = 9 || g = 0xA then
    let role := s.g (corB d inst) R.COR_SLICE_ROLE
    if (role = 0 && (s.spareSlice d).isSome) || role = 1 || role = 3 then (true, s.sliceSpare d inst) else (false, s)
  else if src = 0x0D03 then s.hbmSpare d inst
  else if src = 0x1801 then s.rowSpare d inst
  else if src = 0x1500 then s.xdfSpare d inst
  else if src = 0x1201 then
    let v := s.tg inst R.COL_TGT_CFG_VOL
    let st := s.tg inst R.COL_TGT_CFG_STATE
    let held := st = 2 || st = 4
    (if held then !(s.spares v).isEmpty else st = 3 && s.slotTgt v (s.tg inst R.COL_TGT_CFG_SLOT) != 0xFF, if held then s.failTarget inst else s)
  else (false, s)

/-- One reaction at a level of SPARE or above, with its count in FLT_CNT. -/
def State.react (s : State) (d src inst lev : Nat) : State :=
  if 5 ≤ lev then s.haltPart d src inst
  else if lev = 3 then
    match s.spareUnit d src inst with
    | (true, s) => s.bump (fltB d + 0x8C)
    | (false, _) => (s.bump (fltB d + 0x90)).isolateUnit d src inst
  else (s.bump (fltB d + 0x90)).isolateUnit d src inst

/-- The key of the unit of a source: COR and DMS sources share a slice, and HBM_CHAN and a Coil target are units of their own. -/
def unitKey (src : Nat) : Nat :=
  if src / 256 = 0xA then 9 else if src = 0x0D03 then 0x10D else if src = 0x1201 then 0x112 else src / 256

/-- The reactions put in hand by a command, in order: of the events of one unit the highest level acts, and a HALT comes before all (R318, R335). -/
def State.settleN (s : State) : Nat → State
  | 0 => s
  | n + 1 =>
    match s.todo with
    | [] => s
    | (d, src, inst, lev) :: rest =>
      match s.todo.find? fun e => e.2.2.2 == 5 with
      | some e => { s with todo := [] }.react e.1 e.2.1 e.2.2.1 5
      | none =>
        let same (e : Nat × Nat × Nat × Nat) : Bool := e.1 == d && unitKey e.2.1 == unitKey src && e.2.2.1 == inst
        let top := (rest.filter same).foldl (fun (m : Nat × Nat) e => if m.2 < e.2.2.2 then (e.2.1, e.2.2.2) else m) (src, lev)
        ({ s with todo := rest.filter fun e => !same e }.react d top.1 inst top.2).settleN n

def State.settle (s : State) : State := s.settleN 64

/-! ### Events of sources without a row of their own (R316, R332) -/

/-- A word of a holding-store channel is rebuilt (R324): the fourth within 1.0 ms raises HBM_CHAN. -/
def State.rebuilt (s : State) (d f : Nat) : State :=
  let l := (tgetD s.recon (d * 32 + f) []).filter fun t => s.clock.now < t + 500000
  let s : State := { s with recon := tset s.recon (d * 32 + f) (l ++ [s.clock.now]) }
  if 3 ≤ l.length then s.raise d 0x0D03 f else s

/-- What the owning block records of an event beside its source: its own flags and counters. A word that HLD_ECC reports was rebuilt from
its row where bit 31 of its capture is set, else corrected (log entry 195); that of CAN_RAM_UNCORR is the indirect address of the word
(log entry 237). -/
def State.blockEvent (s : State) (d src inst : Nat) (info : Nat := 0) : State :=
  if src = 0x0901 then s.bump (corCnt d inst 7)
  else if src = 0x0A00 then s.bump (dmsCnt d inst 7)
  else if src = 0x0B00 then s.bump (staCnt d 3)
  else if src = 0x0D00 then 
    let s := (s.evt (hldB d) R.HLD_EVT_E [R.HLD_EVT_ECC]).bump (hldCnt d 5)
    if tbit info 31 then s.rebuilt d inst else s
  else if src = 0x0D01 then
    let s := (s.evt (hldB d) R.HLD_EVT_E [R.HLD_EVT_UNCORR]).bump (hldCnt d 6)
    match s.recs.find? fun r => r.die == d && r.members.any fun m => m.st == RecSt.inflight with
    | some r => s.modRec r.id fun r => { r with members := r.members.map fun m => if m.st == RecSt.inflight then { m with crc := true } else m }
    | none => s
  else if src = 0x0F01 then (s.pciEvt d R.PCI_EVT_AER_CORR).bump (pciCnt d 3)
  else if src = 0x0F02 then (s.pciEvt d R.PCI_EVT_AER_UNCORR).bump (pciCnt d 4)
  else if src = 0x1704 then { s with inj := s.inj ++ [(d, src, inst, 3)] }
  else if src = 0x1001 then s.bump (ethCnt d inst 3)
  else if src = 0x1305 then s.canRamUncorr d info
  else if src = 0x1501 then s.xdfRetry d inst
  else s

/-- FAULT_EVENT. -/
def faultEventF (d src inst info : Nat) (s : State) : State :=
  if s.dieUp d && srcValid d src inst then (s.blockEvent d src inst info).raise d src inst info else s

/-- HEARTBEAT_MISS. -/
def heartbeatMissF (d : Nat) (s : State) : State := s.raise d 0x0007 0

/-- A signed byte. -/
def byteOf (x : Int) : Nat := (x % 256).toNat

/-- TEMP_THRESHOLD (R315, R380): a sensor reading, of the junction or of the stack, and the sources whose threshold it exceeds. -/
def tempThresholdF (d : Nat) (stack : Bool) (t : Int) (s : State) : State :=
  if stack then
    let s := s.p (hbmI d) R.HBM_TEMP_TEMP (byteOf t)
    if (s.g (hbmI d) R.HBM_TEMP_LIMIT : Int) < t then s.raise d 0x0D04 0 (byteOf t) else s
  else
    let b := sysB d
    let s := s.p b R.SYS_TEMP_TEMP (byteOf t)
    let s := if sint (s.g b R.SYS_TEMP_PEAK) 8 < t then s.p b R.SYS_TEMP_PEAK (byteOf t) else s
    let s := if (s.g b R.SYS_TEMP_HIGH : Int) < t then s.raise d 0x0004 0 (byteOf t) else s
    if 125 < t then s.raise d 0x0005 0 (byteOf t) else s

/-- REFERENCE_LOSS (R334): ALIVE stops. -/
def referenceLossF (s : State) : State :=
  if s.aliveOn then ({ s with aliveOn := false }.p fltpBase R.FLT_ALIVE_TOGGLING 0).emit (.alive false) else s

/-- The _UNCORR source of the unit that owns a macro, where its group has one for words in SRAM (R327): tables and rings of a slice, statistics,
splice stores, and the message RAM of a CAN controller. -/
def ownerUncorr (d mno : Nat) : Option (Nat × Nat) :=
  let (g, i) := sramOwner d mno
  if g = 9 then some (0x0902 + Config.sramOwner (512 * d + mno) % 2, i) else if g = 0xB then some (0x0B01, i) else if g = 0x13 then some (0x1305, i)
  else if g = 0x17 then some (0x1704, i) else none

/-- SRAM_SCRUB (R327): an error found by a pass; a correctable one at the same bit in two passes, or an uncorrectable one, raises SRAM_ROW; the
word of an uncorrectable one is reported first by the source of the macro's owner. -/
def sramScrubF (d mno row bit : Nat) (uncorr : Bool) (s : State) : State :=
  let e := (d * 512 + mno, row, bit)
  if uncorr then
    let s := match ownerUncorr d mno with
      | some (src, i) => (s.blockEvent d src i row).raise d src i row
      | none => s
    (s.raise d 0x1802 mno row).raise d 0x1801 mno row
  else
    let s := s.raise d 0x1800 mno row
    if s.corrected.contains e then { s with corrected := s.corrected.filter (· != e) }.raise d 0x1801 mno row
    else { s with corrected := s.corrected ++ [e] }

/-! ### Escalation and interrupts (R319, R321) -/

/-- The event of a source is raised to SPARE in its record and in its entry of the pending list, and counted. -/
def escalate (s : State) (d src inst : Nat) : State :=
  let b := srcBase d src inst
  let s : State := { s with srcs := tdel s.srcs b }
  let s : State := (s.ps b [(R.FLT_SRC_STAT_LEVEL, 3), (R.FLT_SRC_STAT_ESCALATED, 1)]).bump (fltB d + 0x84)
  let s : State := match s.plistOf d src inst with
    | some i => s.p (plistBase d i) R.FLT_PLIST_LEVEL 3
    | none => s
  { s with todo := s.todo ++ [(d, src, inst, 3)] }

/-- FAULT_ESCALATION: the deadline of a pending ATTEND event has come. -/
def faultEscalationF (d src inst : Nat) (s : State) : State :=
  match tget s.srcs (srcBase d src inst), s.gb (srcBase d src inst) R.FLT_SRC_STAT_PEND with
  | some _, true =>
    let t := escalate s d src inst
    bif Nat.ble (t.g fltpBase R.FLT_IRQ_MINLEV) 3 then t.irqCall else t
  | _, _ => s

/-- FAULT_IRQ_HOLDOFF_END. -/
def faultIrqHoldoffEndF (s : State) : State :=
  if s.irqAt.isNone then s else if s.irqHeld then s.irqSend else { s with irqAt := none }

/-- A clear of PEND under the sequence rule (R320). -/
def statApply (d src inst : Nat) (v : Word) (s : State) : State :=
  let b := srcBase d src inst
  let old := s.rd (b + 0x108)
  let new := seqClearWord old v 1 0x00F00000
  let s' := s.wr (b + 0x108) new
  if old &&& 1 != 0 && new &&& 1 = 0 then s'.srcCleared d src inst else s'

/-- FLT_SEV_WRITE (R320): a write of SEV (offset 0x100) or ESC (0x104). -/
def fltSevApply (d src inst off : Nat) (v : Word) (s : State) : State :=
  let b := srcBase d src inst
  if off = 0x100 then
    (if 5 < bits v 2 0 then s.evt (fltB d) R.FLT_EVT_E [R.FLT_EVT_VALUE_REFUSED] else s.p b R.FLT_SRC_SEV_SEV (bits v 2 0))
  else if bits v 16 0 < 10 || 100000 < bits v 16 0 then s.evt (fltB d) R.FLT_EVT_E [R.FLT_EVT_VALUE_REFUSED]
  else s.p b R.FLT_SRC_ESC_ESC (bits v 16 0)

/-! ### Injection (R332) -/

/-- The sources whose detection compares a check value. -/
def injectable (src : Nat) : Bool :=
  (src % 256 == 0xFF && (srcDef src).isSome) || [0x0600, 0x0601, 0x0602, 0x0900, 0x0901, 0x0902, 0x0903, 0x0904, 0x0A00, 0x0A01, 0x0B00, 0x0B01, 0x0D00, 0x0D01,
    0x0F02, 0x1001, 0x1304, 0x1305, 0x1501, 0x1702, 0x1703, 0x1704, 0x1800, 0x1802].contains src

/-- Whether a bit of a row is triplicated. -/
def RegRow.tmrBit (r : RegRow) (i : Nat) : Bool := r.flds.any fun f => f.tmr && f.lo ≤ i && i ≤ f.hi

/-- The TMR source of a block (R315): its instance numbers the blocks of its type on a die. -/
def tmrInst (slot : Nat) (b : Blk) : Nat :=
  match b with
  | .lnq => slot - 0x20 | .str => slot - 0x40 | .cor => slot - 0x60 | .dms => slot - 0x68 | .eth => slot - 0x70 | .xdf => slot - 2 | .mbx => slot - 4
  | _ => 0

/-- The first triplicated register of the block behind a TMR source, with its storage address. -/
def tmrHome (d src inst : Nat) : Option (Nat × RegRow) :=
  let pick (f : Nat → Option Blk) (base : Nat → Nat) : Option (Nat × RegRow) :=
    ((List.range 128).find? fun t => (f t).any fun b => b.code == src / 256 && tmrInst t b == inst).bind fun t =>
      (f t).bind fun b => (b.rows.find? fun r => r.flds.any (·.tmr)).map fun r => (base t + r.off, r)
  (pick slotBlk (blkAddr d)) <|> (if d = 0 then pick globalBlk (fun t => if t < 128 then 0x20000000 + 0x10000 * t else 0) else none)

/-- The sources whose next check is a row of the table, for which an injection waits. -/
def injWaits (src : Nat) : Bool :=
  [0x0600, 0x0601, 0x0602, 0x0900, 0x0901, 0x0902, 0x0903, 0x0904, 0x0A00, 0x0A01, 0x0B00, 0x0B01, 0x1304, 0x1305, 0x1702, 0x1703, 0x1704].contains src

/-- The source that a checker raises for an injected error: SEC-DED words have a source for each kind of error. A holding-store word with a
double error is rebuilt from its row and counts as HLD_ECC, unless a channel is already out of the row, which makes it HLD_UNCORR (R324, R325). -/
def State.injRaises (s : State) (d src mode : Nat) : Nat :=
  if src = 0x0D00 && mode = 2 && (s.hbmFailed d).isSome then 0x0D01
  else if src = 0x0D01 then 0x0CFF + mode else if [0x1800, 0x1802].contains src then (if mode = 1 then 0x1800 else 0x1802) else src

/-- An injection (R332): lost while PEND is set; one copy of a bit for a TMR source (log entry 94); else it waits for the next check that
is a row of the table, or is detected at once (log entry 95). -/
def State.inject (s : State) (d src inst mode : Nat) : State :=
  let s := s.bump (fltB d + 0x94)
  let info := if src = 0x0D00 && mode = 2 then 2 ^ 31 else 0
  let now (s : State) : State := (s.blockEvent d (s.injRaises d src mode) inst info).raise d (s.injRaises d src mode) inst info
  if s.gb (srcBase d src inst) R.FLT_SRC_STAT_PEND then s.raise d src inst 0
  else if src % 256 = 0xFF then
    match tmrHome d src inst with
    | some (a, r) =>
      let bit := ((List.range 32).find? r.tmrBit).getD 0
      if s.tmr.any fun e => e.1 == a && e.2.1 == bit then s else { s with tmr := s.tmr ++ [(a, bit, 1)] }
    | none => now s
  else if injWaits src then { s with inj := (s.inj.filter fun e => !(e.1 == d && e.2.1 == src && e.2.2.1 == inst)) ++ [(d, src, inst, mode)] }
  else now s

/-- FLT_SRC_INJ_GO: the effect of a written FLT_SRC_INJ word; MODE 0 or 3 inverts nothing. -/
def fltSrcInjApply (d src inst : Nat) (v : Word) (s : State) : State :=
  let s := s.p (srcBase d src inst) R.FLT_SRC_INJ_MODE (bits v 1 0)
  if bits v 8 8 = 0 || bits v 1 0 = 0 || bits v 1 0 = 3 then s
  else if injectable src then s.inject d src inst (bits v 1 0)
  else s.evt (fltB d) R.FLT_EVT_E [R.FLT_EVT_INJ_REFUSED]

/-! ### Views and commands (R336) -/

/-- The pending sources of a die: (storage base, level). A source whose PEND is set is listed among the registers. -/
def State.pendings (s : State) (d : Nat) : List (Nat × Nat) :=
  (s.regs.filter fun e => srcBase d 0 0 ≤ e.1 && e.1 < srcBase (d + 1) 0 0 && e.1 % 0x1000 == 0x108 && e.2.getLsbD 0).map fun e => (e.1 - 0x108, bits e.2 23 21)

/-- Group of a source's storage base. -/
def groupOfBase (b : Nat) : Nat := (b - 2 ^ 45) / 0x1000 / 65536 % 65536 / 256

def State.gsum (s : State) (d : Nat) : Word := (s.pendings d).foldl (fun w e => w ||| BitVec.ofNat 32 (2 ^ groupOfBase e.1)) 0

def State.pcount (s : State) (d : Nat) : Word :=
  let n := ((List.range 32).filter fun i => s.gb (plistBase d i) R.FLT_PLIST_VALID).length
  BitVec.ofNat 32 (((s.pendings d).map (·.2)).foldl max 0 * 256 + n)

/-- FLT_SRC_TLEFT: µs to the escalation, rounded up; 0 when none runs. -/
def State.tleft (s : State) (b : Nat) : Nat := match tget s.srcs b with
  | some x => (x.deadline - s.clock.now + 499) / 500
  | none => 0

/-- Die, source and instance of a fault command, and its checks. -/
def State.fltArg (s : State) (w k : Nat) : Nat × Nat × Nat := (s.cmdByte w k 8, s.cp w k 10 2, s.cp w k 12 2)
def State.fltChecks (s : State) (w k : Nat) : List (Nat × Bool) :=
  let (d, src, inst) := s.fltArg w k
  [(8, s.nd ≤ d), (10, d < s.nd && !srcValid d src inst)]

def fltQueryB (w k : Nat) (s : State) : Rsp :=
  let (d, src, inst) := s.fltArg w k
  let b := srcBase d src inst
  s.checked w k (s.fltChecks w k) <|
  if !s.dieUp d then busy 2
  else .ok s (leBytes 1 (s.g b R.FLT_SRC_SEV_SEV) ++ leBytes 1 (s.g b R.FLT_SRC_STAT_LEVEL) ++ leBytes 1 (s.g b R.FLT_SRC_STAT_PEND)
    ++ leBytes 1 (s.g b R.FLT_SRC_STAT_ESCALATED) ++ leBytes 4 (s.g b R.FLT_SRC_ESC_ESC) ++ leBytes 4 (s.tleft b) ++ leBytes 4 (s.cnt (b + R.FLT_SRC_CNT_COUNT.off))
    ++ leBytes 4 (s.cnt (b + R.FLT_SRC_LOST_LOST.off)) ++ leBytes 4 (s.g b R.FLT_SRC_INFO_INFO))

/-- Set severity and escalation time of an instance, or of all (0xFFFF), on a die. -/
def State.setSev (s : State) (d src inst sev esc : Nat) : State :=
  let n := ((srcDef src).map (·.1)).getD 0
  let one (i : Nat) (s : State) : State := s.ps (srcBase d src i) [(R.FLT_SRC_SEV_SEV, sev), (R.FLT_SRC_ESC_ESC, esc)]
  if !srcOnDie d src then s else if inst = 0xFFFF then upTo n one s else one inst s

def fltSetSeverityB (w k : Nat) (s : State) : Rsp :=
  let (d, src, inst) := s.fltArg w k
  let sev := s.cmdByte w k 14
  let esc := s.cp w k 16 4
  let all := d == 0xFF
  let known := match srcDef src with
    | some (n, _) => (all || srcOnDie d src) && (inst == 0xFFFF || inst < n)
    | none => false
  s.checked w k [(8, !all && decide (s.nd ≤ d)), (10, (all || decide (d < s.nd)) && !known), (14, 5 < sev), (16, esc < 10 || 100000 < esc)] <|
  if !all && !s.dieUp d then busy 2
  else
    let dies := if all then s.upDies else [d]
    let s1 := each dies (fun e s => s.setSev e src inst sev esc) s
    let s1 := { s1 with sevSet := s1.sevSet ++ (if all then (List.range s.nd) else [d]).map fun e => (e, src, inst, sev, esc) }
    .ok s1 (leBytes 1 (if all then ((List.range s.nd).filter fun e => !s.dieUp e).foldl (fun m e => m + 2 ^ e) 0 else 0))

def fltAckB (w k : Nat) (s : State) : Rsp :=
  let (d, src, inst) := s.fltArg w k
  let b := srcBase d src inst
  let seq := s.g b R.FLT_SRC_STAT_SEQ
  s.checked w k (s.fltChecks w k) <|
  if !s.dieUp d then busy 2
  else if seq != s.cmdByte w k 14 then .err stBUSY 6 (leBytes 1 seq)
  else .ok (statApply d src inst (BitVec.ofNat 32 (seq * 2 ^ 24 + 1)) s) (leBytes 1 seq)

def fltListB (w k : Nat) (s : State) : Rsp :=
  let d := s.cmdByte w k 8
  s.checked w k [(8, s.nd ≤ d)] <|
  .ok s (leBytes 4 (s.pcount d).toNat ++ ((List.range 32).map fun i => leBytes 4 (s.rd (plistBase d i + 0x200)).toNat).flatten)

def fltInjectB (w k : Nat) (s : State) : Rsp :=
  let (d, src, inst) := s.fltArg w k
  let m := s.cmdByte w k 14
  s.checked w k (s.fltChecks w k ++ [(14, m = 0 || 2 < m || (d < s.nd && srcValid d src inst && !injectable src))]) <|
  if !s.dieUp d then busy 2
  else if s.gb (srcBase d src inst) R.FLT_SRC_STAT_PEND then busy 3
  else .ok (s.inject d src inst m) []

/-! ### Unit reset (R330) -/

/-- Contexts homed on a die are bound again (R331): sequences start at 0 and the first record carries GAP_BEFORE. -/
def State.rebind (s : State) (d : Nat) : State :=
  each (s.ctxs.filter fun e => s.ctxDie e.1 = d) (fun e s =>
    let b := ctxBase e.1
    (s.ps b [(R.CSM_CTX_NEXT_SEQ, 0), (R.CSM_CTX_ACKED_SEQ, 0xFFFFF), (R.CSM_CTX_DONE_SEQ, 0xFFFFF)]).modCtx e.1 fun x => { x with gapOwed := true }) s

/-- Every channel of a holding store returns to its place. -/
def State.hbmFresh (s : State) (d : Nat) : State :=
  let s := upTo 17 (fun f s => s.ps (hbmCh d f) [(R.HBM_CHAN_STATE, if f = 16 then 1 else 0), (R.HBM_CHAN_HOLDS, 0x1F)]) s
  let s : State := { s with recon := s.recon.filter fun e => e.1 / 32 != d }
  (s.ps (hbmI d) [(R.HBM_SWEEP_ACTIVE, 0), (R.HBM_SWEEP_REVERSE, 0)]).setUnprot d 2 false

/-- Whether a unit may be reset: isolated, failed or retired by sparing. -/
def State.unitDown (s : State) (d g inst : Nat) : Bool :=
  if g = 4 then (s.cluster d).st == .failed
  else if g = 5 then s.laneSt d inst = laFAILED
  else if g = 9 || g = 0xA then s.g (corB d inst) R.COR_SLICE_ROLE == 3
  else if g = 0xD then (if s.unitOut d 0xD 0 then inst == 0 else s.g (hbmCh d inst) R.HBM_CHAN_STATE == 2)
  else if g = 0x15 then s.g (xdfB d inst) R.XDF_LINK_STATE == 4
  else if g = 8 then s.unitOut d g inst || (s.gen (8 * d + inst)).isolated
  else g != 0x18 && s.unitOut d g inst

/-- A unit that has passed its reset returns (R330). -/
def State.unitBack (s : State) (d g inst : Nat) : State :=
  let back (s : State) : State := { s with outUnits := s.outUnits.filter (· != (d, g, inst)) }
  let freeGen (i : Nat) (s : State) : State := s.setGen i { s.gen i with isolated := false }
  if g = 4 then
    let s := s.setCluster d { s.cluster s.leader with st := .running, faults := [] }
    s.electLeader
  else if g = 5 then s.laneReset d inst
  else if g = 6 then (back s).modChan (24 * d + inst) fun c => { c with st := if c.st == .isolated then .joining else c.st }
  else if g = 7 then each (s.fedBy d inst) (fun i s => s.regainFeed d i) (back s)
  else if g = 8 then freeGen (8 * d + inst) (back s)
  else if g = 9 || g = 0xA then { (s.sliceReset d inst) with outUnits := s.outUnits.filter (· != (d, 9, inst)) }
  else if g = 0xD then
    if s.unitOut d 0xD 0 then ((back s).hbmFresh d).rebind d else (s.p (hbmCh d inst) R.HBM_CHAN_STATE 4).startSweep d 1
  else if g = 0xE then (if s.ringSt d inst = 4 then (back s).restartFetch d inst else back s)
  else if g = 0x15 then
    let s := { s with outUnits := s.outUnits.filter fun u => !(s.linkEnds d inst).any fun e => u == (e.1, 0x15, e.2) }
    let s := s.putLink d inst [(R.XDF_LINK_STATE, 2), (R.XDF_LINK_REPAIRED, 0), (R.XDF_LINK_SPARE_LEFT, 4)]
    each (s.linkEnds d inst) (fun e s => s.setUnprot e.1 4 ((List.range 4).any fun p => (neighbour s.part e.1 p).isSome && s.gb (xdfB e.1 p) R.XDF_LINK_REPAIRED)) s
  else if g = 0x17 then (back s).resetGroup (8 * d + inst)
  else back s

/-- FLT_UNIT_RESET; `pass` is the outcome of the unit's reset and test. -/
def fltUnitResetB (pass : Bool) (w k : Nat) (s : State) : Rsp :=
  let d := s.cmdByte w k 8
  let g := s.cmdByte w k 9
  let inst := s.cp w k 10 2
  s.checked w k [(8, s.nd ≤ d), (9, (groupUnits g).isNone), (10, match groupUnits g with | some n => decide (n ≤ inst) | none => false)] <|
  if !s.dieUp d then busy 2
  else if !s.unitDown d g inst then busy 1
  else if !pass then busy 0
  else .ok (s.unitBack d g inst) []

end Sys2Proof.Machine
end

