-- ==== Sys2Proof/Machine/Package.lean ====
section
/-!
DEFINITION. The figures of the three parts that no register shows: balls and their rows, rails and their windows, the scan chain, heat, outline
and ordering (R1, R359 to R361, R378, R380, R382, R383).
-/
namespace Sys2Proof.Machine
open Sys2Proof

/-- The 19 letters of the ball rows (R359). -/
def rowLetters : List Char := "ABCDEFGHJKLMNPTUVWY".toList

/-- The name of ball row n, counted from 0 at the corner of ball A1. -/
def rowName (n : Nat) : String :=
  let c (i : Nat) : List Char := [rowLetters.getD i 'A']
  String.ofList (if n < 19 then c n else c (n / 19 - 1) ++ c (n % 19))

/-- Rows, and columns, of the ball grid. -/
def Part.ballRows : Part → Nat
  | .msd2 => 48
  | .msd4 => 64
  | .msd8 => 88

/-- A group of balls (R360): how many each die and the package have. -/
structure BallGroup where
  name   : String
  perDie : Nat
  whole  : Nat
  deriving DecidableEq, Repr

/-- The ball groups of a part. -/
def Part.ballGroups (p : Part) : List BallGroup :=
  [⟨"Lanes", 256, 0⟩, ⟨"SerDes reference", 2, 0⟩, ⟨"PCIe reference", 2, 0⟩, ⟨"PCIe port reset", 1, 0⟩, ⟨"Multi-function pins", 48, 0⟩,
    ⟨"Core rail sense", 2, 0⟩, ⟨"Boot flash", 0, 7⟩, ⟨"Package", 0, 10⟩, ⟨"Power", 328, 8⟩,
    ⟨"Ground", 0, match p with | .msd2 => 1001 | .msd4 => 1515 | .msd8 => 2607⟩]

/-- All balls of a part. -/
def Part.balls (p : Part) : Nat := (p.ballGroups.map fun g => g.perDie * p.dies + g.whole).foldl (· + ·) 0

/-- A supply rail (R361): its order, nominal voltage in 0.1 mV, window in per cent, absolute maximum in 0.1 mV, and balls per die (for VDD_AON
per package). -/
structure Rail where
  name    : String
  order   : Nat
  nominal : Nat
  window  : Nat
  maximum : Nat
  balls   : Nat
  deriving DecidableEq, Repr

/-- The rails in the order of the table, which is that of the bits of SYS_SUPPLY. -/
def rails : List Rail :=
  [⟨"VDD_AON", 1, 8000, 3, 9500, 8⟩, ⟨"VDD_IO", 2, 18000, 5, 21000, 8⟩, ⟨"VDD_CORE", 3, 7500, 3, 9000, 120⟩, ⟨"VDD_SRAM", 3, 8500, 3, 10000, 24⟩,
    ⟨"VDD_XDF", 3, 7500, 3, 9000, 16⟩, ⟨"AVDD_LANE", 4, 9000, 2, 10500, 64⟩, ⟨"AVDD_LANE_H", 5, 12000, 3, 14000, 24⟩, ⟨"VPP_HBM", 6, 18000, 5, 21000, 8⟩,
    ⟨"VDD_HBM", 7, 11000, 3, 13000, 32⟩, ⟨"VDDQ_HBM", 8, 4000, 5, 5500, 32⟩]

/-- Whether a voltage, in 0.1 mV, lies in the operating window of a rail. -/
def railOk (rail v : Nat) : Bool :=
  match rails[rail]? with
  | some r => r.nominal * (100 - r.window) ≤ v * 100 && v * 100 ≤ r.nominal * (100 + r.window)
  | none => true

/-- The IR length of the scan chain (R378). -/
def Part.irLength (p : Part) : Nat := 4 + 8 * p.dies

/-- Outline, heat and ordering of a part (R380, R382, R383): body in mm, height in 0.01 mm, mass in g, theta-jc in mK/W, maximum power in W, order
code and parts to a tray. -/
structure Outline where
  body      : Nat
  height    : Nat
  mass      : Nat
  theta     : Nat
  power     : Nat
  orderCode : String
  tray      : Nat
  deriving DecidableEq, Repr

def Part.outline : Part → Outline
  | .msd2 => ⟨50, 460, 62, 80, 200, "MSD-2-A1-M-T", 10⟩
  | .msd4 => ⟨66, 490, 105, 45, 390, "MSD-4-A1-M-T", 6⟩
  | .msd8 => ⟨90, 530, 198, 25, 760, "MSD-8-A1-M-T", 4⟩

/-- The case temperature at maximum power for a junction at 105 degrees, in thousandths of a degree (R380). -/
def Part.caseLimit (p : Part) : Nat := 105000 - p.outline.power * p.outline.theta

end Sys2Proof.Machine
end

