-- ==== Sys2Proof/Machine/BootOps.lean ====
section
/-!
DEFINITION. Power and reset, boot, the boot record and the image checks, the reset of one die, multi-function pins and boundary scan
(R331, R363 to R379, R384).
-/
namespace Sys2Proof.Machine
open Sys2Proof

/-! ### Boot records (R373) -/

/-- A copy of the boot record is valid when MAGIC and CRC match. -/
def recOk (l : List Byte) : Bool := leAt l 0 4 == 0x43524259 && leAt l 60 4 == crc32c (bytesAt l 0 60)
def recGen (l : List Byte) : Nat := leAt l 4 4
def recPref (l : List Byte) : Nat := leAt l 8 1

/-- The copy in force: the valid one of higher GEN, copy A when they are equal. -/
def Boot.record (b : Boot) : Option (List Byte) :=
  if recOk b.recA && (!recOk b.recB || recGen b.recB ≤ recGen b.recA) then some b.recA
  else if recOk b.recB then some b.recB else none

/-- The plan and the preferred slot in force; with no valid copy, group 3 of die 0 alone is in PCIe mode. -/
def Boot.planBytes (b : Boot) : List Byte := match b.record with
  | some l => bytesAt l 16 32
  | none => [0, 0, 0, 0xFF] ++ List.replicate 28 0
def Boot.pref (b : Boot) : Nat := match b.record with
  | some l => recPref l % 2
  | none => 0

/-- The mode of a quad in a plan. -/
def planMode (plan : List Byte) (d q : Nat) : Nat := leAt plan (4 * d) 4 / 2 ^ (2 * q) % 4
/-- The mode a lane group runs under a plan: its non-OFF quads share one mode that R84 and R85 allow. -/
def groupOk (plan : List Byte) (d g : Nat) : Bool :=
  let ms := (List.range 4).map fun i => planMode plan d (4 * g + i)
  let on := ms.filter (· != 0)
  match on with
  | [] => true
  | m :: _ => on.all (· == m) && (m != 3 || (g == 3 && on.length == 4))

/-- Write the older copy of the boot record with a new PREF or PLAN; its GEN is the newer copy's plus 1, an open value where neither
copy is valid (log entry 80). -/
def State.writeRecord (s : State) (pref : Nat) (plan : List Byte) : Nat × State :=
  let b := s.boot
  let r : Nat × State := match b.record with
    | some l => ((recGen l + 1) % 2 ^ 32, s)
    | none => s.fresh
  let head := leBytes 4 0x43524259 ++ leBytes 4 r.1 ++ leBytes 1 pref ++ List.replicate 7 0 ++ bytesAt plan 0 32 ++ List.replicate 12 0
  let l := head ++ leBytes 4 (crc32c head)
  let toB := if recOk b.recA then !recOk b.recB || recGen b.recB ≤ recGen b.recA else recOk b.recA
  (r.1, { r.2 with boot := if toB then { r.2.boot with recB := l } else { r.2.boot with recA := l } })

/-- The flash cannot be reached: die 0 is isolated or in reset, or its cluster is declared failed (R80, R331). -/
def State.flashOut (s : State) : Bool := !s.dieUp 0 || (s.cluster 0).st == .failed

/-! ### Resets (R370, R371) -/

/-- The package in reset: what a cold reset keeps, and nothing else. -/
def State.inReset (s : State) : State :=
  { State.reset with
    part := s.part, free := s.free, out := s.out, pending := s.pending, jtagCe := s.jtagCe, taps := s.taps,
    boot := { img0 := s.boot.img0, img1 := s.boot.img1, recA := s.boot.recA, recB := s.boot.recB, revoked := s.boot.revoked,
              svnFloor := s.boot.svnFloor, perst := s.boot.perst } }.emit (.alive false)

/-- COLD_RESET. -/
def coldResetF (s : State) : State := s.inReset

/-- WARM_RESET: OTP, flash, row remaps, SYS_TEMP.PEAK and the count of warm resets stay. -/
def State.warmReset (s : State) (cause : Nat) : State :=
  let t := { s.inReset with remaps := s.remaps }
  let t := { t with boot := { t.boot with nextSlot := s.boot.nextSlot } }
  upTo s.nd (fun d t => t.ps (sysB d) [(R.SYS_TEMP_PEAK, s.g (sysB d) R.SYS_TEMP_PEAK),
    (R.SYS_RESET_CAUSE_COUNT, s.g (sysB d) R.SYS_RESET_CAUSE_COUNT + 1), (R.SYS_RESET_CAUSE_CAUSE, cause)]) t

/-- WARM_RESET: a reset that comes while the part is in reset has no effect, but JTAG_CE then holds the part (R371); that of
DEV_WARM_RESET comes only when the command has asked for it. -/
def warmResetF (c : WarmCause) (s : State) : State :=
  match c with
  | .jtagCe =>
    let s := { s with jtagCe := true }
    if s.boot.released then s.warmReset 3 else s
  | .command => if s.boot.released && s.boot.warmDue then s.warmReset 2 else s
  | .rstn => if s.boot.released then s.warmReset 1 else s

/-- PORT_RESET: PERSTn of a die goes low, or is released (R255, R370). -/
def portResetF (d : Nat) (low : Bool) (s : State) : State :=
  let s := { s with boot := { s.boot with perst := if low then s.boot.perst.filter (· != d) ++ [d] else s.boot.perst.filter (· != d) } }
  if !low || !s.boot.released then s
  else
    (pcieLinkDownF d s).cfgReset d

/-- PCIE_LINK_UP: a port in reset does not train (R371). -/
def portLinkUpF (d sp wd : Nat) (flit : Bool) (s : State) : State :=
  if s.boot.perst.contains d || s.unitOut d 0xF 0 then s else pcieLinkUpF d sp wd flit s

/-! ### Boot (R374 to R377) -/

/-- A group whose planned modes break R84 or R85 stays OFF. -/
def State.startGroup (s : State) (plan : List Byte) (d g : Nat) : State :=
  if groupOk plan d g then
    upTo 4 (fun i s => let m := planMode plan d (4 * g + i); if m = 0 then s else s.setQuadMode d (4 * g + i) m) s
  else s

/-- What every die does before the plan: links train, supplies are in their windows, the slices in service run (log entry 53). -/
def State.startDie (s : State) (d : Nat) : State :=
  let s := s.p (sysB d) R.SYS_SUPPLY_INWIN 0x3FF
  let s := upTo 4 (fun p s => match neighbour s.part d p with
    | some e => s.ps (xdfB d p) [(R.XDF_LINK_STATE, 2), (R.XDF_LINK_PEER, e)]
    | none => s) s
  upTo 4 (fun p s => s.sliceOn d p true) s

/-- The image slot that boots: the slot FW_ACTIVATE named or else the preferred one, and after it the other. -/
def State.bootSlot (s : State) : Option Nat :=
  let first := s.boot.nextSlot.getD s.boot.pref
  if s.boot.valid first then some first else if s.boot.valid (1 - first) then some (1 - first) else none

/-- The read mode that the boot ROM selects from those the flash advertises, a bit for each code of SYS_FLASH.MODE (R372): the higher code comes
first, and 1-1-1 where nothing is advertised. -/
def flashMode (modes : Nat) : Nat := ((List.range 5).filter (tbit modes)).foldl max 0

/-- The most a mode reads at 100 MHz, in MB/s. -/
def flashTop (mode : Nat) : Nat := if 3 ≤ mode then 100 else if 1 ≤ mode then 50 else 12

/-- RESET_RELEASE: steps 1 to 5 of R374. The flash advertises modes and gives a read rate; the dies of `failed` fail the digest check
three times. -/
def resetReleaseF (flashModes flashRate : Nat) (failed : List Nat) (s : State) : State :=
  if s.boot.released then s
  else
    let plan := s.boot.planBytes
    let s := { s with clock := {}, jtagCe := false, aliveOn := true, boot := { s.boot with released := true } }.emit (.alive true)
    let s := s.p fltpBase R.FLT_ALIVE_TOGGLING 1
    let s := upTo s.nd (fun d s => s.startDie d) s
    let s := s.ps (sysB 0) [(R.SYS_FLASH_MODE, flashMode flashModes), (R.SYS_FLASH_RATE, min flashRate (flashTop (flashMode flashModes)))]
    let s := upTo s.nd (fun d s => upTo 4 (fun g s => s.startGroup plan d g) s) s
    let s := if (List.range s.nd).any fun d => s.groupMode d 3 == 3 then s else upTo 4 (fun i s => s.setQuadMode 0 (12 + i) 3) s
    match s.bootSlot with
    | some k =>
      let s := { s with boot := { s.boot with verified := some k, nextSlot := none } }
      each (failed.filter fun d => 0 < d && d < s.nd) (fun d s => s.isolateDie d) s
    | none => { s with boot := { s.boot with recovery := true, nextSlot := none } }.p (sysB 0) R.SYS_STATUS_RECOVERY 1

/-- LANES_READY_TIMEOUT: the condition of R376 holds on a die. -/
def lanesReadyF (d : Nat) (s : State) : State := if s.dieUp d && s.boot.released then s.p (sysB d) R.SYS_STATUS_LANES_READY 1 else s

/-- SUPPLY_EXCURSION (R361, R363): a rail at a voltage in 0.1 mV. Outside its window, rails 0 and 1 act as PORn and another raises SUPPLY;
SYS_SUPPLY shows which rails are within theirs. -/
def supplyExcursionF (d rail v : Nat) (s : State) : State :=
  if rail < 2 then (if railOk rail v then s else coldResetF s)
  else if rail < 10 && s.dieUp d then
    let w := s.g (sysB d) R.SYS_SUPPLY_INWIN
    if railOk rail v then s.p (sysB d) R.SYS_SUPPLY_INWIN (clrb w rail + 2 ^ rail)
    else (s.p (sysB d) R.SYS_SUPPLY_INWIN (clrb w rail)).raise d 0x0006 0 rail
  else s

/-! ### Die reset (R331) -/

/-- What of a die's registers a die reset returns to reset values: SYS and PCI, the fault blocks and sources, and every register of
events (log entry 81). -/
def resetsWithDie (p : Part) (d a : Nat) : Bool :=
  let h := home p a
  h.die == d && (h.blk == some .sys || h.blk == some .flt || h.blk == some .pci || ((rowAt h.rows h.off).map fun r => r.flds.any (·.acc == .seq)).getD false)

/-- A failed slice after a die reset: one on which a logical slice was isolated serves it again, as the die-loss row of R20 asks of R174; any other
stands by (log entry 120). -/
def State.sliceBack (s : State) (d p : Nat) : State :=
  let l := s.g (corB d p) R.COR_SLICE_LOGICAL
  if s.g (corB d p) R.COR_SLICE_ROLE = 3 && l < 4 && 5 ≤ s.physSlice d l then
    ({ (s.ps (corB d p) [(R.COR_SLICE_ROLE, 0)]) with smap := tset s.smap (d * 8 + l) p }.sliceOn d p true).syncSliceProt d
  else s.sliceReset d p

/-- The logical slices of a die that are still isolated take the slice that stands by, if one does. -/
def State.slicesBack (s : State) (d : Nat) : State :=
  upTo 4 (fun l s => match (if 5 ≤ s.physSlice d l then s.spareSlice d else none) with
    | some p => ({ (s.ps (corB d p) [(R.COR_SLICE_ROLE, 0), (R.COR_SLICE_LOGICAL, l)]) with smap := tset s.smap (d * 8 + l) p }.sliceOn d p true).syncSliceProt d
    | none => s) (upTo 5 (fun p s => s.sliceBack d p) s)

/-- The die trains its lanes, its links and its holding store, runs the leader's image, aligns its time unit and takes back what the
leader mirrors. -/
def State.dieReset (s : State) (d : Nat) : State :=
  let cause := s.rd (sysB d + R.SYS_RESET_CAUSE_COUNT.off)
  let peak := s.g (sysB d) R.SYS_TEMP_PEAK
  let status := s.rd (sysB d + R.SYS_STATUS_READY.off)
  let s := { s with regs := s.regs.filter fun e => !resetsWithDie s.part d e.1, live := s.live.filter fun e => (home s.part e.1).die != d,
                    srcs := s.srcs.filter fun e => (home s.part e.1).die != d, outUnits := s.outUnits.filter (·.1 != d),
                    isolated := s.isolated.filter (· != d), tmr := s.tmr.filter fun e => (home s.part e.1).die != d,
                    inj := s.inj.filter fun e => e.1 != d,
                    clock := { s.clock with unaligned := clrb s.clock.unaligned d, barred := s.clock.barred.filter (· / 16 != d) },
                    gens := s.gens.map fun (e : Nat × Gen) => (e.1, { e.2 with cut := e.2.cut.filter (· != d) }) }
  let s := ((s.wr (sysB d + R.SYS_STATUS_READY.off) status).wr (sysB d + R.SYS_RESET_CAUSE_COUNT.off) cause).ps (sysB d)
    [(R.SYS_RESET_CAUSE_CAUSE, 4), (R.SYS_TEMP_PEAK, peak), (R.SYS_SUPPLY_INWIN, 0x3FF)]
  let s := each (s.sevSet.filter (·.1 == d)) (fun e s => s.setSev d e.2.1 e.2.2.1 e.2.2.2.1 e.2.2.2.2) s
  let s := upTo 4 (fun p s => match neighbour s.part d p with
    | some e => if s.dieUp e then s.putLink d p [(R.XDF_LINK_STATE, 2)] else s
    | none => s) s
  let s := upTo 16 (fun q s => if s.quadMode d q = 0 then s else s.setQuadMode d q (s.quadMode d q)) s
  let s := s.slicesBack d
  let s := (s.hbmFresh d).xdfCarried d
  let s := each ((s.chans.filter fun e => e.1 / 24 == d && e.2.st == .isolated).map (·.1)) (fun ch s => s.modChan ch fun c => { c with st := .joining }) s
  let s := upTo 8 (fun k s => s.setGen (8 * d + k) { s.gen (8 * d + k) with isolated := false }) s
  let s := upTo 8 (fun k s => if (s.grp (8 * d + k)).isolated then s.resetGroup (8 * d + k) else s) s
  let s := s.rebind d
  let s := s.setCluster d { s.cluster s.leader with st := .running, faults := [] }
  s.electLeader

/-- FLT_DIE_RESET. -/
def fltDieResetB (w k : Nat) (s : State) : Rsp :=
  let d := s.cmdByte w k 8
  let mode := s.cmdByte w k 9
  s.checked w k [(8, s.nd ≤ d), (9, 1 < mode), (10, s.cmdByte w k 10 != 0xC3)] <|
  if mode = 0 && s.dieUp d then busy 4
  else if (s.served.filter (· != d)).isEmpty then busy 5
  else .ok ((if mode = 1 then s.isolateDie d else s).dieReset d) []

/-! ### Multi-function pins (R365 to R369, R384) -/

def pinB (d p : Nat) : Nat := mfpB d + 4 * p
/-- The address of a pin's MFP_CFG; its live entry holds the function that still drives the pad while a change crosses into TIME. -/
def pinA (d p : Nat) : Nat := mfpB d + R.MFP_CFG_FUNC.off + 4 * p

/-- FUNC and INDEX that a pin's pad has: those of MFP_CFG, or the former ones while a change is on its way (R367). -/
def State.pinFn (s : State) (d p : Nat) : Nat × Nat :=
  match tget s.live (pinA d p) with
  | some v => (v % 64, v / 64)
  | none => (s.g (pinB d p) R.MFP_CFG_FUNC, s.g (pinB d p) R.MFP_CFG_INDEX)

/-- Whether FUNC and INDEX name a function of R365. -/
def funcOk (f i : Nat) : Bool := f == 0 || (f ≤ 3 && i < 4) || (f == 4 && i < 16) || (5 ≤ f && f ≤ 0xB && i == 0)
def funcIn (f : Nat) : Bool := (1 ≤ f && f ≤ 3) || f == 6 || f == 9 || f == 0xB

/-- Whether another pin of the die carries the input function (R366). -/
def State.inputHeld (s : State) (d p f i : Nat) : Bool :=
  funcIn f && (List.range 48).any fun q => q != p && s.g (pinB d q) R.MFP_CFG_FUNC == f && s.g (pinB d q) R.MFP_CFG_INDEX == i

/-- Store a pin's settings; a change of function is then on its way to the pad. -/
def State.setPin (s : State) (d p f i drive pull : Nat) : State :=
  let old := s.pinFn d p
  let s := s.ps (pinB d p) [(R.MFP_CFG_FUNC, f), (R.MFP_CFG_INDEX, i), (R.MFP_CFG_DRIVE, drive), (R.MFP_CFG_PULL, pull)]
  if old = (f, i) then { s with live := tdel s.live (pinA d p) } else { s with live := tset s.live (pinA d p) (old.1 + 64 * old.2) }

/-- MFP_CFG_WRITE. -/
def mfpCfgApply (d p : Nat) (v : Word) (s : State) : State :=
  let f := bits v 5 0
  let i := bits v 11 8
  if !funcOk f i then s.evt (mfpB d) R.MFP_EVT_E [R.MFP_EVT_FUNC_BAD] [(R.MFP_EVT_PIN, p)]
  else if s.inputHeld d p f i then s.evt (mfpB d) R.MFP_EVT_E [R.MFP_EVT_CONFLICT] [(R.MFP_EVT_PIN, p)]
  else s.setPin d p f i (bits v 13 12) (bits v 15 14)

/-- MFP_FUNCTION_SWITCH (R367, R368): an encoder input that moves takes the pad's level as its starting level, counts no edge and clears
its unit's history. -/
def mfpSwitchF (d p : Nat) (level : Bool) (s : State) : State :=
  if (tget s.live (pinA d p)).isNone then s
  else
    let s := ({ s with live := tdel s.live (pinA d p) } : State).evt (mfpB d) R.MFP_EVT_E [R.MFP_EVT_SWITCHED] [(R.MFP_EVT_PIN, p)]
    let (f, i) := s.pinFn d p
    if 1 ≤ f && f ≤ 3 then
      let w := s.source (4 * d + i)
      s.setSource (4 * d + i) { w with hist := 0, a := if f = 1 then level else w.a, b := if f = 2 then level else w.b, z := if f = 3 then level else w.z }
    else s

/-- A pad's level in MFP_IN (log entry 82): a GPIO output its OUT bit, an encoder input the sampled level, another output its inactive
level or that of its window, an input what its pull gives, CAN_STBY that the controller sleeps (R338); in reset all are pulled down (R369). -/
def State.padLevel (s : State) (d p : Nat) : Bool :=
  let (f, i) := s.pinFn d p
  let w := s.source (4 * d + i)
  let bit (lo hi : Fld) : Bool := if p < 32 then tbit (s.g (mfpB d) lo) p else tbit (s.g (mfpB d) hi) (p - 32)
  let act := (tgetD s.windows (d * 16 + i) []).any fun x => x.2.2
  if !s.boot.released then false
  else match f with
  | 0 => if bit R.MFP_OE_LO_OE R.MFP_OE_HI_OE then bit R.MFP_OUT_LO_OUT R.MFP_OUT_HI_OUT else s.g (pinB d p) R.MFP_CFG_PULL == 1
  | 1 => w.a
  | 2 => w.b
  | 3 => w.z
  | 4 => act != s.gb (outB d i) R.TRG_OUT_CFG_POL
  | 5 => true
  | 6 => true
  | 7 => s.opSt d == opSLEEPING
  | 8 => true
  | 9 => true
  | _ => false

def State.padWord (s : State) (d hi : Nat) : Nat :=
  (List.range (if hi = 0 then 32 else 16)).foldl (fun n i => n + if s.padLevel d (32 * hi + i) then 2 ^ i else 0) 0

def mfpSetB (w k : Nat) (s : State) : Rsp :=
  let d := s.cmdByte w k 8
  let p := s.cmdByte w k 9
  let f := s.cmdByte w k 10
  let i := s.cmdByte w k 11
  s.checked w k [(8, s.nd ≤ d), (9, 47 < p), (10, !funcOk f i), (12, 3 < s.cmdByte w k 12), (13, 3 < s.cmdByte w k 13)] <|
  if !s.dieUp d then busy 5
  else if s.inputHeld d p f i then bad 10
  else .ok (s.setPin d p f i (s.cmdByte w k 12) (s.cmdByte w k 13)) []

def mfpQueryB (w k : Nat) (s : State) : Rsp :=
  let d := s.cmdByte w k 8
  s.checked w k [(8, s.nd ≤ d)] <|
  if !s.dieUp d then busy 5
  else .ok s (((List.range 48).map fun p => leBytes 4 (s.rd (pinA d p)).toNat).flatten ++ leBytes 4 (s.padWord d 0) ++ leBytes 4 (s.padWord d 1))

/-! ### Boot commands (R384) -/

/-- Whether a lane plan breaks R84 or R85, names an absent die, or leaves no die with group 3 in PCIe mode. -/
def State.planBad (s : State) (plan : List Byte) : Bool :=
  (List.range 8).any (fun d => if d < s.nd then (List.range 4).any fun g => !groupOk plan d g else leAt plan (4 * d) 4 != 0)
    || !(List.range s.nd).any fun d => planMode plan d 12 == 3

def bootSetPlanB (w k : Nat) (s : State) : Rsp :=
  let plan := s.cmdBytes w k 8 32
  s.checked w k [(8, s.planBad plan)] <|
  if s.flashOut then busy 1
  else
    let r := s.writeRecord s.boot.pref plan
    .ok r.2 (leBytes 4 r.1)

def bootQueryB (w k : Nat) (s : State) : Rsp :=
  let one (l : List Byte) : List Byte := leBytes 1 (if recOk l then 1 else 0) ++ leBytes 4 (recGen l) ++ leBytes 1 (recPref l)
  s.checked w k [] <|
  if s.flashOut then busy 1
  else .ok s (one s.boot.recA ++ one s.boot.recB ++ leBytes 1 (s.g (sysB 0) R.SYS_FLASH_MODE) ++ leBytes 1 (s.g (sysB 0) R.SYS_FLASH_RATE) ++ s.boot.planBytes)

/-! ### Boundary scan (R378, R379) -/

def tapKey : Tap → Nat
  | .package => 0
  | .die d => d + 1

def State.hasTap (s : State) : Tap → Bool
  | .package => true
  | .die d => d < s.nd

/-- The IR code of an instruction in a TAP; none where the TAP has no such instruction. -/
def tapCode (t : Tap) : TapIr → Option Nat
  | .bypass => some (match t with | .package => 0xF | .die _ => 0xFF)
  | .idcode => some 1
  | .sample => some 2
  | .extest => some 3
  | .clamp => some 4
  | .highz => some 5
  | .extestPulse => match t with | .package => none | .die _ => some 6
  | .extestTrain => match t with | .package => none | .die _ => some 7

def tapIrs : List TapIr := [.bypass, .idcode, .sample, .extest, .clamp, .highz, .extestPulse, .extestTrain]

/-- What a TAP decodes of an IR code: while JTAG_CE is low, only BYPASS, IDCODE and SAMPLE/PRELOAD. -/
def State.tapDecode (s : State) (t : Tap) (ir : Nat) : TapIr :=
  match tapIrs.find? fun x => tapCode t x == some ir with
  | some x => if s.jtagCe || x == .bypass || x == .idcode || x == .sample then x else .bypass
  | none => .bypass

def State.setTap (s : State) (t : Tap) (x : TapIr) : State := { s with taps := tset s.taps (tapKey t) x }

/-- The identification register of a TAP (R378): version in [31:28], part number in [27:12], manufacturer code 0x2A7 in [11:1], a 1 in [0]. -/
def idWord (partNo : Nat) : Word := BitVec.ofNat 32 (partNo * 2 ^ 12 + 0x2A7 * 2 + 1)
def Part.idcode (p : Part) : Tap → Word
  | .package => idWord (match p with | .msd2 => 0xD002 | .msd4 => 0xD004 | .msd8 => 0xD008)
  | .die _ => idWord 0xD0D0

/-- An instruction is shifted into a TAP; under IDCODE the TAP gives its identification register. -/
def tapLoadF (t : Tap) (x : TapIr) (s : State) : State :=
  match tapCode t x with
  | some ir => if s.tapDecode t ir = .idcode then (s.setTap t .idcode).emit (.idcode (tapKey t) (s.part.idcode t)) else s.setTap t (s.tapDecode t ir)
  | none => s.setTap t .bypass

/-- JTAG_BYPASS: a code that the TAP decodes as BYPASS. -/
def tapBypassF (t : Tap) (ir : Nat) (s : State) : State := if s.tapDecode t ir = .bypass then s.setTap t .bypass else s

/-- TEST_LOGIC_RESET: every TAP of the chain selects IDCODE. -/
def testLogicResetF (s : State) : State := upTo (s.nd + 1) (fun k s => { s with taps := tset s.taps k .idcode }) s

end Sys2Proof.Machine
end

