-- ==== Sys2Proof/Machine/DeviceOps.lean ====
section
/-!
DEFINITION. The Knot Book, the mailbox doorbell, release and the start of a command, and the device and firmware commands
(R30 to R35, R60, R67 to R82, R374, R375, R386).
-/
namespace Sys2Proof.Machine
open Sys2Proof

/-! ### The Knot Book (R31 to R35, R386) -/

/-- An entry: header, payload, zeros to its length. -/
def knEntry (type len die inst : Nat) (pay : List Byte) : List Byte :=
  leBytes 2 type ++ leBytes 2 len ++ leBytes 1 1 ++ leBytes 1 die ++ leBytes 2 inst ++ bytesAt pay 0 (len - 8)


def State.knPackage (s : State) : List Byte :=
  knEntry 1 32 0xFF 0 (leBytes 2 s.part.code ++ leBytes 1 s.part.mask ++ leBytes 1 (maskOf s.upDies) ++ leBytes 1 s.leader ++ leBytes 1 1
    ++ leBytes 2 s.nch ++ leBytes 2 4096 ++ leBytes 1 52 ++ List.replicate 5 0 ++ leBytes 8 (48000000000 * s.nd))

def State.knDie (s : State) (d : Nat) : List Byte :=
  let st := if !s.dieUp d then 3 else if s.g (fltpBase + 4 * d) R.FLT_PKG_UNPROT_GROUPS != 0 then 2 else 1
  knEntry 2 24 d 0 (leBytes 4 (d * 0x4000000) ++ leBytes 2 st ++ ((List.range 4).map fun p => leBytes 1 ((neighbour s.part d p).getD 0xFF)).flatten
    ++ leBytes 2 0 ++ leBytes 2 48)

/-- The blocks of a die (R28): kind, slot, instance. -/
def dieBlocks : List (Blk × Nat × Nat) :=
  [(.sys, 0, 0), (.flt, 1, 0)] ++ ((List.range 4).map fun i => (.xdf, 2 + i, i))
    ++ [(.web, 8, 0), (.trg, 9, 0), (.sta, 0xA, 0), (.spl, 0xB, 0), (.csm, 0xC, 0), (.hld, 0xD, 0), (.dma, 0xE, 0), (.pci, 0xF, 0),
        (.ptp, 0x10, 0), (.col, 0x11, 0), (.can, 0x12, 0), (.mfp, 0x13, 0)]
    ++ ((List.range 17).map fun i => (.lnq, 0x20 + i, i)) ++ ((List.range 24).map fun i => (.str, 0x40 + i, i))
    ++ ((List.range 5).map fun i => (.cor, 0x60 + i, i)) ++ ((List.range 5).map fun i => (.dms, 0x68 + i, i))
    ++ ((List.range 8).map fun i => (.eth, 0x70 + i, i))

/-- BLOCK.STATE (R386): standing by, isolated, failed, or in service. A block of one instance that serves many units is isolated when one
of them is (log entry 83). -/
def State.blockState (s : State) (d : Nat) (b : Blk) (inst : Nat) : Nat :=
  let out := s.outUnits.any fun u => u.1 == d && (u.2.1 == b.code || (b == .col && u.2.1 == 0x112)) &&
    (u.2.2 == inst || !(b == .xdf || b == .str || b == .cor || b == .dms || b == .eth))
  if !s.dieUp d then 2
  else match b with
    | .cor | .dms =>
      if s.unitOut d 9 inst then 2
      else
        let role := s.g (corB d inst) R.COR_SLICE_ROLE
        if role = 3 then 3 else if role = 1 then 1 else 0
    | .lnq => if inst = 16 && (List.range 4).all (fun g => s.g (spareB d g) R.LNQ_SPARE_STAT_STATE != 1) then 1 else 0
    | _ => if out then 2 else 0

def knBlock (die slot inst st : Nat) (b : Blk) : List Byte :=
  knEntry 3 16 die inst (leBytes 4 b.mnem ++ leBytes 2 slot ++ leBytes 1 1 ++ leBytes 1 st)

def State.knLanes (s : State) (d g : Nat) : List Byte :=
  knEntry 4 32 d g (((List.range 16).map fun i => leBytes 1 (s.physOf d (16 * g + i))).flatten ++ leBytes 1 (64 + g)
    ++ leBytes 1 (s.g (spareB d g) R.LNQ_SPARE_STAT_STATE))

def State.knChannel (s : State) (ch : Nat) : List Byte :=
  let c := s.chan ch
  let st := if c.st == .isolated then 2 else if c.admitted then 1 else 0
  knEntry 5 16 (ch / 24) ch (leBytes 1 (ch % 24) ++ leBytes 1 st ++ leBytes 1 (if st = 0 then 0 else c.lanes) ++ leBytes 1 (if st = 0 then 0 else c.first)
    ++ leBytes 2 (0x40 + ch % 24))

/-- SLICE_MAP; a logical slice that no physical slice serves reads 0xFF (log entry 83). -/
def State.knSlices (s : State) (d : Nat) : List Byte :=
  let ps := (List.range 4).map (s.physSlice d)
  let st := if (s.spareSlice d).isSome then 0 else if (List.range 4).any (fun l => ps.getD l l != l && ps.getD l l < 5) then 1 else 2
  knEntry 6 16 d 0 (((List.range 4).map fun l => leBytes 1 (if ps.getD l l < 5 then ps.getD l l else 0xFF)).flatten
    ++ leBytes 1 ((s.spareSlice d).getD 0xFF) ++ leBytes 1 st)

/-- The payload of a FIRMWARE entry's first eight bytes. -/
def Cluster.versions (x : Cluster) : List Byte := leBytes 1 x.major ++ leBytes 1 x.minor ++ leBytes 2 x.patch ++ leBytes 4 x.build

def State.knFirmware (s : State) (d : Nat) : List Byte :=
  let x := s.cluster d
  knEntry 7 24 d 0 (x.versions ++ leBytes 1 x.slot ++ leBytes 1 x.key ++ leBytes 1 (if !s.dieUp d then 2 else if x.st == .failed then 1 else 0))

/-- CAPABILITY: queue mode on the MSD-8, object mode on the others. -/
def State.knCaps (s : State) : List Byte :=
  knEntry 8 16 0xFF 0 (leBytes 4 (12 + if s.part.queueMode then 2 else 1) ++ leBytes 2 256 ++ leBytes 1 16 ++ leBytes 1 4)

/-- The body that describes the part as it is (R33, R34); INST of an MBX block is its window (log entry 196). -/
def State.knotBook (s : State) : List Byte :=
  let ds := List.range s.nd
  s.knPackage ++ (ds.map s.knDie).flatten
    ++ (ds.map fun d => (dieBlocks.map fun b => knBlock d b.2.1 b.2.2 (s.blockState d b.1 b.2.2) b.1).flatten).flatten
    ++ (([(.knb, 0, 0), (.prt, 1, 0), (.fltp, 2, 0), (.mbx, 4, 0), (.mbx, 5, 1), (.mbx, 6, 2), (.mbx, 7, 3)] : List (Blk × Nat × Nat)).map
        fun b => knBlock 0xFF b.2.1 b.2.2 0 b.1).flatten
    ++ (ds.map fun d => ((List.range 4).map (s.knLanes d)).flatten).flatten
    ++ ((List.range s.nch).map s.knChannel).flatten ++ (ds.map s.knSlices).flatten ++ (ds.map s.knFirmware).flatten ++ s.knCaps
    ++ knEntry 0 8 0xFF 0 []

/-- Rewrite the body: GEN ends at the next even value, with LEN and CRC of the new body. -/
def State.knRewrite (s : State) : State :=
  let l := s.knotBook
  let gen := s.g knbBase R.KNB_GEN_GEN
  ({ s with knb := l } : State).ps knbBase [(R.KNB_LEN_LEN, l.length), (R.KNB_CRC_CRC, crc32c l), (R.KNB_GEN_GEN, gen / 2 * 2 + 2)]

/-- KNOT_BOOK_REWRITE: by the firmware that runs, which sets GEN odd, and at the next such event ends the rewrite (R31). -/
def knotBookRewriteF (s : State) : State :=
  if !(s.leaderSt = ldRUNNING || s.leaderSt = ldUPDATING) then s
  else if s.g knbBase R.KNB_GEN_GEN % 2 = 0 then s.p knbBase R.KNB_GEN_GEN (s.g knbBase R.KNB_GEN_GEN + 1)
  else s.knRewrite

/-- BOOT_READY (R374 step 6, R377): every cluster runs the image, the leader is chosen, the Knot Book stands, READY is set. -/
def bootReadyF (s : State) : State :=
  match s.boot.verified with
  | some k =>
    if !s.boot.released || s.leaderSt != ldSTARTING then s
    else
      let s := each s.upDies (fun d s => s.setCluster d { (s.cluster d).load (s.boot.img k) k with st := .running }) s
      let s := ({ s with leader := s.upDies.headD 0, leaderSt := ldRUNNING } : State).knRewrite
      each s.upDies (fun d s => (s.xdfCarried d).ps (sysB d) [(R.SYS_STATUS_READY, 1), (R.SYS_STATUS_SLOT, k), (R.SYS_BOOTTIME_US, s.clock.now / 500)]) s
  | none => s

/-! ### Doorbells and releases (R67 to R70) -/

/-- The slots that a doorbell or release word names and that are not in the state it asks for, ascending. -/
def State.refusedSlots (s : State) (w : Nat) (v : Word) (st : SlotSt) : List Nat :=
  (List.range 16).filter fun k => v.getLsbD k && (s.slot w k).st != st

/-- The refused bits of one write are one set event with the first slot (R39, R68, R70). -/
def State.mbxRefuse (s : State) (w : Nat) (f : Fld) (l : List Nat) : State :=
  s.evtN (mbxBase w) R.MBX_ERR_E [f] [(R.MBX_ERR_SLOT, l.headD 0)] l.length

/-- A doorbell write of a port at a level with a consumer range. -/
def doorbellSlots (w level base count port : Nat) (v : Word) (s : State) : State :=
  each ((List.range 16).filter fun k => v.getLsbD k && (s.slot w k).st == .free) (fun k s =>
    let x : Slot := { st := .posted, tag := s.cp w k 2 2, level := level, base := base, count := count, port := port, order := s.ringNo }
    ({ s.setSlot w k x with ringNo := s.ringNo + 1 } : State).clearRsp w k) (s.mbxRefuse w R.MBX_ERR_RING_BUSY (s.refusedSlots w v .free))

/-- A release write. -/
def releaseSlots (w : Nat) (v : Word) (s : State) : State :=
  each ((List.range 16).filter fun k => v.getLsbD k && (s.slot w k).st == .done) (fun k s =>
    (s.setSlot w k { s.slot w k with st := .free }).clearRsp w k) (s.mbxRefuse w R.MBX_ERR_REL_EARLY (s.refusedSlots w v .done))

/-! ### The start of a command (R71, R72, R75, R375) -/

/-- Whether a slot's command acts as a barrier. -/
def State.isBarrier (s : State) (w k : Nat) : Bool :=
  tbit (s.flagsOf w k) 1 || ((cmdRow (s.opcode w k)).map (·.barrier)).getD false

/-- Whether a slot's command changes state. -/
def State.isChange (s : State) (w k : Nat) : Bool := ((cmdRow (s.opcode w k)).map fun r => !r.query).getD false

/-- The commands rung before that of a slot and not complete. -/
def State.earlier (s : State) (w k : Nat) : List (Nat × Nat) :=
  allSlots.filter fun q => (s.slot q.1 q.2).inFlight && (s.slot q.1 q.2).order < (s.slot w k).order

/-- Whether a posted command still waits (R64, R71). -/
def State.waits (s : State) (w k : Nat) : Bool :=
  let e := s.earlier w k
  (s.isBarrier w k && !e.isEmpty) || e.any (fun q => s.isBarrier q.1 q.2)
    || (s.isChange w k && e.any fun q => s.isChange q.1 q.2 && cmdClass (s.opcode q.1 q.2) == cmdClass (s.opcode w k))

/-- The consumer context a command names, if it names one: that of CSM commands, or the one bound to the named ring. -/
def State.namedCtx (s : State) (w k : Nat) : Option Nat :=
  let o := s.opcode w k
  if 0x700 ≤ o && o ≤ 0x704 then some (s.cp w k 8 2)
  else if 0x801 ≤ o && o ≤ 0x803 then
    let a := s.ringArg w k
    (s.ring a.1 a.2).bound
  else none

/-- Checks 1 to 3 of R72: the status and DETAIL of the first that fails. -/
def State.preCheck (s : State) (w k : Nat) : Option (Nat × Nat) :=
  let x := s.slot w k
  if 8 ≤ s.flagsOf w k then some (stBAD, 4)
  else match cmdRow (s.opcode w k) with
    | none => some (stUNKNOWN, 0)
    | some r =>
      let inRange := match s.namedCtx w k with
        | some c => x.base ≤ c && c < x.base + x.count
        | none => true
      if r.level < x.level || (x.level == 2 && !inRange) then some (stNOPRIV, 0) else none

/-- The commands that the boot ROM serves in recovery (R375). -/
def romOpcodes : List Nat := [0x000, 0x001, 0x010, 0x011, 0x014, 0x004]

/-- A reissued command whose entry is open: its tunnel request answers the slot again (log entry 85). -/
def State.reattach (s : State) (w k tag : Nat) : State :=
  let s := s.setSlot w k { s.slot w k with held := true }
  { s with chans := s.chans.map fun (i, c) =>
      (i, { c with tun := c.tun.map fun t => if t.w == w && t.slot == k && t.ctag == tag then { t with gone := false } else t }) }

/-- COMMAND_START: by a leader that runs. Checks 1 to 3 of R72 come before the journal is asked (log entry 190). -/
def commandStartF (w k : Nat) (s : State) : State :=
  let x := s.slot w k
  let runs := s.leaderSt = ldRUNNING || (s.leaderSt = ldUPDATING && (s.cluster s.leader).st == .running)
  if x.st != .posted || !(runs || (s.boot.recovery && w = 0)) || s.waits w k then s
  else
    let s := s.setSlot w k { x with st := .running }
    if s.boot.recovery && !romOpcodes.contains (s.opcode w k) then s.finish w k stBUSY 2 []
    else match s.preCheck w k with
      | some (st, det) => s.finish w k st det []
      | none =>
        match tbit (s.flagsOf w k) 0, tget s.journal (slotKey w k) with
        | true, some e =>
          if e.opcode = s.opcode w k && e.tag = x.tag then (if e.opened then s.reattach w k x.tag else s.finish w k e.status e.detail e.result 1) else s
        | _, _ => s

/-! ### Device commands (R77) -/

def devNopB (w k : Nat) (s : State) : Rsp := s.checked w k [] (.ok s (s.cmdBytes w k 8 240))

def devInfoB (w k : Nat) (s : State) : Rsp :=
  s.checked w k [] <|
  .ok s (leBytes 2 s.part.code ++ leBytes 1 s.part.mask ++ leBytes 1 (maskOf s.upDies) ++ leBytes 1 s.leader ++ leBytes 1 (maskOf s.served) ++ leBytes 2 0
    ++ leBytes 4 s.epoch ++ leBytes 8 (s.clock.now / 500000000) ++ (s.cluster s.leader).versions ++ List.replicate 12 0)

def devSetWindowLevelB (w k : Nat) (s : State) : Rsp :=
  let v := s.cmdByte w k 8
  let l := s.cmdByte w k 9
  s.checked w k [(8, 3 < v), (9, 2 < l || (v == w && decide (l < (s.slot w k).level)))] (.ok (s.p (mbxBase v) R.MBX_LEVEL_LEVEL l) [])

def devWarmResetB (w k : Nat) (s : State) : Rsp :=
  s.checked w k [(8, s.cmdByte w k 8 != 0xA5)] (.ok { s with boot := { s.boot with warmDue := true } } [])

/-! ### Firmware commands (R77 to R82) -/

/-- The bytes an image slot gives FW_QUERY: valid, versions, SVN, key index (log entry 84). -/
def Boot.imgInfo (b : Boot) (i : Nat) : List Byte :=
  let l := b.img i
  leBytes 1 (if b.valid i then 1 else 0) ++ leBytes 1 (leAt l 8 1) ++ leBytes 1 (leAt l 9 1) ++ leBytes 2 (leAt l 10 2) ++ leBytes 4 (leAt l 12 4)
    ++ leBytes 4 (imgSvn l) ++ leBytes 1 (imgKey l)

def fwQueryB (w k : Nat) (s : State) : Rsp :=
  s.checked w k [] (.ok s (s.boot.imgInfo 0 ++ s.boot.imgInfo 1 ++ leBytes 4 s.boot.svnFloor ++ leBytes 1 s.boot.revoked))

/-- FW_STAGE: the image is what the host memory held at the address the command names. An image that fails a check of R79 is answered as
FW_VERIFY answers it (log entry 189). -/
def fwStageB (image : List Byte) (w k : Nat) (s : State) : Rsp :=
  let a := s.cp w k 8 8
  let n := s.cp w k 16 4
  let i := s.cmdByte w k 20
  s.checked w k [(16, 0x1000000 < n), (20, 1 < i)] <|
  if (s.cluster s.leader).slot == i then bad 20
  else if s.flashOut then busy 1
  else
    let l := bytesAt image 0 n
    let s1 := ({ s with boot := s.boot.setImg i l } : State).hostFetch (s.slot w k).port a n
    let c := s.boot.check l
    if c = 0 then .ok s1 [] else .errAt s1 stBAD c

def fwVerifyB (w k : Nat) (s : State) : Rsp :=
  let i := s.cmdByte w k 8
  s.checked w k [(8, 1 < i)] <|
  let c := s.boot.check (s.boot.img i)
  if c = 0 then .ok s [] else bad c

/-- A live activation begins (R81): the clusters in service restart one at a time, in ascending die order and the leader last. -/
def State.activate (s : State) (w k i : Nat) : State :=
  let left := s.served.filter (· != s.leader) ++ [s.leader]
  { s with leaderSt := ldUPDATING, boot := { s.boot with update := some { slot := i, left := left, ans := some (w, k) } } }.updStep

def fwActivateB (w k : Nat) (s : State) : Rsp :=
  let i := s.cmdByte w k 8
  let mode := s.cmdByte w k 9
  s.checked w k [(8, 1 < i), (9, 1 < mode), (10, 1 < s.cmdByte w k 10)] <|
  if s.flashOut then busy 1
  else
    let c := s.boot.check (s.boot.img i)
    if c != 0 then bad c
    else
      let b := if s.cmdByte w k 10 = 1 then { s.boot with svnFloor := imgSvn (s.boot.img i) } else s.boot
      if mode = 0 then .ok { s with boot := { b with nextSlot := some i } } []
      else .wait (State.activate { s with boot := b } w k i) (some [])

def fwSetBootB (w k : Nat) (s : State) : Rsp :=
  let i := s.cmdByte w k 8
  s.checked w k [(8, 1 < i)] <|
  if s.flashOut then busy 1 else .ok (s.writeRecord i s.boot.planBytes).2 []

def fwRevokeKeyB (w k : Nat) (s : State) : Rsp :=
  let key := s.cmdByte w k 8
  let x := s.cluster s.leader
  let b := { s.boot with revoked := setb s.boot.revoked key }
  s.checked w k [(8, 3 < key), (9, s.cmdByte w k 9 != 0x5A)] <|
  if s.flashOut then busy 1
  else if x.key = key || !b.valid (1 - x.slot) then bad 8
  else .ok { s with boot := b } []

end Sys2Proof.Machine
end

