-- ==== Sys2Proof/Machine/Admission.lean ====
section
/-!
DEFINITION. The admission limits: what every admitted channel, group, context and volume takes of a die's lanes, pixel budget, burst store,
holding store, ports and links, the placement of channels on slices, and the sums that a state must keep (R10, R105, R126, R154, R166,
R182, R185, R192, R202, R226, R237 to R239, R248).
-/
namespace Sys2Proof.Machine
open Sys2Proof

/-- The sum of a list. -/
def sumN (l : List Nat) : Nat := l.foldl (· + ·) 0
def sumQ (l : List Rat) : Rat := l.foldl (· + ·) 0

/-- n rounded up to a multiple of 64. -/
def up64 (n : Nat) : Nat := (n + 63) / 64 * 64

/-! ### Channels (R154, R166, R182, R185, R192, R248) -/

/-- The admitted maximum trigger rate of a channel, and its line rate. -/
def State.chanRate (s : State) (ch : Nat) : Nat := match (s.chan ch).gen with | some g => (s.gen g).maxRate | none => 0
def State.lineRate (s : State) (ch : Nat) : Nat := s.chanRate ch * if (s.chan ch).area then (s.chan ch).image.height else 1

/-- The bytes of a raw line of a channel, over its streams. -/
def Chan.rawBytes (c : Chan) : Nat := sumN (c.streams.map fun x => lineBytes x.dt x.width)

/-- The slice-load term of a channel. -/
def State.loadTerm (s : State) (ch : Nat) : Nat := up64 (s.chan ch).image.width * s.lineRate ch

/-- A field of a channel's correction or colour context: the staged value where one is staged, else the present one; 0 with no context. -/
def State.ctxField (s : State) (ch : Nat) (dms : Bool) (f : Fld) : Nat :=
  match s.chanSlice ch with
  | none => 0
  | some p => match s.corCtx ch p with
    | none => 0
    | some k => s.stagedG ch p k dms f
def State.ctxNow (s : State) (ch : Nat) (dms : Bool) (f : Fld) : Nat :=
  match s.chanSlice ch with
  | none => 0
  | some p => match s.corCtx ch p with
    | none => 0
    | some k => s.g (if dms then dctxB (ch / 24) p k else ctxB (ch / 24) p k) f

/-- The values of a context field that admission counts: the present, the committed and the staged one (log entry 73); none with no context. -/
def State.ctxAll (s : State) (ch : Nat) (dms : Bool) (f : Fld) : List Nat :=
  match s.chanSlice ch with
  | none => []
  | some p => match s.corCtx ch p with
    | none => []
    | some k => [s.g (if dms then dctxB (ch / 24) p k else ctxB (ch / 24) p k) f, s.nextG ch p k dms f, s.stagedG ch p k dms f]

/-- Taps T1 to T4 of a TAPS value; a channel counts the larger of its present and its staged ones (log entry 73). -/
def tapCount (v : Nat) : Nat := ((List.range 4).filter fun i => tbit v (i + 1)).length
def State.tapsOf (s : State) (ch : Nat) : Nat := ((s.ctxAll ch true R.DMS_CTX_CFG_TAPS).map tapCount).foldl max 0

/-- What a channel adds to its slice's load. -/
def State.sliceCost (s : State) (ch : Nat) : Nat := (1 + s.tapsOf ch) * s.loadTerm ch

def State.isBayer (s : State) (ch : Nat) : Bool := (s.ctxAll ch true R.DMS_CTX_CFG_MODE).contains 1

/-- Cycles of a channel in its slice's rebuild set (R154, R181). -/
def State.rebuildCost (s : State) (ch : Nat) : Nat := (if s.isBayer ch then 9 else 5) * (((s.chan ch).image.width + 63) / 64)

/-- Correction memory of a channel (R166): column offsets, gains, defect list, log. Of a set in use, a committed one and a staged one the largest
part counts. -/
def State.corMemory (s : State) (ch : Nat) : Nat :=
  let w := (s.chan ch).image.width
  let c := s.cor ch
  let planes := ((s.ctxAll ch false R.COR_CTX_CFG_CFA).map gainPlanes).foldl max 1
  let gains (mode : Nat) : Nat := if mode = 0 then 0 else if mode = 1 then 2 * w * planes else 6370 * planes
  let defs := [s.ctxNow ch false R.COR_CTX_TBL1_NDEF, (c.due.defs.getD []).length, (c.staged.defs.getD []).length].foldl max 0
  up4k (2 * w) + up4k (((s.ctxAll ch false R.COR_CTX_CFG_GAINMODE).map gains).foldl max 0) + up4k (4 * defs) + 32768

/-- Delay store of a channel (R185): the largest that the present, the committed and the staged mode and depth take. -/
def State.delayBytes (s : State) (ch : Nat) : Nat :=
  (((s.ctxAll ch true R.DMS_CTX_CFG_MODE).zip (s.ctxAll ch true R.DMS_CTX_DELAY_D)).map fun e => storeBytesOf e.1 e.2 (s.chan ch).image.width).foldl max 0

/-! ### Slices (R154) -/

/-- The conditions of a logical slice. -/
def State.sliceFits (s : State) (d l : Nat) : Bool :=
  let chs := s.sliceChans d l
  s.physSlice d l < 5 && chs.length ≤ 12 && sumN (chs.map s.sliceCost) ≤ 102400000000 && sumN (chs.map s.rebuildCost) ≤ 32000

/-- A channel on a logical slice; slice 8 stands for none. -/
def State.onSlice (s : State) (ch l : Nat) : State := s.modChan ch fun c => { c with slice := l }

/-- The logical slice that R154 gives a channel, the die's total load being `total`. -/
def State.pickSlice (s : State) (d ch total : Nat) : Nat :=
  let can := (List.range 4).filter fun l => (s.onSlice ch l).sliceFits d l
  let load (l : Nat) : Nat := sumN ((s.sliceChans d l).map s.sliceCost)
  let t := s.loadTerm ch
  match can.find? fun l => 4 * (load l + t) ≤ max total (4 * t) with
  | some l => l
  | none => match (can.map load).min? with
    | some m => (can.find? fun l => load l == m).getD 8
    | none => 8

/-- Place channels of a die, which stand on no slice yet, in decreasing order of load term and ascending order at equal terms. -/
def State.placeDie (s : State) (d : Nat) (chs : List Nat) : State :=
  let total := sumN ((s.dieChans d).map s.sliceCost)
  let order := (chs.mergeSort (· ≤ ·)).mergeSort fun a b => s.loadTerm b ≤ s.loadTerm a
  each order (fun ch s => s.onSlice ch (s.pickSlice d ch total)) s

/-! ### Contexts (R233, R234, R237 to R239) -/

/-- The set of a group that admission counts: the one in use, else the committed one. -/
def State.grpSet (s : State) (g : Nat) : SplCfg := if (s.grp g).active then s.splCfg g else (s.grp g).commit.getD {}

def State.cKind (s : State) (c : Nat) : Nat := s.cg c R.CSM_CTX_CFG_SRC_KIND
def State.cSrc (s : State) (c : Nat) : Nat := s.cg c R.CSM_CTX_SRC_SRC_ID

/-- Whether a source gives frame records, and the data type of its lines. -/
def State.frameSource (s : State) (kind id : Nat) : Bool :=
  if kind = 7 then (s.grpSet (id - 0x100)).compose else kind ≤ 5 && (s.chan id).area
def State.srcDt (s : State) (kind id : Nat) : Nat :=
  if kind = 7 then (match (s.grpSet (id - 0x100)).mems.head? with | some m => m.dt | none => 0) else (s.chan id).image.dt

/-- PB and RB of a context's records. -/
def State.recPB (s : State) (c : Nat) : Nat :=
  let id := s.cSrc c
  if s.cKind c = 6 then staBody (s.nextPlanes id) (s.g (sctxB id) R.STA_CTX_CFG_ZX) (s.g (sctxB id) R.STA_CTX_CFG_ZY)
  else s.ctxPB c (s.srcDt (s.cKind c) id) (s.frameSource (s.cKind c) id)
def State.recRB (s : State) (c : Nat) : Nat := (64 + s.recPB c + 63) / 64 * 64

/-- RMAX of a context (R238), in records per second. -/
def State.recRate (s : State) (c : Nat) : Rat :=
  let id := s.cSrc c
  let r : Nat := match s.sourceGen (s.cKind c) id with | some g => (s.gen g).maxRate | none => 0
  if s.cKind c = 6 then (if (s.chan id).area then (r : Rat) else (r : Rat) / max 1 (s.fuLines id))
  else (r : Rat) / (s.cg c R.CSM_CTX_SRC_LSTEP_M1 + 1)

/-- Bytes per second that a context's records take. -/
def State.recBytes (s : State) (c : Nat) : Rat := s.recRB c * s.recRate c

/-- DL of a source in microseconds, and LA (R238). -/
def State.srcDL (s : State) (kind id : Nat) : Rat :=
  if kind = 7 then
    let b := grpB (id - 0x100)
    let x := s.grpSet (id - 0x100)
    let on := (s.grp (id - 0x100)).active
    if x.compose then
      (if on then s.g b R.SPL_GRP_WAIT_WAIT else x.wait) + (if (s.gen x.gen).maxRate = 0 then 0 else (1000000 : Rat) / (s.gen x.gen).maxRate)
    else ((if on then s.g b R.SPL_GRP_DEADLINE_DEADLINE else x.deadline : Nat) : Rat) / 10 + 10
  else (s.g (strB id) R.STR_DEADLINE_DEADLINE : Rat) / 10
def State.srcLA (s : State) (kind id : Nat) : Nat :=
  if s.frameSource kind id || kind = 6 then 0 else if kind = 7 then (s.grpSet (id - 0x100)).la else if s.isBayer id then 4 else 1

/-- RING of a share set in MiB (R238), with the largest hold limit of its members. -/
def State.ringMiB (s : State) (c hold : Nat) : Nat :=
  let n : Nat := (s.recRate c * (hold + s.srcDL (s.cKind c) (s.cSrc c)) / 1000000).ceil.toNat + s.srcLA (s.cKind c) (s.cSrc c) + 3
  (n * s.recRB c + 1048575) / 1048576

/-- The rings of the share sets of contexts grow to what their records now take (R238; log entry 222). -/
def State.regrow (s : State) (cs : List Nat) : State :=
  each cs (fun c s =>
    let ms := s.shareMembers (s.ctx c).share
    let mib := max (s.cg c R.CSM_CTX_RLEN_MIB) (s.ringMiB c ((ms.map fun m => s.cg m R.CSM_CTX_HOLD_HOLD).foldl max 0))
    each ms (fun m s => s.p (ctxBase m) R.CSM_CTX_RLEN_MIB mib) s) s

/-- Bound contexts, those homed on a die, and the first members of a die's share sets. -/
def State.boundCtxs (s : State) : List Nat := (s.ctxs.map (·.1)).filter s.cbound
def State.homeCtxs (s : State) (d : Nat) : List Nat := s.boundCtxs.filter fun c => s.ctxDie c == d
def State.homeShares (s : State) (d : Nat) : List Nat := (s.homeCtxs d).filter fun c => s.cg c R.CSM_CTX_SHARE_FIRST == c

/-- Bytes per second written on a die, and read for its members. -/
def State.writeRate (s : State) (d : Nat) : Rat := sumQ ((s.homeShares d).map s.recBytes)
def State.readRate (s : State) (d : Nat) : Rat := sumQ ((s.homeCtxs d).map s.recBytes)

/-- MiB of a die's rings. -/
def State.ringSum (s : State) (d : Nat) : Nat := sumN ((s.homeShares d).map fun c => s.cg c R.CSM_CTX_RLEN_MIB)

/-- Write staging of a share set (R248): twice one line record, or twice one row of every selected layer. -/
def State.staging (s : State) (c : Nat) : Nat :=
  if s.frameSource (s.cKind c) (s.cSrc c) then
    2 * (max 1 (popLayers (s.cg c R.CSM_CTX_SRC_LAYERS)) * rowBytes (s.cg c R.CSM_CTX_CFG_FORMAT) (s.srcDt (s.cKind c) (s.cSrc c))
      (s.cg c R.CSM_CTX_U1_U1 + 1 - s.cg c R.CSM_CTX_U0_U0))
  else 2 * s.recRB c

/-! ### Ports and links (R231, R248) -/

/-- What a Coil context puts on each of its volume's ports. -/
def State.coilShare (s : State) (v : Nat) (bytes : Rat) : Rat :=
  bytes * (s.volK v + s.volM v) / max 1 (s.volK v) / max 1 (s.volPorts v).length

/-- Bytes per second on a PCIe port, and on a MAC. -/
def State.pciLoad (s : State) (d : Nat) : Rat :=
  sumQ ((s.boundCtxs.filter fun c => s.cg c R.CSM_CTX_CFG_PATH == 0 && (s.pathOf c).1 == d).map s.recBytes)
def State.macLoad (s : State) (d m : Nat) : Rat :=
  sumQ (s.boundCtxs.map fun c =>
    let p := s.cg c R.CSM_CTX_CFG_PATH
    let x := s.pathOf c
    if p = 1 then (if x.1 = d && x.2.1 = m then s.recBytes c else 0)
    else if p = 2 then ((s.volPorts x.2.2).filter (· == (d, m))).length * s.coilShare x.2.2 (s.recBytes c)
    else 0)

/-- The limit of a MAC: 0.95 of its rate. -/
def State.macLimit (s : State) (d m : Nat) : Rat := 95 / 100 * (12500000000 * 2 ^ s.g (ethB d m) R.ETH_CFG_RATE : Nat)

/-- A flow over the fabric from one die to another. -/
structure Flow where
  src  : Nat
  dst  : Nat
  rate : Rat

/-- The flows that a context's delivery puts on the fabric. -/
def State.ctxFlows (s : State) (c : Nat) : List Flow :=
  let h := s.ctxDie c
  let x := s.pathOf c
  let l : List Flow := if s.cg c R.CSM_CTX_CFG_PATH = 2 then (s.volPorts x.2.2).map fun p => ⟨h, p.1, s.coilShare x.2.2 (s.recBytes c)⟩
    else [⟨h, x.1, s.recBytes c⟩]
  l.filter fun f => f.src != f.dst

/-- Bytes of a hand-off packet of n columns (R218). -/
def SplCfg.packetBytes (c : SplCfg) (n : Nat) : Nat := 32 + (n * c.planes * 20 + 511) / 512 * 64

/-- Runs of columns of ranges that lie side by side, given in rising order. -/
def joinRanges : List (Int × Int) → List (Int × Int)
  | [] => []
  | r :: t => match joinRanges t with
    | q :: u => if r.2 + 1 = q.1 then (r.1, q.2) :: u else r :: q :: u
    | [] => [r]

def rangeLen (r : Int × Int) : Nat := (r.2 + 1 - r.1).toNat

/-- The hand-off packets of a set per trigger: spans, seams blended away from the home die, bursts, composed rows (R217, R218, R223). -/
def SplCfg.flows (c : SplCfg) (home rate : Nat) : List Flow :=
  let pk (src dst n : Nat) : Flow := ⟨src, dst, ((c.packetBytes n * rate : Nat) : Rat)⟩
  let dies := (c.mems.map fun m => m.ch / 24).eraseDups
  let l : List Flow := if c.compose then
      c.mems.map fun m => ⟨m.ch / 24, home, ((c.packetBytes (m.ox1 + 1 - m.ox0) * (m.oy1 + 1 - m.oy0) * rate : Nat) : Rat)⟩
    else
      let spans := (dies.map fun d => (joinRanges ((c.spanParts d).map (·.2))).map fun r => pk d home (rangeLen r)).flatten
      let cross := ((List.range c.mems.length).map fun i => match c.mem i, c.mem (i + 1) with
        | some m, some n =>
          if m.ch / 24 != n.ch / 24 && nonEmpty (c.seam i) then
            [pk (n.ch / 24) (m.ch / 24) (rangeLen (c.seam i)), pk (m.ch / 24) home (rangeLen (c.seam i))]
          else []
        | _, _ => []).flatten
      spans ++ cross
  l.filter fun f => f.src != f.dst

/-- Hops from a die to another over links that are up; 9 where there is no way. -/
def State.hops (s : State) (d e : Nat) : Nat := ((List.range 9).find? fun n => (s.within d n).contains e).getD 9

/-- The links of the shortest route from a die to another, by the lowest-numbered port at every die (log entry 74). -/
def State.route (s : State) (d e : Nat) : Nat → List (Nat × Nat)
  | 0 => []
  | fuel + 1 =>
    if d = e then []
    else match (List.range 4).find? fun p => s.linkUp d p && (match neighbour s.part d p with | some f => s.hops f e + 1 == s.hops d e | none => false) with
    | none => []
    | some p => match neighbour s.part d p with
      | some f => (d, p) :: s.route f e fuel
      | none => []

/-- The flows of each group's sets: a group counts the larger of its two sets on a link (R226). -/
def State.grpFlows (s : State) : List (Nat × List Flow) := s.splSets.map fun e => (e.1, e.2.flows (e.1 / 8) (s.gen e.2.gen).maxRate)

def State.flowOn (s : State) (d p : Nat) (l : List Flow) : Rat :=
  sumQ ((l.filter fun f => (s.route f.src f.dst 8).contains (d, p)).map (·.rate))

/-- Bytes per second on the link that leaves a die by a port. -/
def State.linkLoad (s : State) (d p : Nat) : Rat :=
  let sets := s.grpFlows
  s.flowOn d p ((s.boundCtxs.map s.ctxFlows).flatten)
    + sumQ ((sets.map (·.1)).eraseDups.map fun g => ((sets.filter (·.1 == g)).map fun e => s.flowOn d p e.2).foldl max 0)

/-- Whether every flow has a route. -/
def State.routed (s : State) : Bool :=
  ((s.boundCtxs.map s.ctxFlows).flatten ++ (s.grpFlows.map (·.2)).flatten).all fun f => s.hops f.src f.dst < 9

/-! ### The limits of a die (R248, R258) -/

def State.pixelOk (s : State) (d : Nat) : Bool :=
  sumN ((s.dieChans d).map fun ch => (s.chan ch).image.width * s.lineRate ch + s.tapsOf ch * s.loadTerm ch) ≤ 409600000000

def State.burstOk (s : State) (d : Nat) : Bool :=
  sumN ((s.dieChans d).map fun ch => 4 * (s.chan ch).rawBytes + ((s.chan ch).lanes - 1) * 1875000) + s.splReserve d
    + sumN ((s.homeShares d).map s.staging) ≤ 100663296

def State.holdOk (s : State) (d : Nat) : Bool :=
  decide (s.writeRate d ≤ 800000000000) && decide (s.writeRate d + 11 / 10 * s.readRate d ≤ 1400000000000)

def State.capOk (s : State) (d : Nat) : Bool := s.ringSum d ≤ s.g (hldB d) R.HLD_CAP_MIB

def State.pciOk (s : State) (d : Nat) : Bool :=
  decide (s.pciLoad d ≤ 110000000000)
    && decide (sumQ ((s.boundCtxs.filter fun c => s.cg c R.CSM_CTX_CFG_PATH == 0 && (s.pathOf c).1 == d).map s.recRate) ≤ 36000000)
def State.macOk (s : State) (d m : Nat) : Bool := decide (s.macLoad d m ≤ s.macLimit d m)
def State.linkOk (s : State) (d p : Nat) : Bool := decide (s.linkLoad d p ≤ 1000000000000)

def State.egressOk (s : State) (d : Nat) : Bool :=
  s.pciOk d && ((List.range 8).all fun m => s.macOk d m) && ((List.range 4).all fun p => s.linkOk d p)

/-- The limits that a bind, a stream set or a splice apply may break on a die, with their DETAIL. -/
def State.limits (s : State) (d : Nat) : List (Nat × Bool) := [(3, s.burstOk d), (4, s.holdOk d), (5, s.egressOk d && s.routed), (0x701, s.capOk d)]

/-- The first limit broken on any die: dies ascending, DETAIL ascending. -/
def State.limitBad (s : State) : Option (Nat × Nat) :=
  ((List.range s.nd).map fun d => ((s.limits d).filter fun e => !e.2).map fun e => (e.1, d)).flatten.head?

/-! ### What admission shows in registers -/

/-- Rates in units, rounded to the nearest (log entry 75). -/
def nearest (q : Rat) (unit : Nat) : Nat := (q / unit + 1 / 2).floor.toNat

/-- HLD_ALLOC, HLD_WRES, HLD_TRES, XDF_LOAD, SPL_RESERVE and STA_ROUND of every die. -/
def State.syncAdmit (s : State) : State :=
  let s := s.syncReserve
  upTo s.nd (fun d s =>
    let s := s.ps (hldB d) [(R.HLD_ALLOC_MIB, min 0xFFFF (s.ringSum d)), (R.HLD_WRES_RATE, min 0xFFFF (nearest (s.writeRate d) 100000000)),
      (R.HLD_TRES_RATE, min 0xFFFF (nearest (s.writeRate d + 11 / 10 * s.readRate d) 100000000))]
    let s := upTo 4 (fun p s => s.p (xdfB d p) R.XDF_LOAD_RATE (min 0xFFFF (nearest (s.linkLoad d p) 1000000000))) s
    s.p (staB d) R.STA_ROUND_ROUND (min 0xFFFF (sumN ((s.dieChans d).map s.staShare)))) s

end Sys2Proof.Machine
end

