-- ==== Sys2Proof/Machine/AdmitOps.lean ====
section
/-!
DEFINITION. The commands that admit and the events that give back: STR_SET_COMMIT and STREAM_REMOVAL, DMS_SET_TAPS, SPL_APPLY, CSM_BIND,
CSM_SET_HOLD and CONTEXT_FREE, COIL_VOL_SETUP (R127 to R129, R193, R226, R227, R245, R252, R298, R313).
-/
namespace Sys2Proof.Machine
open Sys2Proof

/-! ### Stream sets (R127, R129, R154) -/

/-- The trigger rate of a channel of a set. -/
def State.setRate (s : State) (c : SetChan) : Nat := match c.gen with | some g => (s.gen g).maxRate | none => 0

/-- Lines per second of a channel of a set. -/
def State.setLineRate (s : State) (c : SetChan) : Nat := s.setRate c * if c.area then (c.streams.getD 0 {}).height else 1

/-- Whether a channel or a lane of it is taken, its lanes are not in Strand mode, or no bond of its size is free (R85). -/
def State.laneBad (s : State) (set : List SetChan) (c : SetChan) : Bool :=
  let d := c.ch / 24
  (s.chan c.ch).st != .idle || 64 < c.first + c.lanes
    || (List.range c.lanes).any fun i => s.laneUsed d (c.first + i) || s.quadMode d ((c.first + i) / 4) != 1
      || set.any fun o => o.ch != c.ch && o.ch / 24 == d && o.first ≤ c.first + i && c.first + i < o.first + o.lanes

/-- Whether a channel of a set needs hitch delivery, cross-die firing or aligned firing on a die whose time unit is not aligned (R18): its own, or,
where triggers cross dies, the generator's or its source's home die. -/
def State.alignBad (s : State) (c : SetChan) : Bool :=
  let d := c.ch / 24
  s.needsAlign d c.trig c.gen && (tbit s.clock.unaligned d || (match c.gen with | some g => s.genUnaligned g [d] | none => false))

/-- Whether a channel carries more than 100 Gbit/s of CSI-2 packet bytes per lane (R105). A line's packet, with its header, its footer and its LS
and LE packets, is 14 bytes longer than its payload, and an FS and an FE packet of 4 bytes bound the frame unit on each virtual channel; a stream
has one line to a trigger, or the lines of its height to an area frame (log entry 76). -/
def State.bytesBad (s : State) (c : SetChan) : Bool :=
  let fu := if c.area then 1 else max 1 (match c.gen with | some g => s.g (genB g) R.TRG_GEN_FU_FU_LINES | none => 1)
  let rate := s.setRate c
  let lines := sumN (c.streams.map fun x => (if c.area then x.height else 1) * (lineBytes x.dt x.width + 14))
  let bounds := 8 * ((c.streams.map (·.vc)).eraseDups).length
  decide (100000000000 * c.lanes * fu < rate * (lines * fu + bounds) * 8)

/-- Whether hitches would be closer than 91.4 ns (R111). -/
def State.pitchBad (s : State) (c : SetChan) : Bool := c.trig != 1 && decide (10000000000 < s.setRate c * 914)

def SetChan.deadlineBad (c : SetChan) : Bool := c.deadline != 0 && decide (c.deadline < c.latency + 150)

/-- The state with the channels of a set admitted, and not yet on any slice. -/
def State.tentative (s : State) (set : List SetChan) : State :=
  each set (fun c s => s.setChan c.ch {
    st := .joining, first := c.first, lanes := c.lanes, trig := c.trig, area := c.area, latency := c.latency, gen := c.gen, streams := c.streams,
    slice := 8, run := (s.chan c.ch).run + 1 }) s

/-- The dies that a set touches, ascending. -/
def State.setDies (s : State) (set : List SetChan) : List Nat := (List.range s.nd).filter fun d => set.any (·.ch / 24 == d)

def State.placeSet (s : State) (set : List SetChan) : State :=
  each (s.setDies set) (fun d s => s.placeDie d ((set.filter (·.ch / 24 == d)).map (·.ch))) s

/-- The checks of a set on a die, with their DETAIL, ascending (log entry 72): `s` is the state before the set, `u` with its channels admitted. -/
def State.setChecks (s u : State) (set : List SetChan) (d : Nat) : List (Nat × Bool) :=
  let mine := set.filter (·.ch / 24 == d)
  let any (f : SetChan → Bool) : Bool := mine.any f
  let chs := u.dieChans d
  [(1, any (s.laneBad set)), (2, !u.pixelOk d), (3, !u.burstOk d), (4, !u.holdOk d), (5, !u.egressOk d), (6, any s.alignBad), (7, any s.bytesBad),
   (8, any s.pitchBad), (9, any (·.deadlineBad)), (0x401, mine.any fun c => 4 ≤ (u.chan c.ch).slice), (0x402, 4194304 < sumN (chs.map u.corMemory)),
   (0x403, 16777216 < sumN (chs.map fun ch => (if u.isBayer ch then 12 else 8) * (u.chan ch).rawBytes)),
   (0x404, 4194304 < sumN (chs.map u.delayBytes)), (0x501, !u.roundOk chs (sumN (chs.map u.staPeak))), (0x701, !u.capOk d)]

/-- The limits of a die that hold in a state and not in another, with their DETAIL (R248). -/
def State.newlyBad (s u : State) (d : Nat) : List (Nat × Bool) := ((s.limits d).zip (u.limits d)).map fun e => (e.1.1, e.1.2 && !e.2.2)

/-- The first check of a set that fails, with its die. A context that is still bound to a channel removed before may load the ports and links of
further dies, whose limits count too (R10). -/
def State.setBad (s u : State) (set : List SetChan) : Option (Nat × Nat) :=
  ((List.range s.nd).map fun d =>
    ((if (s.setDies set).contains d then s.setChecks u set d else s.newlyBad u d).filter (·.2)).map fun e => (e.1, d)).flatten.head?

/-- The state as if every removal asked for had taken effect (R128). -/
def State.dropRemoving (s : State) : State := { s with chans := s.chans.filter fun e => e.2.st != .removing }

/-- The statistics configuration that a channel starts with (R209). Banks that still wait for the collector stay (R201). -/
def State.staDefault (s : State) (ch : Nat) : State :=
  let b := sctxB ch
  let w := s.outWidth ch
  let x := s.sta ch
  let s := upTo 8 (fun i s => s.put (b + 0x100 + 4 * i) (resetWord s.part (b + 0x100 + 4 * i))) s
  let s := s.ps b [(R.STA_CTX_CFG_VALID, 1), (R.STA_CTX_CFG_PLANES, if s.chanPlanes ch = 1 then 1 else 3), (R.STA_CTX_COLS_C1, w - 1),
    (R.STA_CTX_ZINVX_ZINVX, 65536 / max 1 w), (R.STA_CTX_ZINVY_ZINVY, 65536 / max 1 (s.unitLines ch)), (R.STA_CTX_QUEUE_OCC, x.queue.length)]
  s.setSta ch { x with live := {}, staged := [] }

/-- The correction and colour context of a channel that is admitted (R153, R163, R165). -/
def State.openContext (s : State) (ch : Nat) : State :=
  let d := ch / 24
  let p := s.physSlice d (s.chan ch).slice
  let w := (s.chan ch).image.width
  let s := { s with cors := tdel s.cors ch }
  match (List.range 12).find? fun k => !s.gb (ctxB d p k) R.COR_CTX_CFG_VALID with
  | none => s
  | some k => s.ps (ctxB d p k) [(R.COR_CTX_CFG_VALID, 1), (R.COR_CTX_CFG_LCHAN, ch % 24), (R.COR_CTX_CFG_BITS, dtBits (s.chan ch).image.dt),
      (R.COR_CTX_WIDTH_WIDTH_M1, w - 1), (R.COR_CTX_RECIPW_RECIPW, 2 ^ 32 / max 1 w), (R.COR_CTX_INV_INVX, 64 * 65536 / max 1 w),
      (R.COR_CTX_INV_INVY, 48 * 65536 / max 1 (s.unitLines ch))]

/-- The STR registers of a channel that is admitted (R123): the head's HELLO fields come from its first lane's link. -/
def State.openStr (s : State) (c : SetChan) : State :=
  let b := strB c.ch
  let least := 10 * (c.latency + 150)
  let rate := s.setRate c
  let most := if rate = 0 then 0xFFFFFF else min 0xFFFFFF (10240000000 / rate)
  let k := s.link (c.ch / 24) c.first
  let s := s.ps b [(R.STR_CFG_FIRST_LANE, c.first), (R.STR_CFG_LANES, c.lanes), (R.STR_CFG_AREA, if c.area then 1 else 0),
    (R.STR_CFG_HITCH, if c.trig = 1 then 0 else 1), (R.STR_DEADMIN_DEADMIN, min 0xFFFFFF least), (R.STR_DEADMAX_DEADMAX, most),
    (R.STR_DEADLINE_DEADLINE, min most (min 0xFFFFFF (if c.deadline = 0 then least else 10 * c.deadline))), (R.STR_HBUF_HBUF, k.hbuf), (R.STR_HID_HID, k.hid),
    (R.STR_LINK_CREDITS, k.cred), (R.HDR_CTRL_EN, 1), (R.HDR_CTRL_QUIESCED, 0)]
  let s := upTo 4 (fun n s => match c.streams[n]? with
    | some x => s.ps (b + 8 * n) [(R.STR_STREAM_VALID, 1), (R.STR_STREAM_VC, x.vc), (R.STR_STREAM_DT, x.dt), (R.STR_STREAM_WIDTH_M1, x.width - 1),
        (R.STR_HEIGHT_HEIGHT, if c.area then x.height else 0)]
    | none => (s.wr (b + 8 * n + R.STR_STREAM_VALID.off) 0).wr (b + 8 * n + R.STR_HEIGHT_HEIGHT.off) 0) s
  s

/-- The first lane of a channel whose triggers are hitches takes trigger duty, and its power target becomes ACTIVE (R92). -/
def State.openDuty (s : State) (c : SetChan) : State :=
  let d := c.ch / 24
  let p := s.physOf d c.first
  if c.trig = 1 then s else ((s.p (laneB d p) (dutyFld p) 1).p (laneB d p) (tgtFld p) 0).applyTgt d p 0

/-- A channel of a set is admitted: `s` has it in its place on a slice. -/
def State.admitChan (s : State) (c : SetChan) : State :=
  (((((s.openStr c).openDuty c).openContext c.ch).staDefault c.ch)).ps (trgB (c.ch / 24) + 4 * (c.ch % 24))
    [(R.TRG_CHAN_VALID, if c.gen.isSome then 1 else 0), (R.TRG_CHAN_GEN, c.gen.getD 0)]

/-- The channels of a set admitted and placed, with the rings of the contexts that are still bound to them (log entry 222). -/
def State.admitSet (s : State) (set : List SetChan) : State :=
  let u := each set (fun c s => s.admitChan c) ((s.tentative set).placeSet set)
  u.regrow (u.boundCtxs.filter fun c => u.cKind c != 7 && set.any (·.ch == u.cSrc c))

def strSetCommitB (w k : Nat) (s : State) : Rsp :=
  let id := s.cmdByte w k 8
  let set := tgetD s.sets id []
  s.checked w k [(8, id = 0 || 8 < id)] <|
  if !s.setOpen id then bad 8
  else if set.any fun c => !s.dieUp (c.ch / 24) then busy 0
  else
    let u := s.admitSet set
    match s.setBad u set with
    | some (e, d) =>
      let s' := s.dropRemoving
      let e' := if (s'.setBad (s'.admitSet set) set).isNone then 0x0A else e
      .err stREFUSED e' (leBytes 1 d)
    | none =>
      let t := each (s.setDies set) (fun d s => (s.syncEligible d).syncStore d) u
      .ok { t.syncAdmit with sets := tdel s.sets id } []

/-! ### Removal (R128) -/

/-- Whether the open frame unit of a channel has ended (R128): none has begun, its FE has come, or no trigger of it is to come and every line of it
has closed. -/
def State.unitOver (s : State) (ch : Nat) : Bool :=
  let c := s.chan ch
  match c.lastTrig with
  | none => true
  | some (f, line) =>
    c.lastFe == some f || (c.tags.isEmpty && c.held.isNone && (c.down || c.area || line + 1 == s.fuLines ch
      || (match c.gen with | some g => !(s.gen g).running || (s.gen g).frame != some f | none => true)))

/-- Whether no line of a channel is on its way through its slice. -/
def State.chanEmpty (s : State) (ch : Nat) : Bool :=
  let c := s.chan ch
  c.tags.isEmpty && c.held.isNone && c.ready.isEmpty && !(tgetD s.sliceQ (ch / 24 * 8 + c.slice) []).any (·.ch == ch) && (s.cor ch).lines.all (·.released)

/-- The registers of a removed channel's correction and colour context return to their reset values. -/
def State.closeContext (s : State) (ch : Nat) : State :=
  let d := ch / 24
  match s.chanSlice ch with
  | none => s
  | some p => match s.corCtx ch p with
    | none => s
    | some k => upTo 16 (fun i s =>
        let a := ctxB d p k + 0x100 + 4 * i
        let e := dctxB d p k + 0x100 + 4 * i
        (s.put a (resetWord s.part a)).put e (resetWord s.part e)) s

/-- The lines that a channel still has in its slice are read and released at once (log entry 96). -/
def State.drainChan (s : State) (ch : Nat) : State :=
  match s.chanSlice ch with
  | none => s
  | some p =>
    if s.g (corB (ch / 24) p) R.COR_SLICE_ROLE != 0 then s
    else
      let q := ch / 24 * 8 + (s.chan ch).slice
      let mine := (tgetD s.sliceQ q []).filter (·.ch == ch)
      let s : State := { s with sliceQ := tset s.sliceQ q ((tgetD s.sliceQ q []).filter (·.ch != ch)) }
      let s := (each mine (fun r s => s.sliceRead p r []) s).corAdvance ch
      match s.corCtx ch p with
      | some k => s.releaseReady ch p k
      | none => s

/-- STREAM_REMOVAL: the channel's frame unit has ended, at its FE or at its deadline (R128). Lines that an early FE leaves open close at once with
LATE, and what is in the slice is read and released (log entry 96). -/
def streamRemovalF (ch : Nat) (s0 : State) : State :=
  let c := s0.chan ch
  let d := ch / 24
  let b := strB ch
  if c.st != .removing || !s0.unitOver ch then s0
  else
  let s := each c.tags (fun t s => (s.closeTag ch t flLATE).lateMark ch) s0
  let s := s.drainChan ch
  if !s.chanEmpty ch then s
  else
    let s := each c.tun (fun t s => s.tunnelFail t) s
    let s := s.setLink d c.first { s.link d c.first with cred := s.g b R.STR_LINK_CREDITS + (c.tun.filter (·.sent)).length }
    let s := s.closeContext ch
    let s := if (s.sta ch).live.lines = 0 then s else s.staEnd ch
    let s := { s with cors := tdel s.cors ch }.setSta ch { s.sta ch with staged := [] }
    let p0 := s.physOf d c.first
    let s := if c.trig = 1 then s else s.p (laneB d p0) (dutyFld p0) 0
    let s := s.setChan ch { run := c.run }
    let s := s.ps b [(R.STR_CFG_LANES, 0), (R.HDR_CTRL_EN, 0), (R.HDR_CTRL_QUIESCED, 1)]
    let s := upTo 4 (fun n s => s.p (b + 8 * n) R.STR_STREAM_VALID 0) s
    let s := ((s.p (sctxB ch) R.STA_CTX_CFG_VALID 0).ps (trgB d + 4 * (ch % 24)) [(R.TRG_CHAN_VALID, 0), (R.TRG_CHAN_GEN, 0)])
    let s := each ((List.range c.lanes).map (· + c.first)) (fun l s =>
      let p := s.physOf d l
      s.applyTgt d p (s.g (laneB d p) (tgtFld p))) s
    (((s.syncEligible d).syncStore d).syncReps).syncAdmit

/-! ### Taps (R192, R193, R195) -/

def dmsSetTapsB (w k : Nat) (s : State) : Rsp :=
  let ch := s.cp w k 8 2
  let taps := s.cmdByte w k 10
  s.checked w k [(8, s.nch ≤ ch), (10, 31 < taps)] <|
  s.onCtx ch fun p x =>
    let t := s.stageP ch p x true [(R.DMS_CTX_CFG_TAPS, taps)]
    let more := s.tapsOf ch < t.tapsOf ch
    if more && 102400000000 < sumN ((t.sliceChans (ch / 24) (s.chan ch).slice).map t.sliceCost) then refused 0x401
    else if more && !t.pixelOk (ch / 24) then refused 2
    else .ok t []

/-! ### Splice groups (R226, R227) -/

/-- Whether a set crosses dies one of which has a time unit that is not aligned (R18, R226). -/
def State.splAlignBad (s : State) (g : Nat) (c : SplCfg) : Bool :=
  let dies := (g / 8 :: c.mems.map (·.ch / 24)).eraseDups
  1 < dies.length && dies.any fun d => tbit s.clock.unaligned d

/-- SPL_APPLY. The group counts with both its sets, and its consumers with the old set and with the new one; their rings grow to what the new set
asks for (R226, R248; log entry 222). -/
def splApplyB (w k : Nat) (s : State) : Rsp :=
  let g := s.cmdByte w k 8
  s.checked w k (s.grpChecks w k) <|
  let x := s.stagedSet g
  let c := s.splBuild x
  if !s.dieUp (g / 8) || (s.grp g).isolated then busy 2
  else match s.splBad x with
  | some (reason, i) => .err stBAD 8 (leBytes 1 reason ++ leBytes 1 i)
  | none =>
    if c.mems.any fun m => 5 ≤ s.physSlice (m.ch / 24) (s.chan m.ch).slice then busy 3
    else
      let f := match (s.gen c.gen).frame with | some f => (f + 1) % 2 ^ 32 | none => 0
      let t := (s.modGrp g fun y => { y with commit := some c, applyAt := f, staged := none, removing := false, stopped := false })
      let cs := s.boundCtxs.filter fun m => s.cKind m == 7 && s.cSrc m == 0x100 + g
      let u := ((t.modGrp g fun y => { y with active := false }).p (grpB g) R.SPL_GRP_CFG_VALID 0).regrow cs
      let t := each cs (fun m t => t.p (ctxBase m) R.CSM_CTX_RLEN_MIB (u.cg m R.CSM_CTX_RLEN_MIB)) t
      let broken (e : Nat) : Bool := (List.range s.nd).any fun d => (s.newlyBad t d ++ s.newlyBad u d).any fun x => x.1 == e && x.2
      if broken 3 then refused 3
      else if broken 4 then refused 4
      else if broken 5 then refused 5
      else if s.splAlignBad g c then refused 6
      else if broken 0x701 then refused 0x701
      else .ok (t.splCommitRW g (x.deadline != 0 && x.deadline < c.deadmin) c).syncAdmit (leBytes 4 f)

/-! ### Binding (R230 to R233, R237, R252) -/

/-- The columns that a source gives. -/
def State.srcWidth (s : State) (kind id : Nat) : Nat :=
  if kind = 7 then (s.grpSet (id - 0x100)).width else if kind = 0 || kind = 5 then s.nextWidth id else (s.chan id).image.width

/-- The rows that a source gives: 0 for line records. -/
def State.srcRows (s : State) (kind id : Nat) : Nat :=
  if kind = 7 then (if (s.grpSet (id - 0x100)).compose then (s.grpSet (id - 0x100)).height else 0)
  else if (s.chan id).area then (s.chan id).image.height else 0

/-- Whether a source is admitted, and the number of its planes. -/
def State.srcThere (s : State) (kind id : Nat) : Bool :=
  if kind = 7 then (let x := s.grp (id - 0x100); (x.active || x.commit.isSome) && !x.removing)
  else (s.chan id).st == .joining || (s.chan id).st == .running
def State.srcPlanes (s : State) (kind id : Nat) : Nat :=
  if kind = 7 then (s.grpSet (id - 0x100)).planes else if kind = 0 || kind = 5 then s.nextPlanes id else 1

/-- Whether a format is of the wrong kind for a source (R190, R230). -/
def State.fmtBad (s : State) (kind id fmt : Nat) : Bool :=
  if kind = 6 then fmt != 0x20
  else if kind = 1 then fmt != 0
  else fmt == 0 || fmt == 0x20 || (fmtColour fmt != (s.srcPlanes kind id == 3))

/-- Whether the columns or rows of a bight lie beyond a source, or it names no layer of it. -/
def State.bightBad (s : State) (kind id u1 v0 v1 layers : Nat) : Bool :=
  if kind = 6 then false
  else
    let rows := s.srcRows kind id
    s.srcWidth kind id ≤ u1 || (if rows = 0 then v0 != 0 || v1 != 0 else rows ≤ v1)
      || (kind = 7 && (s.grpSet (id - 0x100)).compose && layers % 2 ^ (s.grpSet (id - 0x100)).layers = 0)

/-- The context that CSM_BIND asks for, as register fields. Layers that the group does not have are left out (log entry 220). -/
def State.bindFields (s : State) (w k : Nat) : List (Fld × Nat) :=
  let kind := s.cmdByte w k 10
  let id := s.cp w k 12 2
  let sta := kind = 6
  let z (n : Nat) : Nat := if sta then 0 else n
  let compose := kind = 7 && (s.grpSet (id - 0x100)).compose
  let layers := s.cmdByte w k 32 % 2 ^ (s.grpSet (id - 0x100)).layers
  [(R.CSM_CTX_CFG_VALID, 1), (R.CSM_CTX_CFG_STATE, 1), (R.CSM_CTX_CFG_SRC_KIND, kind), (R.CSM_CTX_CFG_FORMAT, s.cmdByte w k 11), (R.CSM_CTX_CFG_PATH, s.cmdByte w k 14),
   (R.CSM_CTX_CFG_PRIO, s.cmdByte w k 64), (R.CSM_CTX_CFG_XMODE, z (s.cmdByte w k 33)), (R.CSM_CTX_SRC_LSTEP_M1, z (s.cp w k 34 2 - 1)),
   (R.CSM_CTX_SRC_LAYERS, if compose then layers else 0), (R.CSM_CTX_SRC_SRC_ID, id), (R.CSM_CTX_U0_U0, z (s.cp w k 20 4)), (R.CSM_CTX_U1_U1, z (s.cp w k 24 4)),
   (R.CSM_CTX_V_V0, z (s.cp w k 28 2)), (R.CSM_CTX_V_V1, z (s.cp w k 30 2)), (R.CSM_CTX_XLO_LO_XLO, z (s.cp w k 40 4)), (R.CSM_CTX_XLO_HI_XLO, z (s.cp w k 44 4)),
   (R.CSM_CTX_XHI_LO_XHI, z (s.cp w k 48 4)), (R.CSM_CTX_XHI_HI_XHI, z (s.cp w k 52 4)), (R.CSM_CTX_PATHID_PATH_ID, s.cp w k 16 3), (R.CSM_CTX_HOLD_HOLD, s.cp w k 56 4),
   (R.CSM_CTX_WIN_BURST, s.cmdByte w k 65), (R.CSM_CTX_WIN_WINDOW, s.cp w k 60 4), (R.CSM_CTX_NEXT_SEQ, 0), (R.CSM_CTX_ACKED_SEQ, 0xFFFFF), (R.CSM_CTX_DONE_SEQ, 0xFFFFF)]

/-- Fields that name a share set (R237): source, bight and format. -/
def shareFlds : List Fld :=
  [R.CSM_CTX_CFG_SRC_KIND, R.CSM_CTX_CFG_FORMAT, R.CSM_CTX_CFG_XMODE, R.CSM_CTX_SRC_LSTEP_M1, R.CSM_CTX_SRC_LAYERS, R.CSM_CTX_SRC_SRC_ID, R.CSM_CTX_U0_U0,
   R.CSM_CTX_U1_U1, R.CSM_CTX_V_V0, R.CSM_CTX_V_V1, R.CSM_CTX_XLO_LO_XLO, R.CSM_CTX_XLO_HI_XLO, R.CSM_CTX_XHI_LO_XHI, R.CSM_CTX_XHI_HI_XHI]

/-- A bound context that shares records with a context; one that drains under CSM_UNBIND takes no new member. -/
def State.sharer (s : State) (c : Nat) : Option Nat :=
  s.boundCtxs.find? fun o => o != c && s.cg o R.CSM_CTX_CFG_STATE != 3 && shareFlds.all fun f => s.cg o f == s.cg c f

/-- The other members of the share set that a context joins. -/
def State.sharers (s : State) (c : Nat) : List Nat :=
  match s.sharer c with
  | some o => (s.shareMembers (s.ctx o).share).filter (· != c)
  | none => []

/-- Bind the path of a context (R231): its ring, flow or volume. -/
def State.bindPath (s : State) (c mode : Nat) : State :=
  let x := s.pathOf c
  let path := s.cg c R.CSM_CTX_CFG_PATH
  if path = 0 then
    let r := s.ringOf c
    ((s.modRing x.1 r fun y => { y with bound := some c }).ps (ringBase x.1 r) [(R.DMA_RING_STAT_CONS, c), (R.DMA_RING_STAT_MODE, mode), (R.DMA_RING_STAT_STATE, if s.ringSt x.1 r = 4 then 4 else 3),
      (R.DMA_RING_DONE_SEQ, 0xFFFFF), (R.DMA_RING_DONE_CONS, c)]).syncRing x.1 r |>.pumpRing x.1 r
  else if path = 1 then
    let (ses, s) := s.newSession (flowBase x.1 x.2.1 x.2.2)
    s.ps (flowBase x.1 x.2.1 x.2.2) [(R.ETH_FLOW_CFG_STATE, 2), (R.ETH_FLOW_CFG_CONS, c), (R.ETH_FLOW_SESSION_SESSION, ses), (R.ETH_FLOW_RTO_FAILS, 0)]
  else
    let v := x.2.2
    let s := s.modVol v fun y => { y with bound := some c, die := s.ctxDie c }
    (s.ps (volBase v) [(R.COL_VOL_CFG_CONS, c), (R.COL_VOL_CFG_STATE, 2)]).volState v

/-- The path of a context that is freed is left configured and unbound. -/
def State.unbindPath (s : State) (c : Nat) : State :=
  let x := s.pathOf c
  let path := s.cg c R.CSM_CTX_CFG_PATH
  if path = 0 then
    let r := s.ringOf c
    (s.modRing x.1 r fun y => { unreported := y.unreported }).ps (ringBase x.1 r)
      [(R.DMA_RING_STAT_CONS, 0), (R.DMA_RING_STAT_MODE, 0), (R.DMA_RING_STAT_STATE, if s.ringSt x.1 r = 4 then 4 else 1), (R.DMA_RING_DONE_CONS, 0)]
  else if path = 1 then s.ps (flowBase x.1 x.2.1 x.2.2) [(R.ETH_FLOW_CFG_STATE, 1), (R.ETH_FLOW_CFG_CONS, 0)]
  else (s.modVol x.2.2 fun y => { y with bound := none }).ps (volBase x.2.2) [(R.COL_VOL_CFG_CONS, 0), (R.COL_VOL_CFG_STATE, 1)]

/-- Whether a PATH_ID names no ring, flow or volume of the part. -/
def State.pathIdBad (s : State) (path pid : Nat) : Bool :=
  let d := pid / 65536
  let u := pid / 256 % 256
  if path = 0 then s.nd ≤ d || 4 ≤ u else if path = 1 then s.nd ≤ d || 8 ≤ u else 15 < pid

/-- Whether the ring, flow or volume that a command names is not configured, or is bound. -/
def State.pathBad (s : State) (path pid : Nat) : Bool :=
  let d := pid / 65536
  let u := pid / 256 % 256
  let n := pid % 256
  if path = 0 then s.ringSt d (256 * u + n) = 0 || (s.ring d (256 * u + n)).bound.isSome
  else if path = 1 then s.flowSt d u n != 1
  else s.volSt n != 1

/-- The limits that a bind may break: `t` has the context bound. -/
def State.bindLimit (t : State) : Option Nat := t.limitBad.map (·.1)

/-- A context's place in its share set, and the set's members and ring length (R237, R238). -/
def State.shareWrite (s : State) (c : Nat) : State :=
  let others := s.sharers c
  let ms := c :: others
  let first := match s.sharer c with | some o => s.cg o R.CSM_CTX_SHARE_FIRST | none => c
  let sh := match s.sharer c with
    | some o => (s.ctx o).share
    | none => ((List.range 4097).find? fun n => !s.ctxs.any fun e => e.1 != c && e.2.share == n).getD 4096
  let hold := (ms.map fun m => s.cg m R.CSM_CTX_HOLD_HOLD).foldl max 0
  let mib := (others.map fun m => s.cg m R.CSM_CTX_RLEN_MIB).foldl max (s.ringMiB c hold)
  let s := s.modCtx c fun x => { x with share := sh }
  each ms (fun m s => s.ps (ctxBase m) [(R.CSM_CTX_SHARE_FIRST, first), (R.CSM_CTX_SHARE_MEMBERS, ms.length), (R.CSM_CTX_RLEN_MIB, mib)]) s

/-- The first frame number of a binding (R252): that of the source's next frame-unit start. -/
def State.bindFrame (s : State) (kind id : Nat) : Nat :=
  match (s.sourceGen kind id).bind fun g => (s.gen g).frame with
  | some f => (f + 1) % 2 ^ 32
  | none => 0

/-- The checks of step 4 of R72 on CSM_BIND. -/
def State.bindChecks (s : State) (w k : Nat) : List (Nat × Bool) :=
  let c (o : Nat) : Nat := s.cmdByte w k o
  let kind := c 10
  let id := s.cp w k 12 2
  let hold := s.cp w k 56 4
  let win := s.cp w k 60 4
  [(8, 4095 < s.cp w k 8 2), (10, 7 < kind), (11, !(fmtKnown (c 11) || c 11 == 0x20)), (12, if kind = 7 then id < 0x100 || 0x100 + 8 * s.nd ≤ id else s.nch ≤ id),
    (14, 2 < c 14), (15, if c 14 = 0 then c 15 != 0x80 && (c 15 == 0 || 15 < c 15) else c 15 != 0), (16, c 14 ≤ 2 && s.pathIdBad (c 14) (s.cp w k 16 4)),
    (20, s.cp w k 24 4 < s.cp w k 20 4 || s.cp w k 30 2 < s.cp w k 28 2 || 0xFFFFF < s.cp w k 24 4),
    (32, 15 < c 32), (33, 1 < c 33), (34, s.cp w k 34 2 == 0 || 256 < s.cp w k 34 2),
    (56, hold < 100 || 10000000 < hold || win == 0 || 4096 < win || 8 < c 65), (64, 7 < c 64)]

def csmBindB (w k : Nat) (s : State) : Rsp :=
  let c := s.cp w k 8 2
  let kind := s.cmdByte w k 10
  let id := s.cp w k 12 2
  let path := s.cmdByte w k 14
  let pid := s.cp w k 16 4
  let home := srcHome kind id
  let u := (s.modCtx c fun _ => {}).ps (ctxBase c) (s.bindFields w k)
  s.checked w k (s.bindChecks w k) <|
  if s.cbound c then busy 1
  else if !s.dieUp home || (path != 2 && !s.dieUp (pid / 65536)) then busy 2
  else if !s.srcThere kind id then busy 3
  else if s.fmtBad kind id (s.cmdByte w k 11) then bad 11
  else if s.bightBad kind id (s.cp w k 24 4) (s.cp w k 28 2) (s.cp w k 30 2) (s.cmdByte w k 32) then bad 20
  else if s.pathBad path pid then bad 16
  else if path = 2 && s.cp w k 56 4 < 2 * s.vg (pid % 256) R.COL_VOL_DTO_DTO then bad 56
  else if 16 ≤ (u.sharers c).length then busy 3
  else if path = 0 && s.degraded (pid / 65536) then refused 5
  else
    let f := s.bindFrame kind id
    let t := (((u.modCtx c fun x => { x with startAt := some f }).shareWrite c).bindPath c (s.cmdByte w k 15))
    match t.bindLimit with
    | some e => refused e
    | none =>
      let (base, t) := if (u.sharers c).isEmpty then t.fresh else (t.cg ((u.sharers c).headD 0) R.CSM_CTX_RING_BASE, t)
      let t := (t.p (ctxBase c) R.CSM_CTX_RING_BASE base).p (ctxBase c) R.CSM_CTX_ACKED_CONS c
      .ok t.syncAdmit (leBytes 4 f ++ leBytes 2 (t.cg c R.CSM_CTX_SHARE_FIRST) ++ leBytes 4 (t.cg c R.CSM_CTX_RLEN_MIB))

def csmSetHoldB (w k : Nat) (s : State) : Rsp :=
  let c := s.cp w k 8 2
  let hold := s.cp w k 12 4
  s.checked w k [(8, 4095 < c), (12, hold < 100 || 10000000 < hold)] <| s.onBound c (s.pathDie c) <|
  let t := s.p (ctxBase c) R.CSM_CTX_HOLD_HOLD hold
  let ms := t.shareMembers (s.ctx c).share
  let mib := max (s.cg c R.CSM_CTX_RLEN_MIB) (t.ringMiB c ((ms.map fun m => t.cg m R.CSM_CTX_HOLD_HOLD).foldl max 0))
  let t := each ms (fun m t => t.p (ctxBase m) R.CSM_CTX_RLEN_MIB mib) t
  if s.cg c R.CSM_CTX_HOLD_HOLD < hold && !t.capOk (s.ctxDie c) then refused 0x701 else .ok t.syncAdmit []

/-- CONTEXT_FREE: the context is freed, and its path is left unbound (R245). -/
def contextFreeAllF (c : Nat) (s : State) : State :=
  let t := contextFreeF c s
  if s.cbound c && !t.cbound c then
    let x := s.unbindPath c
    (contextFreeF c x).syncAdmit
  else s

/-! ### Volumes (R298, R313) -/

/-- The targets that COIL_VOL_SETUP names for the slots and for the spare list. -/
def State.volSlots (s : State) (w k : Nat) : List Nat := (List.range (s.cmdByte w k 9 + s.cmdByte w k 10)).map fun j => s.cmdByte w k (48 + j)
def State.volSpares (s : State) (w k : Nat) : List Nat := (List.range (min 8 (s.cmdByte w k 45))).map fun j => s.cmdByte w k (68 + j)
def State.volMacs (s : State) (w k : Nat) : List (Nat × Nat) :=
  (List.range (min 8 (s.cmdByte w k 12))).map fun p => (s.cmdByte w k (76 + 2 * p), s.cmdByte w k (77 + 2 * p))

/-- Whether [BASE, BASE + SIZE) leaves the archive space, is not made of whole stripes, or meets another volume (R298). -/
def State.rangeBad (s : State) (v base size stripe : Nat) : Bool :=
  size = 0 || base % stripe != 0 || size % stripe != 0 || 2 ^ 52 < base + size
    || (List.range 16).any fun o => o != v && s.vg o R.COL_VOL_CFG_VALID == 1 && s.volBaseA o < base + size && base < s.volBaseA o + s.volSize o

/-- Whether a named port is no MAC of the part or is not enabled. -/
def State.macsBad (s : State) (w k : Nat) : Bool :=
  (s.volMacs w k).any fun e => s.nd ≤ e.1 || 8 ≤ e.2 || !s.gb (ethB e.1 e.2) R.HDR_CTRL_EN

def State.volChecks (s : State) (w k : Nat) : List (Nat × Bool) :=
  let c (o : Nat) : Nat := s.cmdByte w k o
  let n (o : Nat) : Nat := s.cp w k o 4
  [(8, 15 < c 8), (9, c 9 == 0 || 16 < c 9 || c 10 == 0 || 4 < c 10), (11, 8 < c 11), (12, c 12 == 0 || 8 < c 12),
    (32, n 32 < 10 || 100000 < n 32 || n 36 < 100 || 10000000 < n 36 || n 40 == 0 || 1000000 < n 40 || 15 < c 44), (45, 8 < c 45)]

/-- Whether a target is one more than once, or undefined. -/
def State.tgtBad (s : State) (l : List Nat) : Bool := l.eraseDups.length != l.length || l.any fun t => s.tg t R.COL_TGT_CFG_VALID == 0 || t == 0xFF

/-- The registers of a volume that is set up. -/
def State.volWrite (s : State) (w k : Nat) (cap : Nat → Nat) : State :=
  let v := s.cmdByte w k 8
  let b := volBase v
  let base := s.cp w k 16 8
  let size := s.cp w k 24 8
  let s := s.ps b [(R.COL_VOL_CFG_VALID, 1), (R.COL_VOL_CFG_STATE, 1), (R.COL_VOL_CFG_PORTS, s.cmdByte w k 12), (R.COL_VOL_CFG_M, s.cmdByte w k 10),
    (R.COL_VOL_CFG_K, s.cmdByte w k 9), (R.COL_VOL_CFG_SHIFT, s.cmdByte w k 11), (R.COL_VOL_BASE_LO_BASE, base), (R.COL_VOL_BASE_HI_BASE, base / 2 ^ 32),
    (R.COL_VOL_SIZE_LO_SIZE, size), (R.COL_VOL_SIZE_HI_SIZE, size / 2 ^ 32), (R.COL_VOL_WPTR_LO_WPTR, base), (R.COL_VOL_WPTR_HI_WPTR, base / 2 ^ 32),
    (R.COL_VOL_DPTR_LO_DPTR, base), (R.COL_VOL_DPTR_HI_DPTR, base / 2 ^ 32), (R.COL_VOL_CTO_CTO, s.cp w k 32 4), (R.COL_VOL_DTO_DTO, s.cp w k 36 4),
    (R.COL_VOL_SEAL_STRIPE_T, s.cp w k 40 4), (R.COL_VOL_SEAL_RETRIES, s.cmdByte w k 44), (R.COL_VOL_RBRATE_RATE, s.cp w k 46 2)]
  let s := upTo 8 (fun p s => match (s.volMacs w k)[p]? with
    | some e => s.ps (b + 4 * p) [(R.COL_VOL_PORT_DIE, e.1), (R.COL_VOL_PORT_MAC, e.2)]
    | none => s) s
  let s := each (s.volSlots w k).zipIdx (fun e s => (s.p b (slotFld e.2) e.1).takeTgt v e.1 2 e.2 (cap e.1)) s
  let s := each (s.volSpares w k) (fun t s => s.takeTgt v t 1 0 (cap t)) s
  (s.setSpares v (s.volSpares w k)).setVol v {}

/-- COIL_VOL_SETUP: `probes` are the answers that the targets gave. A configured volume that is set up again gives back its targets first. -/
def coilVolSetupB (probes : List ProbeAns) (w k : Nat) (s : State) : Rsp :=
  let v := s.cmdByte w k 8
  let tgts := s.volSlots w k ++ s.volSpares w k
  let need := s.cp w k 24 8 / max 1 (s.cmdByte w k 9)
  let cap (t : Nat) : Option Nat := (probes.find? (·.tgt == t)).map (·.capMiB)
  s.checked w k (s.volChecks w k) <|
  if s.macsBad w k then bad 12
  else if s.rangeBad v (s.cp w k 16 8) (s.cp w k 24 8) (max 1 (s.cmdByte w k 9) * (4096 * 2 ^ s.cmdByte w k 11)) then bad 16
  else if s.tgtBad tgts || tgts.any fun t => (cap t).any fun m => m * 2 ^ 20 < need then bad 48
  else if (s.volMacs w k).any fun e => !s.dieUp e.1 then busy 5
  else if (s.vol v).bound.isSome then busy 1
  else
    let u := if s.vg v R.COL_VOL_CFG_VALID = 1 then s.volClear v else s
    if tgts.any fun t => u.tg t R.COL_TGT_CFG_STATE = 1 || u.tg t R.COL_TGT_CFG_STATE = 2 || u.tg t R.COL_TGT_CFG_STATE = 4 then busy 2
    else if (tgts.any fun t => (cap t).isNone) || (s.volMacs w k).all fun e => !s.ethUp e.1 e.2 then busy 3
    else
      let rb : Rat := ((s.cp w k 46 2 * 100000000 : Nat) : Rat) / max 1 (s.volMacs w k).length
      if (s.volMacs w k).any fun e => decide (s.macLimit e.1 e.2 < s.macLoad e.1 e.2 + ((s.volMacs w k).filter (· == e)).length * rb) then refused 5
      else .ok (u.volWrite w k fun t => (cap t).getD 0) (leBytes 4 ((need + 1048575) / 1048576))

end Sys2Proof.Machine
end

