-- ==== Sys2Proof/Machine/Flags.lean ====
section
/-!
DEFINITION. The bits of a register that are computed as it is read or written: which registers a block has, BOUND, the words that show the
part's state, the parts of a word by access type, sequence clearing, rejections of a write and TMR copies (R25, R36 to R46, R51).
-/
namespace Sys2Proof.Machine
open Sys2Proof

/-! ### Which registers exist (R25, R38) -/

/-- Whether a block has triplicated fields. -/
def Blk.hasTmr : Blk → Bool
  | .sys => true | .prt => true | .mbx => true | .lnq => true | .cor => true | .dms => true | .sta => true | .spl => true
  | .flt => true | .fltp => true | .mfp => true
  | _ => false

/-- Whether a block has counters that a snapshot holds. -/
def Blk.hasSnap : Blk → Bool
  | .sys => false | .prt => false | .fltp => false | .mfp => false | .knb => false
  | _ => true

/-- Whether a register of the common header exists in a block: the registers of a kind of field that a block lacks are unassigned (R38). -/
def Blk.hasHdr (b : Blk) (off : Nat) : Bool :=
  if off = 8 then b.hasRwd
  else if off = 0xC || off = 0x10 then b.hasSnap
  else if off = 0x14 then b.hasTmr
  else if off = 0x18 || off = 0x1C || off = 0x20 then b.hasInd
  else true

/-- The row of a plain register at an offset of a block; LNQ's spare registers lie in quad 16 and SYS_FLASH on die 0 alone. -/
def plainRow (d slot : Nat) (b : Blk) (off : Nat) : Option RegRow :=
  if b != .knb && off < 0x40 && !b.hasHdr off then none
  else if b == .lnq && slot != 0x30 && 0x80 ≤ off && off < 0xA0 then none
  else if b == .sys && d != 0 && off = 0x54 then none
  else rowAt b.rows off

/-- The row of an indirect word of a block, at a byte address of its indirect space: LNQ's are laid out per lane, and rate detection
is on the CAN channels from 2 up. -/
def State.indRow (s : State) (d : Nat) (b : Blk) (ia : Nat) : Option RegRow :=
  if b == .lnq then (if ia < 0x4000 then rowAt (b.indRows s.part) (ia % 0x1000) else none)
  else if b == .can && d < 2 && 0x40 ≤ ia && ia < 0xC0 then none
  else rowAt (b.indRows s.part) ia

/-! ### BOUND (R38, R44) -/

/-- The generators that fire for an admitted channel. -/
def State.gensServing (s : State) : List Nat := s.chans.filterMap fun e => if e.2.admitted then e.2.gen else none

/-- Whether a block serves an admitted stream or a bound consumer. -/
def State.boundOf (s : State) (d slot : Nat) (b : Blk) : Bool :=
  match b with
  | .lnq => (List.range 4).any fun i => match s.logOf d (4 * (slot - 0x20) + i) with
    | some l => s.laneUsed d l
    | none => false
  | .str => (s.chan (24 * d + (slot - 0x40))).admitted
  | .web => s.gensServing.any fun g => s.genSrc g / 4 == d && s.genSrc g != 0x3F
  | .trg => s.gensServing.any (· / 8 == d) || s.chans.any fun e => e.1 / 24 == d && e.2.admitted && e.2.gen.isSome
  | .cor => (List.range 12).any fun k => s.gb (ctxB d (slot - 0x60) k) R.COR_CTX_CFG_VALID
  | .dms => (List.range 12).any fun k => s.gb (ctxB d (slot - 0x68) k) R.COR_CTX_CFG_VALID
  | .sta => s.chans.any fun e => e.1 / 24 == d && e.2.admitted
  | .spl => s.grps.any fun e => e.2.active && (e.1 / 8 == d || (s.splCfg e.1).mems.any fun m => m.ch / 24 == d)
  | .csm => !(s.homeCtxs d).isEmpty
  | .hld => !(s.homeCtxs d).isEmpty
  | .dma => s.rings.any fun e => e.1 / 1024 == d && e.2.bound.isSome
  | .pci => s.rings.any fun e => e.1 / 1024 == d && e.2.bound.isSome
  | .eth => !(s.boundFlows d (slot - 0x70)).isEmpty
      || s.vols.any fun e => e.2.bound.isSome && (s.volPorts e.1).contains (d, slot - 0x70)
  | .col => s.vols.any fun e => e.2.bound.isSome && e.2.die == d
  | _ => false

/-! ### Words that show the part's state -/

/-- FLT_PKG_HEALTH: clusters in service (R60; log entry 90), dies not isolated, dies present, dies with an unprotected group. -/
def State.health (s : State) : Nat :=
  let m (p : Nat → Bool) : Nat := maskOf ((List.range s.nd).filter p)
  m (fun d => s.dieUp d && (s.cluster d).st != .failed) * 2 ^ 24 + m s.dieUp * 2 ^ 16 + s.part.mask * 2 ^ 8
    + m (fun d => s.g (fltpBase + 4 * d) R.FLT_PKG_UNPROT_GROUPS != 0)

/-- HBM_SWEEP with the row its pointer has reached (R325): 1,088 bytes to a row at RATE GB/s. -/
def State.sweepWord (s : State) (d : Nat) : Word :=
  let w := s.rd (hbmI d + R.HBM_SWEEP_ROW.off)
  if s.gb (hbmI d) R.HBM_SWEEP_ACTIVE then
    let ns := 2 * (s.clock.now - s.cnt (hbmI d + R.HBM_SWEEP_ROW.off))
    putBits w R.HBM_SWEEP_ROW.hi R.HBM_SWEEP_ROW.lo (min 46874999 (ns * s.g (hbmI d) R.HBM_SWEEP_RATE_RATE / 1088))
  else w

/-- HBM_CHAN with the words rebuilt in the last 1.0 ms (R324); of a failed channel, whose every read is rebuilt, an open value. -/
def State.chanWord (s : State) (d f : Nat) : Word :=
  let w := s.rd (hbmCh d f)
  if bits w 2 0 = 2 then w
  else putBits w R.HBM_CHAN_RECON.hi R.HBM_CHAN_RECON.lo
    (min 255 ((tgetD s.recon (d * 32 + f) []).filter fun t => s.clock.now < t + 500000).length)

/-- The state code of a mailbox slot (R67). -/
def SlotSt.code : SlotSt → Nat
  | .free => 0 | .posted => 1 | .running => 2 | .done => 3

/-- MBX_SLOT_STAT, MBX_DONE and MBX_LEADER. -/
def State.slotStat (s : State) (w k : Nat) : Nat := (s.slot w k).tag * 65536 + (s.slot w k).level * 16 + (s.slot w k).st.code
def State.doneWord (s : State) (w : Nat) : Nat := maskOf ((List.range 16).filter fun k => (s.slot w k).st == .done)
def State.leaderWord (s : State) : Nat := s.epoch * 256 + s.leaderSt * 16 + s.leader

/-- The registers of a protection table (R56), rising: the port defaults, the policies of the block types, the requester entries. -/
def prtAddrs : List Nat :=
  ((List.range 8).map fun p => prtBase + 0x80 + 4 * p) ++ (((List.range 24).filter (· != 22)).map fun i => prtBase + 0x100 + 4 * i)
    ++ ((List.range 192).map fun n => prtBase + 0x200 + 16 * (n / 3) + 4 * (n % 3))

/-- A word of a protection table with the fields that R56 fixes: SYS and PRT are written by Root, KNB is open. -/
def fixedWord (a : Nat) (w : Word) : Word :=
  if a = prtBase + 0x100 || a = prtBase + 0x108 then putBits w 1 0 0 else if a = prtBase + 0x104 then 0x33 else w

/-- The staged table: its words that differ from their reset values. -/
def State.stagedPrt (s : State) : Tbl Word :=
  prtAddrs.filterMap fun a =>
    let w := fixedWord a (s.rd a)
    if w = resetWord s.part a then none else some (a, w)

/-- What a plain register reads as (R36, R46), given its storage address and its place. -/
def State.view (s : State) (d slot : Nat) (b : Blk) (off sa : Nat) : Word :=
  let w := s.rd sa
  let n (x : Nat) : Word := BitVec.ofNat 32 x
  if b == .knb then w
  else if off = 4 then putBits w 2 2 (if s.boundOf d slot b then 1 else 0)
  else match b with
    | .prt => if off = 0x48 then putBits w 0 0 (if s.stagedPrt = s.prt then 0 else 1) else w
    | .fltp => if off = 0x40 then n s.health else w
    | .flt => if off = 0x50 then s.gsum d else if off = 0x54 then s.pcount d else if off = 0x110 then n (s.tleft (sa - 0x110)) else w
    | .mbx =>
      if off = 0x48 then n (s.doneWord (slot - 4)) else if off = 0x58 then n s.leaderWord
      else if 0x100 ≤ off && off < 0x140 then n (s.slotStat (slot - 4) ((off - 0x100) / 4)) else w
    | .col => if off = 0x4C then putBits w R.COL_TRK_USED.hi R.COL_TRK_USED.lo (s.coilUsed d) else w
    | .dma => if off = 0x48 then putBits w R.DMA_TRK_USED.hi R.DMA_TRK_USED.lo (s.trkUsed d) else w
    | .str => if off = 0x70 then s.strLink (24 * d + (slot - 0x40)) else w
    | .mfp => if off = 0x44 then n (s.padWord d 0) else if off = 0x48 then n (s.padWord d 1) else w
    | _ => w

/-- What an indirect word reads as: the live CAN time stamp and the sweep pointer, else the stored word. -/
def State.indView (s : State) (d slot : Nat) (b : Blk) (ia : Nat) : Word :=
  if b == .can && ia = 0x18 then BitVec.ofNat 32 (s.canTs d s.kernel)
  else if b == .hld && ia = 0x80 then s.sweepWord d
  else if b == .hld && ia < 0x44 then s.chanWord d (ia / 4)
  else s.rd (indBase d slot + ia)

/-! ### Writing a word by its access types (R27, R37, R39 to R44) -/

/-- The bits of a row's fields, and those of its flags and capture fields where it is a SEQ register. -/
def RegRow.all (r : RegRow) : Word := r.maskOf fun _ => true
def RegRow.flags (r : RegRow) : Word := r.maskOf (· == .seq) &&& 0x00FFFFFF
def RegRow.caps (r : RegRow) : Word := r.maskOf (· == .ro)
def RegRow.isSeq (r : RegRow) : Bool := r.flds.any (·.acc == .seq)

/-- How a word is written: plainly, or through the set, clear or toggle alias (R26). -/
inductive Form where
  | plain | set | clear | toggle
  deriving DecidableEq, Repr

def formOf (off : Nat) : Form := if off < 0x4000 then .plain else if off < 0x8000 then .set else if off < 0xC000 then .clear else .toggle

/-- The word a write offers to a register that holds `old` (R27): through an alias, only RW and RWD bits change. -/
def offered (f : Form) (r : RegRow) (old v : Word) : Word :=
  let m := r.maskOf fun a => a == .rw || a == .rwd
  match f with
  | .plain => v
  | .set => (old ||| v) &&& m
  | .clear => (old &&& ~~~v) &&& m
  | .toggle => (old ^^^ v) &&& m

/-- Record a rejected write in CFGERR (R43, R44): its flag, the writer's level and the register's offset. -/
def State.cfgErr (s : State) (base : Nat) (f : Fld) (level off : Nat) : State :=
  s.evt base R.HDR_CFGERR_E [f] [(R.HDR_CFGERR_LEVEL, level), (R.HDR_CFGERR_OFFSET, off % 0x4000 / 8)]

/-- Whether a block's RWD fields accept writes (R42). -/
def State.disabled (s : State) (base : Nat) : Bool := !s.gb base R.HDR_CTRL_EN && s.gb base R.HDR_CTRL_QUIESCED

/-- RWD bits of a word rejected while the block is not disabled: recorded if one of them would have changed (R43). -/
def State.rwdCheck (s : State) (base sa : Nat) (r : RegRow) (w : Word) (level off : Nat) : State :=
  let m := r.maskOf (· == .rwd)
  if m != 0 && !s.disabled base && (s.rd sa ^^^ w) &&& m != 0 then s.cfgErr base R.HDR_CFGERR_RWD_REJ level off else s

/-- The bits of an offered word that a register takes now. -/
def State.taken (s : State) (base : Nat) (r : RegRow) : Word :=
  r.maskOf fun a => a == .rw || (a == .rwd && s.disabled base)

/-- Store a word and set all three copies of its TMR bits that were written (R51). -/
def State.store (s : State) (sa : Nat) (m w : Word) : State :=
  let s := s.wr sa ((s.rd sa &&& ~~~m) ||| (w &&& m))
  { s with tmr := s.tmr.filter fun e => !(e.1 == sa && m.getLsbD e.2.1) }

/-- The plain rule of R37 for a register without a rule of its own: SEQ flags clear, RW and RWD fields take the offered bits. The fields of
OBJ_STAT that describe the stored frame are no capture fields of its flags and stay (log entry 191). -/
def State.writeRow (s : State) (base sa : Nat) (r : RegRow) (f : Form) (v : Word) (level off : Nat) : State :=
  let w := offered f r (s.rd sa) v
  let s := s.rwdCheck base sa r w level off
  let s := if f == .plain && r.isSeq then s.wr sa (seqClearWord (s.rd sa) v r.flags (if r.flags &&& 0xC00000 = 0xC00000 && r.off = 0x404 then 0 else r.caps))
    else s
  s.store sa (s.taken base r) w

/-! ### Snapshots (R45, R46) -/

/-- Counters of 48 or 64 bits, whose upper word follows the lower one. -/
def wideCounter (b : Blk) (a : Nat) : Bool :=
  (b == .hld && a % 0x10000 == 0x8C && a < 0x40000000) || (b == .dma && a % 0x10000 == 0x84 && a < 0x40000000)
    || (b == .lnq && 0x40000000 ≤ a && (a % 0x1000 == 0x10 || a % 0x1000 == 0x18))
    || (b == .str && a % 0x10000 == R.STR_CNT_COUNT.off + 4 * 0x11)

/-- Whether the live count at an address belongs to the block in a slot. -/
def counterOf (d slot : Nat) (b : Blk) (base a : Nat) : Bool :=
  (base ≤ a && a < base + 0x4000) || (b == .lnq && indBase d slot ≤ a && a < indBase d slot + 0x4000)
    || (b == .flt && srcBase d 0 0 ≤ a && a < srcBase (d + 1) 0 0)

/-- Copy every counter of the block to its holding register. -/
def State.holdCounts (s : State) (d slot : Nat) (b : Blk) (base : Nat) : State :=
  each (s.live.filter fun e => counterOf d slot b base e.1) (fun e s =>
    let n := s.cnt e.1
    let h := home s.part e.1
    let s := s.wr e.1 (BitVec.ofNat 32 n &&& ((rowAt h.rows h.off).map RegRow.all).getD 0xFFFFFFFF)
    if wideCounter b e.1 then s.wr (e.1 + 4) (BitVec.ofNat 32 (n / 2 ^ 32)) else s) s

/-- A write of 1 to SNAP. -/
def State.snapshot (s : State) (d slot : Nat) (b : Blk) (base : Nat) : State :=
  let n := s.g base R.HDR_SNAPNO_SNAPNO
  let s := (if b == .lnq then s.prbsSnap d (slot - 0x20) else s).holdCounts d slot b base
  let s := match b with
    | .web => s.webSnap d
    | .trg => s.trgSnap d
    | .cor => s.corSnap d (slot - 0x60)
    | .dms => s.dmsSnap d (slot - 0x68)
    | .ptp => s.ptpSnap d
    | _ => s
  s.p base R.HDR_SNAPNO_SNAPNO (n + 1)

/-! ### TMR injection and scrub (R51, R333) -/

/-- FLT_TMR_INJ at a storage address: refused for no copy, a bit that is not triplicated, or a bit injected before. -/
def State.tmrInject (s : State) (d : Nat) (row : Option RegRow) (sa bit copy : Nat) : State :=
  let ok := match row with
    | some r => r.tmrBit bit && copy != 0 && !(s.tmr.any fun e => e.1 == sa && e.2.1 == bit)
    | none => false
  if ok then ({ s with tmr := s.tmr ++ [(sa, bit, copy)] } : State).bump (fltB d + 0x94)
  else s.evt (fltB d) R.FLT_EVT_E [R.FLT_EVT_INJ_REFUSED]

/-- The base of the block that holds a storage address. -/
def homeBase (h : Home) : Nat :=
  if h.die = 8 then (if h.blk == some .csm || h.blk == some .col then blkAddr 0 h.slot else 0x20000000 + 0x10000 * h.slot) else blkAddr h.die h.slot

/-- TMR_SCRUB of a die: every disagreeing copy is rewritten, MISMATCH is set with the register's offset, and the source raised. Of several
registers of one block that disagree, the scrub comes first to the one that was upset first (log entry 192). -/
def tmrScrubF (d : Nat) (s : State) : State :=
  let here (a : Nat) : Bool := let h := home s.part a; h.die == d || (d == 0 && h.die == 8)
  let l := s.tmr.filter fun e => here e.1
  let s : State := { s with tmr := s.tmr.filter fun e => !here e.1 }
  each l (fun e s =>
    let h := home s.part e.1
    let s := s.evt (homeBase h) R.HDR_TMRERR_E [R.HDR_TMRERR_MISMATCH] [(R.HDR_TMRERR_OFFSET, h.off / 4)]
    match h.blk with
    | some b => s.raise d (b.code * 256 + 0xFF) (tmrInst h.slot b) h.off
    | none => s) s

/-! ### Protection faults (R55) -/

/-- A denial: PRT_VIOL with its captures, the address where it was clear, and the source DENIED. -/
def State.deny (s : State) (port rid level addr : Nat) (wr : Bool) : State :=
  let clear := (s.rd (prtBase + R.PRT_VIOL_E.off)).toNat &&& R.PRT_VIOL_E.mask == 0
  let s := s.evt prtBase R.PRT_VIOL_E [R.PRT_VIOL_VIOL] [(R.PRT_VIOL_DIR, if wr then 1 else 0), (R.PRT_VIOL_LEVEL, level), (R.PRT_VIOL_PORT, port),
    (R.PRT_VIOL_RID, rid)]
  let s := if clear then s.p prtBase R.PRT_VIOL_ADDR_ADDR (addr / 4) else s
  s.raise 0 0x0200 0 addr

end Sys2Proof.Machine
end

