-- ==== Sys2Proof/Machine/Operands.lean ====
section
/-!
DEFINITION. Every form in which an operand reaches a register: the grant of a requester, the target of an address, the protection check,
the selector windows, plain and alias writes, indirect words and their queue, and an access of a PCIe port word by word
(R23 to R30, R47 to R50, R52 to R58, R63, R66, R385).
-/
namespace Sys2Proof.Machine
open Sys2Proof

/-! ### Levels (R52, R53, R57, R58) -/

/-- What a checker gives an access: a level and a consumer range. -/
structure Grant where
  level : Nat
  base  : Nat
  count : Nat
  deriving DecidableEq, Repr

/-- A word of a protection table. -/
def tableWord (p : Part) (t : Tbl Word) (a : Nat) : Word := (tget t a).getD (resetWord p a)

/-- The first valid requester entry that matches, else the port's default with an empty range. -/
def grantIn (p : Part) (t : Tbl Word) (port rid : Nat) : Grant :=
  let w (o : Nat) : Word := tableWord p t (prtBase + o)
  match (List.range 64).find? fun n =>
      bits (w (0x200 + 16 * n)) 31 31 == 1 && bits (w (0x200 + 16 * n)) 18 16 == port
        && (bits (w (0x200 + 16 * n)) 15 0).xor (rid % 65536) &&& bits (w (0x204 + 16 * n)) 15 0 == 0 with
  | some n => let l := w (0x208 + 16 * n); { level := bits l 13 12, base := bits l 11 0, count := bits l 28 16 }
  | none => { level := bits (w (0x80 + 4 * port)) 1 0, base := 0, count := 0 }

/-- The grant under the table in force. -/
def State.grantOf (s : State) (port rid : Nat) : Grant := grantIn s.part s.prt port rid

/-- Whether a consumer id is open to a grant (R54): it lies in the range, or the level is Operator or Root. -/
def Grant.covers (g : Grant) (c : Nat) : Bool := g.level ≤ 1 || (g.base ≤ c && c < g.base + g.count)

/-- Whether the lock-out rule lets a requester commit the staged table (R58). -/
def State.commitOk (s : State) (port rid : Nat) : Bool := (grantIn s.part s.stagedPrt port rid).level == 0

/-- PRT_COMMIT refused by the lock-out rule sets LOCKOUT; a commit that is accepted changes the queue of commits alone. -/
def State.prtCommit (s : State) (port rid : Nat) : State :=
  if s.commitOk port rid then s else s.evt prtBase R.PRT_CSTAT_E [R.PRT_CSTAT_LOCKOUT]

/-- PRT_COMMIT_COMPLETE: the checkers have switched to the oldest committed table. -/
def prtCompleteF (s : State) : State :=
  match s.commits with
  | [] => s
  | c :: t => ({ s with prt := c.table, commits := t } : State).p prtBase R.PRT_GEN_GEN (s.g prtBase R.PRT_GEN_GEN + 1)

/-! ### Targets (R23 to R29, R385) -/

/-- What a word address names: the die (8 in the package-global region), the slot, the block R28 or R29 assigns to it, and the offset;
`body` in the Knot Book body. -/
structure Target where
  die  : Nat
  slot : Nat
  blk  : Option Blk
  off  : Nat
  body : Bool
  deriving DecidableEq, Repr

def targetOf (a : Nat) : Target :=
  if a < 0x20000000 then
    { die := a / 0x4000000, slot := a / 0x10000 % 1024, blk := slotBlk (a / 0x10000 % 1024), off := a % 0x10000, body := false }
  else
    let t := (a - 0x20000000) / 0x10000
    { die := 8, slot := t, blk := globalBlk t, off := a % 0x10000, body := 0x10 ≤ t && t < 0x20 }

/-- The base of a target's block window, and the offset of the plain register that an address or its alias acts on. -/
def Target.base (t : Target) : Nat := if t.die = 8 then 0x20000000 + 0x10000 * t.slot else blkAddr t.die t.slot
def Target.plain (t : Target) : Nat := t.off % 0x4000

/-- Whether the target lies in a present die that is not isolated, or in the package-global region. -/
def State.there (s : State) (t : Target) : Bool := t.die == 8 || s.dieUp t.die

/-- Where a plain register is stored: at an address, in a window that shows nothing (it reads 0), or nowhere. -/
inductive Place where
  | reg (row : RegRow) (sa : Nat)
  | blank
  | none
  deriving DecidableEq, Repr

/-- A register of a bank that a selector shows. -/
def bankPlace (rows : List RegRow) (off sa : Nat) : Place :=
  match rowAt rows off with
  | some r => .reg r sa
  | none => .none

/-- The place of a plain register of a block, through the selector windows (R251, R272 and the COL, ETH and FLT maps). -/
def State.place (s : State) (d slot : Nat) (b : Blk) (base off : Nat) : Place :=
  let plain : Place := match plainRow d slot b off with
    | some r => .reg r (base + off)
    | none => .none
  match b with
  | .csm => if 0x100 ≤ off && off < 0x150 then
      (let c := s.g base R.CSM_SEL_CONS
       if s.cbound c && s.ctxDie c == d then bankPlace R.mapCTX off (ctxBase c + off) else .blank) else plain
  | .dma => if 0x100 ≤ off && off < 0x12C then bankPlace R.mapRING off (ringBase d (s.g base R.DMA_SEL_RING) + off) else plain
  | .eth => if 0x100 ≤ off && off < 0x12C then bankPlace R.mapFLOW off (flowBase d (slot - 0x70) (s.g base R.ETH_SEL_FLOW) + off) else plain
  | .col => if 0x100 ≤ off && off < 0x184 then
      (let v := s.g base R.COL_VSEL_VOL
       if s.volSt v != 0 && (s.vol v).die == d then bankPlace R.mapVOL off (volBase v + off) else .blank)
    else if 0x200 ≤ off && off < 0x22C then bankPlace R.mapTGT off (tgtBase (s.g base R.COL_TSEL_TGT) + off) else plain
  | .flt => if 0x100 ≤ off && off < 0x120 then
      (let src := s.g base R.FLT_SEL_SRC
       let i := s.g base R.FLT_SEL_INST
       if srcValid d src i then bankPlace R.mapFLTS off (srcBase d src i + off) else .none) else plain
  | .mbx => if 0x2000 ≤ off && off < 0x4000 then
      .reg { off := off, stride := 0, count := 1, words := 1, flds := [⟨off, 31, 0, if off % 0x200 < 0x100 then .rw else .ro, 0, false⟩] } (base + off)
    else plain
  | _ => plain

/-! ### The protection check (R54, R56, R63, R251, R272) -/

/-- The least privilege a block type's policy asks. -/
def State.policy (s : State) (b : Option Blk) (wr : Bool) : Nat :=
  let w := tableWord s.part s.prt (prtBase + 0x100 + 4 * ((b.map Blk.code).getD 0))
  if wr then bits w 1 0 else bits w 5 4

/-- The consumer that a context-scoped ring concerns, if one is bound. -/
def State.ringScope (s : State) (g : Grant) (d r : Nat) : Bool :=
  match (s.ring d r).bound with
  | some c => g.covers c
  | none => g.level ≤ 1

/-- Whether an access to a consumer-scoped register is permitted; none for every other register. `v` is the word a write carries. -/
def State.scoped (s : State) (g : Grant) (t : Target) (wr : Bool) (v : Word) : Option Bool :=
  let o := t.plain
  let id (f : Fld) : Nat := if wr then bits v f.hi f.lo else s.g t.base f
  if !s.there t then none
  else match t.blk with
    | some .csm =>
      if o = 0x40 then some (g.covers (id R.CSM_SEL_CONS)) else if o = 0x44 then some (g.covers (id R.CSM_ACK_CONS))
      else if 0x100 ≤ o && o < 0x150 then some (g.covers (s.g t.base R.CSM_SEL_CONS) && (!wr || o != 0x100 || g.level ≤ 1)) else none
    | some .dma =>
      if o = 0x40 then some (s.ringScope g t.die (id R.DMA_SEL_RING))
      else if 0x100 ≤ o && o < 0x12C then some (s.ringScope g t.die (s.g t.base R.DMA_SEL_RING))
      else if 0x1000 ≤ o && o < 0x2000 then some (s.ringScope g t.die ((o - 0x1000) / 4)) else none
    | _ => none

/-- The registers of the FLT block whose writes are Root's alone. -/
def rootOnly (o : Nat) : Bool := o = 0x48 || o = 0x4C || o = 0x100 || o = 0x104 || o = 0x11C

/-- Whether a checked access to a word is permitted. -/
def State.permitted (s : State) (g : Grant) (t : Target) (wr : Bool) (v : Word) : Bool :=
  if t.body || t.blk == some .knb then true
  else match s.scoped g t wr v with
    | some b => b
    | none => g.level ≤ s.policy t.blk wr && (t.blk != some .mbx || g.level ≤ s.g t.base R.MBX_LEVEL_LEVEL)
        && !(wr && t.blk == some .flt && s.there t && rootOnly t.plain && g.level != 0)

/-! ### Indirect words (R47 to R49, R99) -/

/-- Whether the clock of the domain that holds an indirect word runs: a lane's stops while it is OFF, CAL, DEEP or FAILED (R99). -/
def State.indClock (s : State) (d slot : Nat) (b : Blk) (ia : Nat) : Bool :=
  if b == .lnq && ia < 0x4000 then
    let st := s.laneSt d (4 * (slot - 0x20) + ia / 0x1000)
    !(st = laOFF || st = laCAL || st = laDEEP || st = laFAILED)
  else true

/-- Apply a write to a CAN indirect register with a rule of its own (R339 to R355). -/
def State.canIndWrite (s : State) (d base sa ia : Nat) (r : RegRow) (v : Word) (level : Nat) : State :=
  if ia = 4 || ia = 8 then
    (if s.disabled base then canTimingApply d ia v s else s.rwdCheck base sa r v level 0x1C)
  else if ia = 0x10 then opctlApply d v s
  else if ia = 0x14 then tsCfgApply d v s
  else if 0x100 ≤ ia && ia < 0x220 then
    (let b := (ia - 0x100) / 0x60
     let o := (ia - 0x100) % 0x60
     if o = 4 then txbCtlApply d b v s
     else if o = 0 || 0x20 ≤ o then txbWordApply d b sa (v &&& r.maskOf (· == .rw)) s
     else s.writeRow base sa r .plain v level 0x1C)
  else if 0x400 ≤ ia && ia < 0x1C00 && !s.part.queueMode && (ia - 0x400) % 0x60 = 0 then objCfgApply d ((ia - 0x400) / 0x60) v s
  else if ia = 0x804 || ia = 0x814 then (if s.part.queueMode then qGetApply d ((ia - 0x804) / 16) v s else s.writeRow base sa r .plain v level 0x1C)
  else s.writeRow base sa r .plain v level 0x1C

/-- Apply an indirect write to the addressed word; one that finds no register sets UNMAPPED. -/
def State.indWrite (s : State) (d slot : Nat) (b : Blk) (ia : Nat) (v : Word) (level : Nat) : State :=
  let base := blkAddr d slot
  let sa := indBase d slot + ia
  match s.indRow d b ia with
  | none => s.evt base R.HDR_IND_STAT_E [R.HDR_IND_STAT_UNMAPPED]
  | some r =>
    if b == .ptp && ia = 4 then timeIncApply d v s
    else if b == .ptp && ia = 0x18 then timeStepApply d v s
    else if b == .ptp && ia = 0x28 then calGoApply d v s
    else if b == .can then s.canIndWrite d base sa ia r v level
    else s.writeRow base sa r .plain v level 0x1C

/-- Complete an indirect read: the addressed bytes `m` of the word (R24). -/
def State.indRead (s : State) (d slot : Nat) (b : Blk) (ia : Nat) (m : Word) : State :=
  let base := blkAddr d slot
  match s.indRow d b ia with
  | none => (s.evt base R.HDR_IND_STAT_E [R.HDR_IND_STAT_UNMAPPED]).emit (.readDone (base + 0x1C) 0)
  | some _ => s.emit (.readDone (base + 0x1C) (s.indView d slot b ia &&& m))

def IndOp.addr : IndOp → Nat
  | .write ia _ _ _ => ia
  | .read ia _ _ => ia

/-- An indirect access arrives in its clock domain: the write is applied, the read completes. -/
def State.indArrive (s : State) (d slot : Nat) (b : Blk) : IndOp → State
  | .write ia v lev _ => s.indWrite d slot b ia v lev
  | .read ia m _ => s.indRead d slot b ia m

/-- An indirect access to a domain without a clock ends (R49). -/
def State.indExpire (s : State) (base : Nat) (x : IndOp) : State :=
  let s := s.evt base R.HDR_IND_STAT_E [R.HDR_IND_STAT_TIMEOUT]
  match x with
  | .write _ _ _ _ => s
  | .read _ m _ => s.emit (.readDone (base + 0x1C) (0xFFFFFFFF &&& m))

/-- Take the oldest access out of the queue. -/
def State.indPop (s : State) (base : Nat) : State := { s with indq := tput s.indq base [] (s.indQ base).tail }

/-- The block of a base with an indirect space: its die, its slot and its kind. -/
def State.indBlk (s : State) (base : Nat) : Option (Nat × Nat × Blk) :=
  let t := targetOf base
  match t.blk with
  | some b => if t.off = 0 && t.die < 8 && b.hasInd && s.dieUp t.die then some (t.die, t.slot, b) else none
  | none => none

/-- IND_WRITE_APPLY: the oldest access of a queue reaches its domain, if its clock runs. -/
def indApplyF (base : Nat) (s : State) : State :=
  match s.indBlk base, s.indQ base with
  | some (d, t, b), x :: _ => if s.indClock d t b x.addr then (s.indPop base).indArrive d t b x else s
  | _, _ => s

/-- IND_ACCESS_TIMEOUT: the oldest access of a queue ends, if its clock does not run. -/
def indTimeoutF (base : Nat) (s : State) : State :=
  match s.indBlk base, s.indQ base with
  | some (d, t, b), x :: _ => if s.indClock d t b x.addr then s else (s.indPop base).indExpire base x
  | _, _ => s

/-- Apply the accesses of a queue in order while their clocks run. -/
def State.indDrain (s : State) (base : Nat) : State := upTo 17 (fun _ s => indApplyF base s) s

/-- ADDR advances after an access to IND_DATA (R47). -/
def State.indNext (s : State) (base : Nat) : State :=
  if s.gb base R.HDR_IND_ADDR_AINC then s.p base R.HDR_IND_ADDR_ADDR (s.g base R.HDR_IND_ADDR_ADDR + 1) else s

/-- The indirect address that a block's IND_ADDR holds. -/
def State.indAddr (s : State) (base : Nat) : Nat := 4 * s.g base R.HDR_IND_ADDR_ADDR

/-- A full queue frees an entry before the next access enters it: its oldest access arrives or times out. -/
def State.indRoom (s : State) (base : Nat) : State := if (s.indQ base).length < 16 then s else indTimeoutF base (indApplyF base s)

/-- A write of IND_DATA is posted (R48). -/
def State.indPost (s : State) (base : Nat) (v : Word) (level port : Nat) : State :=
  let ia := s.indAddr base
  let s := s.indRoom base
  ({ s with indq := tset s.indq base (s.indQ base ++ [.write ia v level port]) } : State).indNext base

/-- A read of the bytes `m` of IND_DATA takes its place behind the earlier writes; it completes at once where every clock it needs runs (R48). -/
def State.indFetch (s : State) (base : Nat) (m : Word) (port : Nat) : State :=
  let ia := s.indAddr base
  let s := s.indRoom base
  (({ s with indq := tset s.indq base (s.indQ base ++ [.read ia m port]) } : State).indDrain base).indNext base

/-! ### Writing a plain register (R27, R37, R42 to R45) -/

/-- A write of xxx_CTRL: EN is set with QUIESCED cleared, or cleared unless BOUND refuses it (R42, R44). -/
def State.writeEn (s : State) (t : Target) (b : Blk) (f : Form) (v : Word) (level : Nat) : State :=
  let en := s.gb t.base R.HDR_CTRL_EN
  let one := v.getLsbD 0
  let clears := match f with
    | .plain => !one
    | .set => false
    | .clear => one
    | .toggle => one && en
  let sets := match f with
    | .plain => one
    | .set => one
    | .clear => false
    | .toggle => one && !en
  if !b.hasRwd then s
  else if clears then
    (if s.boundOf t.die t.slot b then s.cfgErr t.base R.HDR_CFGERR_BOUND_REJ level 4 else s.p t.base R.HDR_CTRL_EN 0)
  else if sets && !en then
    (if b == .can then s.canEnable t.die else s.ps t.base [(R.HDR_CTRL_EN, 1), (R.HDR_CTRL_QUIESCED, 0)])
  else s

/-- BLOCK_QUIESCE: a block whose EN was cleared has drained (R42). -/
def blockQuiesceF (base : Nat) (s : State) : State :=
  let t := targetOf base
  match t.blk with
  | some b =>
    if t.off != 0 || t.die = 8 || !s.there t || !b.hasRwd || s.gb base R.HDR_CTRL_EN || !(s.indQ base).isEmpty then s
    else if b == .can then s.canQuiet t.die
    else s.p base R.HDR_CTRL_QUIESCED 1
  | none => s

/-- A write of a mailbox register: doorbell, release, or a word of a command area (R66, R68, R70). `w` is the offered word. -/
def State.writeMbx (s : State) (g : Grant) (port : Nat) (t : Target) (r : RegRow) (f : Form) (v w : Word) : State :=
  let o := t.plain
  if o = 0x40 then (if f == .plain then doorbellSlots (t.slot - 4) g.level g.base g.count port (v &&& 0xFFFF) s else s)
  else if o = 0x44 then (if f == .plain then releaseSlots (t.slot - 4) (v &&& 0xFFFF) s else s)
  else if 0x2000 ≤ o then
    (let k := (o - 0x2000) / 0x200
     if 0x100 ≤ o % 0x200 then s
     else if (s.slot (t.slot - 4) k).st == .free then s.wr (t.base + o) w
     else s.evt t.base R.MBX_ERR_E [R.MBX_ERR_WRITE_LOCKED] [(R.MBX_ERR_SLOT, k)])
  else s.writeRow t.base (t.base + o) r f v g.level o

/-- A write of the PRT block: COMMIT, the policies with their fixed fields (R56), and the staged table. -/
def State.writePrt (s : State) (g : Grant) (port rid : Nat) (t : Target) (r : RegRow) (f : Form) (v : Word) : State :=
  let o := t.plain
  if o = 0x40 then (if f == .plain && v.getLsbD 0 then s.prtCommit port rid else s)
  else if o = 0x104 then s
  else if o = 0x100 || o = 0x108 then
    (let w := offered f r (s.rd (t.base + o)) v
     s.p t.base { R.PRT_POLICY_RD_MIN with off := o } (bits w 5 4))
  else s.writeRow t.base (t.base + o) r f v g.level o

/-- Whether a quad may be given a mode (R84, R85): quad 16 has none of its own; the other quads of the group run the same mode or are OFF; and PCIe
stands on group 3 alone. -/
def State.modeFits (s : State) (d q m : Nat) : Bool :=
  q < 16 && (m = 0 || (List.range 4).all fun i => let o := 4 * (q / 4) + i; o == q || s.quadMode d o == 0 || s.quadMode d o == m) && (m != 3 || q / 4 == 3)

/-- A write of LNQ_MODE while the quad is disabled (R84, R95). A MODE that the quad may not run is ignored (log entry 202). -/
def State.writeMode (s : State) (d q : Nat) (w : Word) : State :=
  let s := s.ps (lnqB d q) [(R.LNQ_MODE_TXPOL, bits w 15 12), (R.LNQ_MODE_RXPOL, bits w 11 8)]
  if s.quadMode d q = bits w 1 0 || !s.modeFits d q (bits w 1 0) then s else s.setQuadMode d q (bits w 1 0)

/-- A write of the FLT window (R320, R332, R333) or of FLT_TMR_INJ_CTRL. -/
def State.writeFlt (s : State) (t : Target) (sa : Nat) (r : RegRow) (f : Form) (v w : Word) (level : Nat) : State :=
  let o := t.plain
  let src := s.g t.base R.FLT_SEL_SRC
  let i := s.g t.base R.FLT_SEL_INST
  if o = 0x100 || o = 0x104 then fltSevApply t.die src i o w s
  else if o = 0x108 then (if f == .plain then statApply t.die src i v s else s)
  else if o = 0x11C then fltSrcInjApply t.die src i w s
  else
    let s := s.writeRow t.base sa r f v level o
    if o = 0x4C && f == .plain && v.getLsbD 0 then
      let slot := s.g t.base R.FLT_TMR_INJ_ADDR_SLOT
      let off := 4 * s.g t.base R.FLT_TMR_INJ_ADDR_OFFSET
      let p := match slotBlk slot with
        | some b => s.place t.die slot b (blkAddr t.die slot) off
        | none => .none
      match p with
      | .reg r sa => s.tmrInject t.die (some r) sa (bits v 12 8) (bits v 5 4)
      | _ => s.tmrInject t.die none 0 0 0
    else s

/-- A write of a TRG register (R140, R147): START is the generator's grid origin, ARM takes the staged pitch. -/
def State.writeTrg (s : State) (t : Target) (sa : Nat) (r : RegRow) (f : Form) (v : Word) (level : Nat) : State :=
  let o := t.plain
  if 0x100 ≤ o && o < 0x300 then
    let i := 8 * t.die + (o - 0x100) / 0x40
    let q := (o - 0x100) % 0x40
    if q = 0x24 then (if f == .plain then trgArmApply i v s else s)
    else if q = 0 then (s.writeRow t.base sa r f v level o).syncReps
    else
      let s' := s.writeRow t.base sa r f v level o
      if (q = 0x18 || q = 0x1C) && s.disabled t.base then
        s'.setGen i { s'.gen i with
          start := wrapCoord (s'.g (genB i) R.TRG_GEN_START_HI_START * 2 ^ 32 + s'.g (genB i) R.TRG_GEN_START_LO_START : Nat) }
      else s'
  else
    let s' := s.writeRow t.base sa r f v level o
    if 0x400 ≤ o && o < 0x500 && o % 0x10 = 0 && s'.rd sa != s.rd sa then s'.boundOut t.die ((o - 0x400) / 0x10) else s'

/-- A write of an LNQ register (R84, R90, R92, R94). -/
def State.writeLnq (s : State) (t : Target) (sa : Nat) (r : RegRow) (f : Form) (v w : Word) (level : Nat) : State :=
  let o := t.plain
  let q := t.slot - 0x20
  if o = 0x40 then (if s.disabled t.base then s.writeMode t.die q w else s.rwdCheck t.base sa r w level o)
  else if o = 0x48 then lnqLpApply t.base t.die q w s
  else if o = 0x50 then lnqPrbsApply t.base t.die q w s
  else if 0x60 ≤ o && o < 0x70 then (if f == .plain then holdmaxApply sa v s else s)
  else s.writeRow t.base sa r f v level o

/-- A write of the registers of the blocks that have one rule each. -/
def State.writeOne (s : State) (t : Target) (b : Blk) (sa : Nat) (r : RegRow) (f : Form) (v w : Word) (level : Nat) : State :=
  let o := t.plain
  let row := s.writeRow t.base sa r f v level o
  match b with
  | .str => if o = 0x64 then strDeadlineApply (24 * t.die + (t.slot - 0x40)) w s else row
  | .web => if 0x100 ≤ o && (o - 0x100) % 0x40 = 0x10 then webLoadApply (4 * t.die + (o - 0x100) / 0x40) w s else row
  | .sta => if o = 0x44 then (if f == .plain then qmaxApply t.die v s else s) else row
  | .spl => if 0x100 ≤ o && o < 0x300 && (o - 0x100) % 0x40 = 0xC then splDeadlineApply (8 * t.die + (o - 0x100) / 0x40) w s else row
  | .csm => if o = 0x44 then csmAckApply t.die w s else row
  | .dma => if o = 0x128 then (if f == .plain then ringCtlApply t.die (s.g t.base R.DMA_SEL_RING) v s else s)
    else if 0x1000 ≤ o then doorbellApply t.die ((o - 0x1000) / 4) w s else row
  | .mfp => if 0x100 ≤ o then mfpCfgApply t.die ((o - 0x100) / 4) w s else row
  | _ => row

/-- A permitted write of a whole word to an assigned register (R37). -/
def State.writeReg (s : State) (g : Grant) (port rid : Nat) (t : Target) (b : Blk) (sa : Nat) (r : RegRow) (v : Word) : State :=
  let f := formOf t.off
  let w := offered f r (s.rd sa) v
  if t.plain = 4 then s.writeEn t b f v g.level
  else if t.plain = 0xC then (if f == .plain && v.getLsbD 0 then s.snapshot t.die t.slot b t.base else s)
  else if t.plain = 0x1C then s.indPost t.base v g.level port
  else match b with
    | .mbx => s.writeMbx g port t r f v w
    | .prt => s.writePrt g port rid t r f v
    | .lnq => s.writeLnq t sa r f v w g.level
    | .trg => s.writeTrg t sa r f v g.level
    | .flt => s.writeFlt t sa r f v w g.level
    | _ => s.writeOne t b sa r f v w g.level

/-! ### One word of an access (R24, R25, R54, R55, R385) -/

/-- Whether an address is an alias of IND_DATA, which reaches no register (R27). -/
def Target.indAlias (t : Target) (b : Blk) : Bool := b.hasInd && t.plain == 0x1C && 0x4000 ≤ t.off

/-- The word whose consumer id a write of a consumer-scoped register carries: through an alias, the word R27 produces (log entry 91). -/
def State.carried (s : State) (t : Target) (v : Word) : Word :=
  match t.blk with
  | some b =>
    match s.place t.die t.slot b t.base t.plain with
    | .reg r sa => offered (formOf t.off) r (s.rd sa) v
    | _ => v
  | none => v

/-- A write of one word; `whole` unless a byte of it is not enabled, which discards it (R24). -/
def State.writeWord (s : State) (port rid a : Nat) (v : Word) (whole : Bool) : State :=
  let g := s.grantOf port rid
  let t := targetOf a
  if !s.permitted g t true (s.carried t v) then s.deny port rid g.level a true
  else if t.body || t.blk == some .knb || !s.there t then s.unmapped port a
  else match t.blk with
    | none => s.unmapped port a
    | some b =>
      if t.indAlias b then s.unmapped port a
      else match s.place t.die t.slot b t.base t.plain with
        | .none => s.unmapped port a
        | .blank => s
        | .reg r sa => if whole then s.writeReg g port rid t b sa r v else s

/-- A word of the Knot Book body: zeros from LEN on while GEN is even; while it is odd, also before the first rewrite, an open value (R31). -/
def State.bodyWord (s : State) (o : Nat) : Word × State :=
  if s.g knbBase R.KNB_GEN_GEN % 2 = 1 then (Config.freeWord s.free, { s with free := s.free + 1 }) else (BitVec.ofNat 32 (leAt s.knb o 4), s)

/-- A read of one word, of which the bytes of `m` are addressed. -/
def State.readWord (s : State) (port rid a : Nat) (m : Word) : State :=
  let g := s.grantOf port rid
  let t := targetOf a
  let done (s : State) (v : Word) : State := s.emit (.readDone a (v &&& m))
  if !s.permitted g t false 0 then done (s.deny port rid g.level a false) 0
  else if t.body then done (s.bodyWord (a - 0x20100000)).2 (s.bodyWord (a - 0x20100000)).1
  else if !s.there t then done (s.unmapped port a) 0xFFFFFFFF
  else match t.blk with
    | none => done (s.unmapped port a) 0xFFFFFFFF
    | some b =>
      if t.indAlias b then done (s.unmapped port a) 0
      else match s.place t.die t.slot b t.base t.plain with
        | .reg _ sa => if b.hasInd && t.plain = 0x1C then s.indFetch t.base m port else done s (s.view t.die t.slot b t.plain sa)
        | .blank => done s 0
        | .none => done (if b == .flt && 0x100 ≤ t.plain && t.plain < 0x120 then s.unmapped port a else s) 0

/-! ### A whole access (R23, R24, R66) -/

/-- Whether an access enables the byte at an address. -/
def accEnables (x : Access) (b : Nat) : Bool := x.addr ≤ b && b < x.addr + x.len && !x.holes.contains (b - x.addr)

/-- The word of an access at a word address: its bytes as they are enabled, and the mask of those bytes. -/
def accWord (x : Access) (a : Nat) : Word × Word :=
  let en (i : Nat) : Bool := accEnables x (a + i)
  let byte (i : Nat) : Nat := if en i then (((x.data[a + i - x.addr]?).getD 0).toNat) * 2 ^ (8 * i) else 0
  let mask (i : Nat) : Nat := if en i then 0xFF * 2 ^ (8 * i) else 0
  (BitVec.ofNat 32 (byte 0 + byte 1 + byte 2 + byte 3), BitVec.ofNat 32 (mask 0 + mask 1 + mask 2 + mask 3))

/-- The word addresses an access touches, rising: those of which it enables a byte. -/
def accWords (x : Access) : List Nat :=
  if x.len = 0 then []
  else ((List.range ((x.addr + x.len + 3) / 4 - x.addr / 4)).map fun i => 4 * (x.addr / 4 + i)).filter fun a => (List.range 4).any fun i => accEnables x (a + i)

/-- Whether a written word is a COMMIT that the lock-out rule accepts: a permitted whole word at PRT_COMMIT with its bit set (R57, R58). -/
def State.commits? (s : State) (port rid a : Nat) (v : Word) (whole : Bool) : Bool :=
  a == prtBase + 0x40 && whole && v.getLsbD 0 && s.permitted (s.grantOf port rid) (targetOf a) true v && s.commitOk port rid

/-- One word of an access. The protection table in force is not changed by an access; an accepted COMMIT puts a copy of the staged table
behind the commits on their way. -/
def State.accessWord (s : State) (x : Access) (a : Nat) : State :=
  let v := (accWord x a).1
  let m := (accWord x a).2
  let t := (if x.wr then s.writeWord x.port x.rid a v (m = 0xFFFFFFFF) else s.readWord x.port x.rid a m).keeps s
  if x.wr && s.commits? x.port x.rid a v (m = 0xFFFFFFFF) then { t with commits := s.commits ++ [{ table := s.stagedPrt }] } else t

/-- One 32-bit access to each word touched, in rising order; the port counts the request, and the completion that a read sends. -/
def State.accessWords (s : State) (x : Access) : State :=
  each (accWords x) (fun a s => s.accessWord x a) (s.tlps x.port (if x.wr then 0 else 1) 1)

/-- An access of a PCIe port that satisfies `ok` (the registers that a row of the table names); another access is not that row's and
changes nothing. The port of an absent die is no port, and that of an isolated die carries nothing (log entry 92). -/
def State.access (s : State) (x : Access) (ok : Bool := true) : Res :=
  if 0x40000000 < x.addr + x.len then .fault .outsideBar0
  else if s.nd ≤ x.port then .fault .noSuchUnit
  else if !s.dieUp x.port || !ok then .next s
  else .next (((s.accessWords x).settle).keeps (s.accessWords x))

/-- An aligned access to one register as an access of a port. -/
def accWrite (x : WAcc) : Access := { port := x.port, rid := x.rid, addr := x.addr, len := 4, wr := true, data := leBytes 4 x.val.toNat }
def accRead (x : WAcc) : Access := { port := x.port, rid := x.rid, addr := x.addr, len := 4, wr := false, data := [] }

/-- Whether an access addresses a register of a kind of block, at a plain offset that satisfies p, or an alias of one. -/
def accAt (x : WAcc) (b : Blk) (p : Nat → Bool) : Bool :=
  let t := targetOf x.addr
  x.addr % 4 == 0 && t.blk == some b && p t.plain

/-- A write that selects a register of a block's own rule (R37). -/
def State.regWrite (s : State) (x : WAcc) (b : Blk) (p : Nat → Bool) : Res := s.access (accWrite x) (accAt x b p)

/-- A write of IND_DATA while IND_ADDR selects an indirect register, and its arrival in its domain behind the writes queued earlier. -/
def State.indRegWrite (s : State) (x : WAcc) (b : Blk) (p : Nat → Bool) : Res :=
  let t := targetOf x.addr
  if accAt x b (· == 0x1C) && t.off = 0x1C && t.die < 8 && p (s.indAddr t.base) then
    match s.access (accWrite x) with
    | .next s => .next (((s.indDrain t.base).settle).keeps s)
    | r => r
  else s.access (accWrite x) false

end Sys2Proof.Machine
end

