-- ==== Sys2Proof/Machine/CommandOps.lean ====
section
/-!
DEFINITION. How a command of the table is carried out: a mailbox command of a slot that firmware has started (R67, R71 to R75), an event of a
die's unit, an event of the package. Every one ends with the fault reactions that it called for (R316).
-/
namespace Sys2Proof.Machine
open Sys2Proof

/-- Every other cluster in service confirms a change before its commit point (R62): none of them is restarting. -/
def State.confirmed (s : State) : Bool := s.served.all fun d => d == s.leader || (s.cluster d).st == .running

/-- The status a mailbox command ends with: its result, its refusal, or RUNNING until an event of the part answers it. A command that its
own effect aborts (a change of leader, R74) keeps the response of the abort. A command that changes state stays RUNNING, with no effect,
while a cluster in service cannot confirm it (R62). -/
def State.respond (s : State) (w k opc : Nat) : Rsp → State
  | .ok t res =>
    if ((cmdRow opc).map (·.query)).getD true then (if (t.slot w k).st == .running then t.finish w k stOK 0 res else t)
    else if !s.confirmed then s
    else
      let t := t.journalise w k stOK 0 res
      if (t.slot w k).st == .running then t.finish w k stOK 0 res else t
  | .err st det res => s.finish w k st det res
  | .errAt t st det => t.finish w k st det []
  | .wait t res =>
    if !s.confirmed then s
    else
    let t := t.journalise w k stOK 0 (res.getD []) res.isNone
    if (t.slot w k).st == .running then (t.setSlot w k { t.slot w k with held := true }).laneWaits else t

/-- Whether a slot holds a started command of an opcode that has not committed. -/
def State.runs (s : State) (w k opc : Nat) : Bool :=
  (s.slot w k).st == .running && !(s.slot w k).held && s.opcode w k == opc

/-- Carry out the mailbox command of a slot; a slot that holds no such started command is left as it is (log entry 93). -/
def cmdRun (opc : Nat) (body : Nat → Nat → State → Rsp) (w k : Nat) (s : State) : Res :=
  s.having (w < 4 && k < 16) fun s => if s.runs w k opc then (s.respond w k opc (body w k s)).settle else s

/-- An event of a unit of a die: the die is part of the package and has the unit; on an isolated die nothing happens. -/
def State.onDie (s : State) (d : Nat) (has : Bool) (f : State → State) : Res :=
  s.having (d < s.nd && has) fun s => if s.dieUp d then (f s).settle else s

/-- A reset, or the completion of a commit: the events that change the protection table in force. -/
def State.onReset (s : State) (f : State → State) : Res := s.reaching true f

/-- An event of the package. -/
def State.onPart (s : State) (has : Bool) (f : State → State) : Res := s.having has fun s => (f s).settle

end Sys2Proof.Machine
end

