-- ==== Sys2Proof/Machine/Can.lean ====
section
/-!
DEFINITION. The meanings of the commands of the CAN controllers: one definition per row of the table.
-/
namespace Sys2Proof.Machine
open Sys2Proof

/-- A write of TXB_CTL with a bit set, through the indirect queue. -/
def State.txbCtlWrite (s : State) (a : WAcc) (bit : Nat) : Res :=
  s.indRegWrite a .can fun i => a.val.getLsbD bit && 0x100 ≤ i && i < 0x220 && (i - 0x100) % 0x60 == 4

/-- A write of CAN_OPCTL with a bit set, through the indirect queue. -/
def State.opctlWrite (s : State) (a : WAcc) (bit : Nat) : Res := s.indRegWrite a .can fun i => a.val.getLsbD bit && i == 0x10

/-- CAN_FRAME_RX (R349). -/
def execCanFrameRx (ch : Nat) (f : CanFrame) (s : State) : Res := s.onDie ch true (canFrameRxF ch f)

/-- CAN_DETECT_DWELL_EXPIRY (R341). -/
def execCanDetectDwellExpiry (ch : Nat) (s : State) : Res := s.onDie ch true (canDwellExpiryF ch)

/-- CAN_ARBITRATION_START (R343). -/
def execCanArbitrationStart (ch : Nat) (s : State) : Res := s.onDie ch true (canArbitrationStartF ch)

/-- CAN_TX_ATTEMPT_END (R344). -/
def execCanTxAttemptEnd (ch : Nat) (r : CanTxEnd) (s : State) : Res := s.onDie ch true (canTxAttemptEndF ch r)

/-- CAN_RECOVERY_DONE (R348). -/
def execCanRecoveryDone (ch : Nat) (s : State) : Res := s.onDie ch true (canRecoveryDoneF ch)

/-- CAN_SLEEP_ENTRY (R354). -/
def execCanSleepEntry (ch : Nat) (wake : Bool) (s : State) : Res := s.onDie ch true (canSleepEntryF ch wake)

/-- CAN_WAKE_EVENT (R355). -/
def execCanWakeEvent (ch : Nat) (k : CanWake) (s : State) : Res := s.onDie ch true (canWakeEventF ch k)

/-- CAN_INTEGRATION_DONE (R355). -/
def execCanIntegrationDone (ch : Nat) (s : State) : Res := s.onDie ch true (canIntegrationDoneF ch)

/-- TXB_REQUEST (R343). -/
def execTxbRequest (a : WAcc) (s : State) : Res := s.txbCtlWrite a 31

/-- TXB_ABORT (R345). -/
def execTxbAbort (a : WAcc) (s : State) : Res := s.txbCtlWrite a 30

/-- CAN_OPCTL_SLEEP (R354). -/
def execCanOpctlSleep (a : WAcc) (s : State) : Res := s.opctlWrite a 0

/-- CAN_OPCTL_WAKE (R355). -/
def execCanOpctlWake (a : WAcc) (s : State) : Res := s.opctlWrite a 1

/-- CAN_OPCTL_RECOVER (R348). -/
def execCanOpctlRecover (a : WAcc) (s : State) : Res := s.opctlWrite a 2

/-- CAN_OPCTL_DETECT (R341). -/
def execCanOpctlDetect (a : WAcc) (s : State) : Res := s.opctlWrite a 3

/-- Q_GET_WRITE (R352). -/
def execQGetWrite (a : WAcc) (s : State) : Res := s.indRegWrite a .can (fun i => s.part.queueMode && (i == 0x804 || i == 0x814))

/-- OBJ_CFG_WRITE (R350). -/
def execObjCfgWrite (a : WAcc) (s : State) : Res :=
  s.indRegWrite a .can (fun i => !s.part.queueMode && 0x400 ≤ i && i < 0x1C00 && (i - 0x400) % 0x60 == 0)

/-- CAN_TIMING_WRITE (R339). -/
def execCanTimingWrite (a : WAcc) (s : State) : Res := s.indRegWrite a .can (fun i => i == 4 || i == 8)

/-- CAN_SET_PORT (R358). -/
def execCanSetPort (w slot : Nat) (s : State) : Res := cmdRun 0xC00 canSetPortB w slot s

/-- CAN_SET_FILTER (R358). -/
def execCanSetFilter (w slot : Nat) (s : State) : Res := cmdRun 0xC01 canSetFilterB w slot s

/-- CAN_SEND (R343). -/
def execCanSend (w slot : Nat) (s : State) : Res := cmdRun 0xC02 canSendB w slot s

/-- CAN_RECV (R358). -/
def execCanRecv (w slot : Nat) (s : State) : Res := cmdRun 0xC03 canRecvB w slot s

/-- CAN_QUERY (R358). -/
def execCanQuery (w slot : Nat) (s : State) : Res := cmdRun 0xC04 canQueryB w slot s

/-- CAN_DETECT (R341). -/
def execCanDetect (w slot : Nat) (s : State) : Res := cmdRun 0xC05 canDetectB w slot s

/-- CAN_SET_WAKE (R355). -/
def execCanSetWake (w slot : Nat) (s : State) : Res := cmdRun 0xC06 canSetWakeB w slot s

/-- CAN_SLEEP (R354). -/
def execCanSleep (w slot : Nat) (s : State) : Res := cmdRun 0xC07 canSleepB w slot s

/-- CAN_RECOVER (R348). -/
def execCanRecover (w slot : Nat) (s : State) : Res := cmdRun 0xC08 canRecoverB w slot s

/-- CAN_RX_ERROR (R346). -/
def execCanRxError (ch : Nat) (e : CanRxErr) (s : State) : Res := s.onDie ch true (canRxErrorF ch e)

end Sys2Proof.Machine
end

