-- ==== Sys2Proof/Machine/Coil.lean ====
section
/-!
DEFINITION. The meanings of the commands of the Coil archive: one definition per row of the table.
-/
namespace Sys2Proof.Machine
open Sys2Proof

/-- STRIPE_SEAL_TIMEOUT (R301). -/
def execStripeSealTimeout (vol : Nat) (s : State) : Res := s.onPart (vol < 16) (stripeSealTimeoutF vol)

/-- COIL_RESPONSE_RX (R305). -/
def execCoilResponseRx (vol : Nat) (r : CoilRx) (s : State) : Res := s.onPart (vol < 16) (coilResponseRxF vol r)

/-- SHARD_TIMEOUT (R306). -/
def execShardTimeout (vol stripe shard : Nat) (s : State) : Res := s.onPart (vol < 16) (shardTimeoutF vol stripe shard)

/-- DURABLE_TIMEOUT (R306). -/
def execDurableTimeout (vol stripe shard : Nat) (s : State) : Res := s.onPart (vol < 16) (durableTimeoutF vol stripe shard)

/-- TARGET_PROBE (R306). -/
def execTargetProbe (vol tgt : Nat) (s : State) : Res := s.onPart (vol < 16) (targetProbeF vol tgt)

/-- REBUILD_STRIPE (R309). -/
def execRebuildStripe (vol : Nat) (s : State) : Res := s.onPart (vol < 16) (rebuildStripeF vol)

/-- REPLACE_COPY_STRIPE (R311). -/
def execReplaceCopyStripe (vol : Nat) (s : State) : Res := s.onPart (vol < 16) (replaceCopyStripeF vol)

/-- COIL_TARGET_SET (R313). -/
def execCoilTargetSet (w slot : Nat) (s : State) : Res := cmdRun 0xA00 coilTargetSetB w slot s

/-- COIL_TARGET_FREE (R313). -/
def execCoilTargetFree (w slot : Nat) (s : State) : Res := cmdRun 0xA01 coilTargetFreeB w slot s

/-- COIL_VOL_SETUP (R298). -/
def execCoilVolSetup (w slot : Nat) (probes : List ProbeAns) (s : State) : Res := cmdRun 0xA02 (coilVolSetupB probes) w slot s

/-- COIL_VOL_FREE (R313). -/
def execCoilVolFree (w slot : Nat) (s : State) : Res := cmdRun 0xA03 coilVolFreeB w slot s

/-- COIL_ADD_SPARE (R310). -/
def execCoilAddSpare (w slot : Nat) (probe : Option Nat) (s : State) : Res := cmdRun 0xA04 (coilAddSpareB probe) w slot s

/-- COIL_REPLACE (R311). -/
def execCoilReplace (w slot : Nat) (s : State) : Res := cmdRun 0xA05 coilReplaceB w slot s

/-- COIL_QUERY (R313). -/
def execCoilQuery (w slot : Nat) (s : State) : Res := cmdRun 0xA06 coilQueryB w slot s

/-- COIL_TARGET_QUERY (R313). -/
def execCoilTargetQuery (w slot : Nat) (s : State) : Res := cmdRun 0xA07 coilTargetQueryB w slot s

/-- COIL_READ_DATA_RX (R307). -/
def execCoilReadDataRx (vol : Nat) (r : CoilRx) (s : State) : Res := s.onPart (vol < 16) (coilReadDataRxF vol r)

end Sys2Proof.Machine
end

