-- ==== Sys2Proof/Machine/Consumers.lean ====
section
/-!
DEFINITION. The meanings of the commands of consumers and the holding store: one definition per row of the table.
-/
namespace Sys2Proof.Machine
open Sys2Proof

/-- SCHEDULER_GRANT (R246). -/
def execSchedulerGrant (path : PathKind) (die unit : Nat) (s : State) : Res :=
  s.onDie die (unit < match path with | .pcie => 4 | .eth => 8 | .coil => 1) (schedulerGrantF path die unit)

/-- RECORD_EXPIRE (R243). -/
def execRecordExpire (cons seq : Nat) (s : State) : Res := s.onPart (cons < 4096) (recordExpireF cons seq)

/-- CSM_ACK_WRITE (R242). -/
def execCsmAckWrite (a : WAcc) (s : State) : Res := s.regWrite a .csm (· == 0x44)

/-- CONTEXT_FREE (R245). -/
def execContextFree (cons : Nat) (s : State) : Res := s.onPart (cons < 4096) (contextFreeAllF cons)

/-- BINDING_EFFECT (R252). -/
def execBindingEffect (cons : Nat) (s : State) : Res := s.onPart (cons < 4096) (bindingEffectF cons)

/-- CSM_BIND (R252). -/
def execCsmBind (w slot : Nat) (s : State) : Res := cmdRun 0x700 csmBindB w slot s

/-- CSM_UNBIND (R245). -/
def execCsmUnbind (w slot : Nat) (s : State) : Res := cmdRun 0x701 csmUnbindB w slot s

/-- CSM_SET_PRIORITY (R247). -/
def execCsmSetPriority (w slot : Nat) (s : State) : Res := cmdRun 0x702 csmSetPriorityB w slot s

/-- CSM_SET_HOLD (R252). -/
def execCsmSetHold (w slot : Nat) (s : State) : Res := cmdRun 0x703 csmSetHoldB w slot s

/-- CSM_QUERY (R252). -/
def execCsmQuery (w slot : Nat) (s : State) : Res := cmdRun 0x704 csmQueryB w slot s

/-- HLD_QUERY (R252). -/
def execHldQuery (w slot : Nat) (s : State) : Res := cmdRun 0x705 hldQueryB w slot s

end Sys2Proof.Machine
end

