-- ==== Sys2Proof/Machine/Correction.lean ====
section
/-!
DEFINITION. The meanings of the commands of raw correction and colour reconstruction: one definition per row of the table.
-/
namespace Sys2Proof.Machine
open Sys2Proof

/-- SLICE_LINE_READ (R155). -/
def execSliceLineRead (die slice : Nat) (bad : List (Nat × Nat)) (s : State) : Res := s.onDie die (slice < 4) (sliceLineReadF die slice bad)

/-- LINE_RELEASE (R168). -/
def execLineRelease (ch : Nat) (check : LineCheck) (s : State) : Res := s.onDie (ch / 24) true (lineReleaseF ch check)

/-- TAKEOVER_DONE (R172). -/
def execTakeoverDone (die slice : Nat) (tenNs : Nat) (ringBad : List (Nat × Nat)) (s : State) : Res :=
  s.onDie die (slice < 4) (takeoverDoneF die slice tenNs ringBad)

/-- STAGED_SET_APPLY (R166). -/
def execStagedSetApply (ch : Nat) (s : State) : Res := s.onDie (ch / 24) true (stagedSetApplyF ch)

/-- COR_SET_CHANNEL (R166). -/
def execCorSetChannel (w slot : Nat) (s : State) : Res := cmdRun 0x400 corSetChannelB w slot s

/-- COR_LOAD_TABLE (R166). -/
def execCorLoadTable (w slot : Nat) (data : List (BitVec 8)) (s : State) : Res := cmdRun 0x401 (corLoadTableB data) w slot s

/-- COR_APPLY (R166). -/
def execCorApply (w slot : Nat) (s : State) : Res := cmdRun 0x402 corApplyB w slot s

/-- COR_DISCARD (R176). -/
def execCorDiscard (w slot : Nat) (s : State) : Res := cmdRun 0x403 corDiscardB w slot s

/-- COR_QUERY (R176). -/
def execCorQuery (w slot : Nat) (s : State) : Res := cmdRun 0x404 corQueryB w slot s

/-- COR_SLICE_SWAP (R176). -/
def execCorSliceSwap (w slot : Nat) (s : State) : Res := cmdRun 0x405 corSliceSwapB w slot s

/-- DMS_SET_CHANNEL (R193). -/
def execDmsSetChannel (w slot : Nat) (s : State) : Res := cmdRun 0x410 dmsSetChannelB w slot s

/-- DMS_SET_TAPS (R193). -/
def execDmsSetTaps (w slot : Nat) (s : State) : Res := cmdRun 0x411 dmsSetTapsB w slot s

/-- DMS_QUERY (R195). -/
def execDmsQuery (w slot : Nat) (s : State) : Res := cmdRun 0x412 dmsQueryB w slot s

end Sys2Proof.Machine
end

