-- ==== Sys2Proof/Machine/Dma.lean ====
section
/-!
DEFINITION. The meanings of the commands of host attachment and DMA: one definition per row of the table.
-/
namespace Sys2Proof.Machine
open Sys2Proof

/-- DMA_DOORBELL (R260). -/
def execDmaDoorbell (a : WAcc) (s : State) : Res := s.regWrite a .dma (fun o => 0x1000 ≤ o && o < 0x2000)

/-- DESCRIPTOR_FETCH (R261). -/
def execDescriptorFetch (die ring : Nat) (ds : List Desc) (s : State) : Res := s.onDie die (ring < 1024) (descriptorFetchF die ring ds)

/-- OWN_CLEAR_REFETCH (R261). -/
def execOwnClearRefetch (die ring : Nat) (ds : List Desc) (s : State) : Res := s.onDie die (ring < 1024) (ownClearRefetchF die ring ds)

/-- FLUSH_READ_ISSUE (R264). -/
def execFlushReadIssue (die ring : Nat) (s : State) : Res := s.onDie die (ring < 1024) (flushReadIssueF die ring)

/-- FLUSH_READ_COMPLETE (R264). -/
def execFlushReadComplete (die ring : Nat) (s : State) : Res := s.onDie die (ring < 1024) (flushReadCompleteF die ring)

/-- BUS_ERROR (R267). -/
def execBusError (die ring : Nat) (e : BusErr) (s : State) : Res := s.onDie die (ring < 1024) (busErrorF die ring e)

/-- RING_INTERRUPT (R266). -/
def execRingInterrupt (die ring : Nat) (s : State) : Res := s.onDie die (ring < 1024) (ringInterruptF die ring)

/-- DMA_RING_CTL_RESTART (R269). -/
def execDmaRingCtlRestart (a : WAcc) (s : State) : Res := s.access (accWrite a) (accAt a .dma (· == 0x128) && a.val.getLsbD 0)

/-- DMA_RING_CTL_HALT (R269). -/
def execDmaRingCtlHalt (a : WAcc) (s : State) : Res := s.access (accWrite a) (accAt a .dma (· == 0x128) && a.val.getLsbD 1)

/-- TRACKER_ENTRY_GRANT (R270). -/
def execTrackerEntryGrant (die : Nat) (s : State) : Res := s.onDie die true (trackerEntryGrantF die)

/-- PCIE_LINK_DOWN (R255). -/
def execPcieLinkDown (die : Nat) (s : State) : Res := s.onDie die true (pcieLinkDownF die)

/-- BUS_MASTER_DISABLE (R255). -/
def execBusMasterDisable (die : Nat) (s : State) : Res := s.onDie die true (busMasterDisableF die)

/-- FUNCTION_LEVEL_RESET (R255). -/
def execFunctionLevelReset (die : Nat) (s : State) : Res := s.onDie die true (functionLevelResetF die)

/-- PCIE_LINK_DEGRADED (R256). -/
def execPcieLinkDegraded (die speed width : Nat) (s : State) : Res := s.onDie die true (pcieLinkDegradedF die speed width)

/-- DMA_RING_SETUP (R273). -/
def execDmaRingSetup (w slot : Nat) (s : State) : Res := cmdRun 0x800 dmaRingSetupB w slot s

/-- DMA_RING_FREE (R273). -/
def execDmaRingFree (w slot : Nat) (s : State) : Res := cmdRun 0x801 dmaRingFreeB w slot s

/-- DMA_RING_RESTART (R269). -/
def execDmaRingRestart (w slot : Nat) (s : State) : Res := cmdRun 0x802 dmaRingRestartB w slot s

/-- DMA_RING_QUERY (R273). -/
def execDmaRingQuery (w slot : Nat) (s : State) : Res := cmdRun 0x803 dmaRingQueryB w slot s

/-- PCI_QUERY (R273). -/
def execPciQuery (w slot : Nat) (s : State) : Res := cmdRun 0x804 pciQueryB w slot s

/-- PCI_SET_PORT (R273). -/
def execPciSetPort (w slot : Nat) (s : State) : Res := cmdRun 0x805 pciSetPortB w slot s

/-- PCIE_LINK_UP (R376). -/
def execPcieLinkUp (die speed width : Nat) (flit : Bool) (s : State) : Res := s.onDie die true (portLinkUpF die speed width flit)

/-- PCI_CONFIG_WRITE (R253). -/
def execPciConfigWrite (die : Nat) (c : PciCfgWrite) (s : State) : Res := s.onDie die true (pciConfigWriteF die c)

end Sys2Proof.Machine
end

