-- ==== Sys2Proof/Machine/Ethernet.lean ====
section
/-!
DEFINITION. The meanings of the commands of Ethernet delivery and time: one definition per row of the table.
-/
namespace Sys2Proof.Machine
open Sys2Proof

/-- ETH_STATUS_RX (R280). -/
def execEthStatusRx (die mac flow : Nat) (m : UdpRx) (s : State) : Res := s.onDie die (mac < 8 && flow < 256) (ethStatusRxF die mac flow m)

/-- ETH_RECEIPT_TIMEOUT (R281). -/
def execEthReceiptTimeout (die mac flow : Nat) (s : State) : Res := s.onDie die (mac < 8 && flow < 256) (ethReceiptTimeoutF die mac flow)

/-- STALLED_RESEND (R281). -/
def execStalledResend (die mac flow : Nat) (s : State) : Res := s.onDie die (mac < 8 && flow < 256) (stalledResendF die mac flow)

/-- ETH_LINK_DOWN (R276). -/
def execEthLinkDown (die mac : Nat) (s : State) : Res := s.onDie die (mac < 8) (ethLinkDownAllF die mac)

/-- ETH_LINK_UP (R276). -/
def execEthLinkUp (die mac : Nat) (s : State) : Res := s.onDie die (mac < 8) (fun s => if s.unitOut die 0x10 mac then s else ethLinkUpF die mac s)

/-- ARP_REQUEST_RX (R274). -/
def execArpRequestRx (die mac : Nat) (v6 : Bool) (target : Nat) (s : State) : Res := s.onDie die (mac < 8) (arpRequestRxF die mac v6 target)

/-- LAUNCH_DUE (R291). -/
def execLaunchDue (die mac queue : Nat) (s : State) : Res := s.onDie die (mac < 8 && queue < 4) (launchDueF die mac queue)

/-- PTP_MESSAGE_RX (R287). -/
def execPtpMessageRx (m : PtpRx) (s : State) : Res := s.onPart true (fun s => if s.unitOut 0 0x11 0 then s else ptpMessageRxF m s)

/-- PTP_MESSAGE_TX (R289). -/
def execPtpMessageTx (m : PtpTx) (s : State) : Res := s.onPart true (fun s => if s.unitOut 0 0x11 0 then s else ptpMessageTxF m s)

/-- SECONDS_ROLLOVER (R284). -/
def execSecondsRollover (s : State) : Res := s.onPart true secondsRolloverF

/-- CALENDAR_SET_APPLY (R294). -/
def execCalendarSetApply (s : State) : Res := s.onPart true calendarSetApplyF

/-- TIME_CHANGE_APPLY (R285). -/
def execTimeChangeApply (s : State) : Res := s.onPart true timeChangeApplyF

/-- TIME_INC_WRITE (R284). -/
def execTimeIncWrite (a : WAcc) (s : State) : Res := s.indRegWrite a .ptp (· == 4)

/-- TIME_STEP_GO (R286). -/
def execTimeStepGo (a : WAcc) (s : State) : Res := s.indRegWrite a .ptp (· == 0x18)

/-- CAL_GO (R294). -/
def execCalGo (a : WAcc) (s : State) : Res := s.indRegWrite a .ptp (· == 0x28)

/-- PPS_IN_EDGE (R290). -/
def execPpsInEdge (die : Nat) (s : State) : Res := s.onDie die true (ppsInEdgeF die)

/-- ETH_SET_PORT (R275). -/
def execEthSetPort (w slot : Nat) (s : State) : Res := cmdRun 0x900 ethSetPortB w slot s

/-- ETH_SET_FLOW (R297). -/
def execEthSetFlow (w slot : Nat) (s : State) : Res := cmdRun 0x901 ethSetFlowB w slot s

/-- ETH_FLOW_FREE (R297). -/
def execEthFlowFree (w slot : Nat) (s : State) : Res := cmdRun 0x902 ethFlowFreeB w slot s

/-- ETH_QUERY (R297). -/
def execEthQuery (w slot : Nat) (s : State) : Res := cmdRun 0x903 ethQueryB w slot s

/-- ETH_SEND (R291). -/
def execEthSend (w slot : Nat) (frame : List (BitVec 8)) (s : State) : Res := cmdRun 0x904 (ethSendB frame) w slot s

/-- PTP_SET (R287). -/
def execPtpSet (w slot : Nat) (s : State) : Res := cmdRun 0x910 ptpSetB w slot s

/-- PTP_QUERY (R297). -/
def execPtpQuery (w slot : Nat) (s : State) : Res := cmdRun 0x911 ptpQueryB w slot s

/-- TIME_STEP (R286). -/
def execTimeStep (w slot : Nat) (s : State) : Res := cmdRun 0x912 timeStepB w slot s

/-- TIME_SET_INC (R284). -/
def execTimeSetInc (w slot : Nat) (s : State) : Res := cmdRun 0x913 timeSetIncB w slot s

/-- CAL_SET (R294). -/
def execCalSet (w slot : Nat) (s : State) : Res := cmdRun 0x914 calSetB w slot s

/-- PTP_SET_UTC (R295). -/
def execPtpSetUtc (w slot : Nat) (s : State) : Res := cmdRun 0x915 ptpSetUtcB w slot s

/-- ETH_FRAME_RX_DISCARD (R274). -/
def execEthFrameRxDiscard (die mac : Nat) (s : State) : Res := s.onDie die (mac < 8) (ethDiscardF die mac)

/-- PTP_ANNOUNCE_TIMEOUT (R287). -/
def execPtpAnnounceTimeout (s : State) : Res := s.onPart true (fun s => if s.unitOut 0 0x11 0 then s else ptpAnnounceTimeoutF s)

end Sys2Proof.Machine
end

