-- ==== Sys2Proof/Machine/Faults.lean ====
section
/-!
DEFINITION. The meanings of the commands of faults and sparing: one definition per row of the table.
-/
namespace Sys2Proof.Machine
open Sys2Proof

/-- FAULT_EVENT (R316). -/
def execFaultEvent (die src inst info : Nat) (s : State) : Res := s.onDie die (srcValid die src inst) (faultEventF die src inst info)

/-- HBM_SWEEP_DONE (R325). -/
def execHbmSweepDone (die : Nat) (s : State) : Res := s.onDie die true (hbmSweepDoneF die)

/-- SRAM_SCRUB (R327). -/
def execSramScrub (die mno row bit : Nat) (uncorr : Bool) (s : State) : Res := s.onDie die (mno < 512) (sramScrubF die mno row bit uncorr)

/-- FAULT_ESCALATION (R319). -/
def execFaultEscalation (die src inst : Nat) (s : State) : Res := s.onDie die (srcValid die src inst) (faultEscalationF die src inst)

/-- FAULT_IRQ_HOLDOFF_END (R321). -/
def execFaultIrqHoldoffEnd (s : State) : Res := s.onPart true faultIrqHoldoffEndF

/-- FLT_SEV_WRITE (R320). -/
def execFltSevWrite (a : WAcc) (s : State) : Res := s.regWrite a .flt (fun o => o == 0x100 || o == 0x104)

/-- FLT_SRC_INJ_GO (R332). -/
def execFltSrcInjGo (a : WAcc) (s : State) : Res := s.regWrite a .flt (· == 0x11C)

/-- FLT_TMR_INJ_GO (R333). -/
def execFltTmrInjGo (a : WAcc) (s : State) : Res := s.regWrite a .flt (· == 0x4C)

/-- HEARTBEAT_MISS (R315). -/
def execHeartbeatMiss (die : Nat) (s : State) : Res := s.onDie die true (heartbeatMissF die)

/-- TEMP_THRESHOLD (R315). -/
def execTempThreshold (die : Nat) (stack : Bool) (temp : Int) (s : State) : Res := s.onDie die true (tempThresholdF die stack temp)

/-- REFERENCE_LOSS (R334). -/
def execReferenceLoss (s : State) : Res := s.onPart true referenceLossF

/-- FLT_QUERY (R336). -/
def execFltQuery (w slot : Nat) (s : State) : Res := cmdRun 0xB00 fltQueryB w slot s

/-- FLT_SET_SEVERITY (R336). -/
def execFltSetSeverity (w slot : Nat) (s : State) : Res := cmdRun 0xB01 fltSetSeverityB w slot s

/-- FLT_ACK (R336). -/
def execFltAck (w slot : Nat) (s : State) : Res := cmdRun 0xB02 fltAckB w slot s

/-- FLT_LIST (R336). -/
def execFltList (w slot : Nat) (s : State) : Res := cmdRun 0xB03 fltListB w slot s

/-- FLT_INJECT (R332). -/
def execFltInject (w slot : Nat) (s : State) : Res := cmdRun 0xB04 fltInjectB w slot s

/-- FLT_UNIT_RESET (R330). -/
def execFltUnitReset (w slot : Nat) (pass : Bool) (s : State) : Res := cmdRun 0xB05 (fltUnitResetB pass) w slot s

/-- FLT_DIE_RESET (R331). -/
def execFltDieReset (w slot : Nat) (s : State) : Res := cmdRun 0xB06 fltDieResetB w slot s

end Sys2Proof.Machine
end

