-- ==== Sys2Proof/Machine/Lanes.lean ====
section
/-!
DEFINITION. The meanings of the commands of the lanes: one definition per row of the table.
-/
namespace Sys2Proof.Machine
open Sys2Proof

/-- LANE_CAL_DONE (R86). -/
def execLaneCalDone (die lane : Nat) (inRange : Bool) (s : State) : Res := s.onDie die (lane < 68) (laneCalDoneF die lane inRange)

/-- LANE_ALIGNED (R88). -/
def execLaneAligned (die : Nat) (x : LaneRx) (s : State) : Res := s.onDie die (x.lane < 68) (laneAlignedF die x.lane x.words)

/-- ALIGN_LOSS (R88). -/
def execAlignLoss (die : Nat) (x : LaneRx) (s : State) : Res := s.onDie die (x.lane < 68) (alignLossF die x.lane x.words)

/-- BACKGROUND_CAL_STEP (R89). -/
def execBackgroundCalStep (die lane : Nat) (step : CalStep) (s : State) : Res := s.onDie die (lane < 68) (backgroundCalF die lane step)

/-- TRANSMIT_REQUEST (R90). -/
def execTransmitRequest (die lane unit : Nat) (s : State) : Res := s.onDie die (lane < 68) (transmitRequestF die lane unit)

/-- HEAD_WAKE (R93). -/
def execHeadWake (die lane : Nat) (s : State) : Res := s.onDie die (lane < 68) (headWakeF die lane)

/-- LANE_EXIT_DONE (R91). -/
def execLaneExitDone (die lane : Nat) (s : State) : Res := s.onDie die (lane < 68) (laneExitDoneF die lane)

/-- LNQ_LP_WRITE (R92). -/
def execLnqLpWrite (a : WAcc) (s : State) : Res := s.regWrite a .lnq (· == 0x48)

/-- LNQ_PRBS_INJECT (R94). -/
def execLnqPrbsInject (a : WAcc) (s : State) : Res := s.regWrite a .lnq (· == 0x50)

/-- HOLDMAX_CLEAR (R90). -/
def execHoldmaxClear (a : WAcc) (s : State) : Res := s.regWrite a .lnq (fun o => 0x60 ≤ o && o < 0x70)

/-- CDR_LOSS (R96). -/
def execCdrLoss (die lane : Nat) (s : State) : Res := s.onDie die (lane < 68) (cdrLossF die lane)

/-- SELF_CHECK_DONE (R96). -/
def execSelfCheckDone (die lane : Nat) (pass : Bool) (s : State) : Res := s.onDie die (lane < 68) (selfCheckDoneF die lane pass)

/-- SYNTH_UNLOCK (R315). -/
def execSynthUnlock (die lane : Nat) (s : State) : Res := s.onDie die (lane < 68) (synthUnlockF die lane)

/-- SPARE_TX_ALIGNED (R98). -/
def execSpareTxAligned (die group : Nat) (s : State) : Res := s.onDie die (group < 4) (spareTxAlignedF die group)

/-- SWAP_RX_ACTIVE (R98). -/
def execSwapRxActive (die group : Nat) (s : State) : Res := s.onDie die (group < 4) (swapRxActiveF die group)

/-- LANE_QUERY (R100). -/
def execLaneQuery (w slot : Nat) (s : State) : Res := cmdRun 0x100 laneQueryB w slot s

/-- LANE_SET_MODE (R100). -/
def execLaneSetMode (w slot : Nat) (s : State) : Res := cmdRun 0x101 laneSetModeB w slot s

/-- LANE_SET_POWER (R100). -/
def execLaneSetPower (w slot : Nat) (s : State) : Res := cmdRun 0x102 laneSetPowerB w slot s

/-- LANE_PRBS (R100). -/
def execLanePrbs (w slot bits errs relocks : Nat) (s : State) : Res := cmdRun 0x103 (lanePrbsB bits errs relocks) w slot s

/-- LANE_SWAP (R100). -/
def execLaneSwap (w slot : Nat) (s : State) : Res := cmdRun 0x104 laneSwapB w slot s

/-- LANE_RESTORE (R98). -/
def execLaneRestore (w slot : Nat) (loopOk : Bool) (s : State) : Res := cmdRun 0x105 (laneRestoreB loopOk) w slot s

/-- LANE_SET_EQ (R100). -/
def execLaneSetEq (w slot : Nat) (s : State) : Res := cmdRun 0x106 laneSetEqB w slot s

/-- LANE_RECAL (R100). -/
def execLaneRecal (w slot : Nat) (inRange : Bool) (s : State) : Res := cmdRun 0x107 (laneRecalB inRange) w slot s

/-- PRBS_CHECKER_RELOCK (R94). -/
def execPrbsCheckerRelock (die lane : Nat) (loss : Bool) (s : State) : Res := s.onDie die (lane < 68) (prbsRelockF die lane loss)

end Sys2Proof.Machine
end

