-- ==== Sys2Proof/Machine/Lanyard.lean ====
section
/-!
DEFINITION. The meanings of the commands of Lanyard mailboxes, firmware and the Knot Book: one definition per row of the table.
-/
namespace Sys2Proof.Machine
open Sys2Proof

/-- Whether a word address is a command word of a mailbox slot (R64). -/
def isCommandWord (a : Nat) : Bool :=
  let t := targetOf a
  t.blk == some .mbx && 0x2000 ≤ t.plain && t.plain % 0x200 < 0x100

/-- MBX_DOORBELL (R68). -/
def execMbxDoorbell (a : WAcc) (s : State) : Res := s.regWrite a .mbx (· == 0x40)

/-- MBX_RELEASE (R70). -/
def execMbxRelease (a : WAcc) (s : State) : Res := s.regWrite a .mbx (· == 0x44)

/-- COMMAND_AREA_WRITE (R66). -/
def execCommandAreaWrite (a : Access) (s : State) : Res := s.access a (a.wr && (accWords a).all isCommandWord)

/-- COMMAND_START (R71). -/
def execCommandStart (w slot : Nat) (s : State) : Res := s.onPart (w < 4 && slot < 16) (commandStartF w slot)

/-- DEV_NOP (R77). -/
def execDevNop (w slot : Nat) (s : State) : Res := cmdRun 0x000 devNopB w slot s

/-- DEV_INFO (R77). -/
def execDevInfo (w slot : Nat) (s : State) : Res := cmdRun 0x001 devInfoB w slot s

/-- DEV_SET_WINDOW_LEVEL (R77). -/
def execDevSetWindowLevel (w slot : Nat) (s : State) : Res := cmdRun 0x003 devSetWindowLevelB w slot s

/-- DEV_WARM_RESET (R77). -/
def execDevWarmReset (w slot : Nat) (s : State) : Res := cmdRun 0x004 devWarmResetB w slot s

/-- FW_QUERY (R77). -/
def execFwQuery (w slot : Nat) (s : State) : Res := cmdRun 0x010 fwQueryB w slot s

/-- FW_STAGE (R80). -/
def execFwStage (w slot : Nat) (image : List (BitVec 8)) (s : State) : Res := cmdRun 0x011 (fwStageB image) w slot s

/-- FW_VERIFY (R79). -/
def execFwVerify (w slot : Nat) (s : State) : Res := cmdRun 0x012 fwVerifyB w slot s

/-- FW_ACTIVATE (R81). -/
def execFwActivate (w slot : Nat) (s : State) : Res := cmdRun 0x013 fwActivateB w slot s

/-- FW_SET_BOOT (R373). -/
def execFwSetBoot (w slot : Nat) (s : State) : Res := cmdRun 0x014 fwSetBootB w slot s

/-- FW_REVOKE_KEY (R82). -/
def execFwRevokeKey (w slot : Nat) (s : State) : Res := cmdRun 0x015 fwRevokeKeyB w slot s

/-- CLUSTER_RESTART (R59). -/
def execClusterRestart (die : Nat) (s : State) : Res := s.onDie die true (clusterRestartF die)

/-- CLUSTER_DECLARED_FAILED (R61). -/
def execClusterDeclaredFailed (die : Nat) (s : State) : Res := s.onDie die true (clusterDeclaredFailedF die)

/-- LEADER_TAKEOVER (R62). -/
def execLeaderTakeover (s : State) : Res := s.onPart true leaderTakeoverF

/-- KNOT_BOOK_REWRITE (R31). -/
def execKnotBookRewrite (s : State) : Res := s.onPart true knotBookRewriteF

end Sys2Proof.Machine
end

