-- ==== Sys2Proof/Machine/Register.lean ====
section
/-!
DEFINITION. The meanings of the commands of register access: one definition per row of the table.
-/
namespace Sys2Proof.Machine
open Sys2Proof

/-- Whether an access names a SEQ register. -/
def State.isSeqReg (s : State) (a : WAcc) : Bool :=
  let t := targetOf a.addr
  a.addr % 4 == 0 && match t.blk with
    | some b => match s.place t.die t.slot b t.base t.plain with
      | .reg r _ => r.isSeq
      | _ => false
    | none => false

/-- Whether an access names the IND_DATA register of a block with an indirect space. -/
def isIndData (a : WAcc) : Bool :=
  let t := targetOf a.addr
  a.addr % 4 == 0 && t.off == 0x1C && ((t.blk.map Blk.hasInd).getD false)

/-- Work in hand of the block at a window base: its die is part of the package. -/
def State.onBlock (s : State) (base : Nat) (f : State → State) : Res :=
  s.having (base / 0x4000000 < s.nd || 0x20000000 ≤ base) fun s => if (targetOf base).die < s.nd && s.dieUp (targetOf base).die then (f s).settle else s

/-- REGISTER_WRITE (R37). -/
def execRegisterWrite (a : Access) (s : State) : Res := s.access a

/-- ALIAS_WRITE (R27). -/
def execAliasWrite (a : WAcc) (s : State) : Res :=
  s.access (accWrite a) (0x4000 ≤ (targetOf a.addr).off && (targetOf a.addr).blk.isSome && !(targetOf a.addr).body && a.addr % 4 == 0)

/-- SEQ_CLEAR (R40). -/
def execSeqClear (a : WAcc) (s : State) : Res := s.access (accWrite a) (s.isSeqReg a)

/-- BLOCK_ENABLE_WRITE (R44). -/
def execBlockEnableWrite (a : WAcc) (s : State) : Res :=
  s.access (accWrite a) (a.addr % 4 == 0 && (targetOf a.addr).blk.isSome && (targetOf a.addr).blk != some .knb && (targetOf a.addr).plain == 4)

/-- BLOCK_QUIESCE (R42). -/
def execBlockQuiesce (base : Nat) (s : State) : Res := s.onBlock base (blockQuiesceF base)

/-- COUNTER_SNAPSHOT (R45). -/
def execCounterSnapshot (a : WAcc) (s : State) : Res :=
  s.access (accWrite a) (a.addr % 4 == 0 && (targetOf a.addr).blk.isSome && (targetOf a.addr).blk != some .knb && (targetOf a.addr).off == 0xC)

/-- IND_DATA_READ (R48). -/
def execIndDataRead (a : WAcc) (s : State) : Res := s.access (accRead a) (isIndData a)

/-- IND_DATA_WRITE (R47). -/
def execIndDataWrite (a : WAcc) (s : State) : Res := s.access (accWrite a) (isIndData a)

/-- IND_WRITE_APPLY (R48). -/
def execIndWriteApply (base : Nat) (s : State) : Res := s.onBlock base (indApplyF base)

/-- IND_ACCESS_TIMEOUT (R49). -/
def execIndAccessTimeout (base : Nat) (s : State) : Res := s.onBlock base (indTimeoutF base)

/-- TMR_SCRUB (R51). -/
def execTmrScrub (die : Nat) (s : State) : Res := s.onDie die true (tmrScrubF die)

/-- PRT_COMMIT (R57). -/
def execPrtCommit (a : WAcc) (s : State) : Res := s.regWrite a .prt (· == 0x40)

/-- PRT_COMMIT_COMPLETE (R57). -/
def execPrtCommitComplete (s : State) : Res := s.onReset prtCompleteF

end Sys2Proof.Machine
end

