-- ==== Sys2Proof/Machine/Splice.lean ====
section
/-!
DEFINITION. The meanings of the commands of the splice engine: one definition per row of the table.
-/
namespace Sys2Proof.Machine
open Sys2Proof

/-- HANDOFF_PACKET_RX (R218). -/
def execHandoffPacketRx (die : Nat) (p : HandoffRx) (s : State) : Res := s.onDie die true (handoffRxF die p.src p.group p.bytes)

/-- SPL_LINE_DEADLINE (R219). -/
def execSplLineDeadline (grp : Nat) (s : State) : Res := s.onDie (grp / 8) true (splLineDeadlineF grp)

/-- SPL_CLOSE_TIMEOUT (R219). -/
def execSplCloseTimeout (grp : Nat) (s : State) : Res := s.onDie (grp / 8) true (splCloseTimeoutF grp)

/-- COMPOSE_WAIT_EXPIRY (R224). -/
def execComposeWaitExpiry (grp : Nat) (s : State) : Res := s.onDie (grp / 8) true (composeWaitExpiryF grp)

/-- SPL_GROUP_APPLY (R227). -/
def execSplGroupApply (grp : Nat) (s : State) : Res := s.onDie (grp / 8) true (splGroupApplyF grp)

/-- SPL_DEADLINE_WRITE (R219). -/
def execSplDeadlineWrite (a : WAcc) (s : State) : Res := s.regWrite a .spl (fun o => 0x100 ≤ o && o < 0x300 && (o - 0x100) % 0x40 == 0xC)

/-- SPL_SET_GROUP (R227). -/
def execSplSetGroup (w slot : Nat) (s : State) : Res := cmdRun 0x600 splSetGroupB w slot s

/-- SPL_SET_MEMBER (R227). -/
def execSplSetMember (w slot : Nat) (s : State) : Res := cmdRun 0x601 splSetMemberB w slot s

/-- SPL_APPLY (R226). -/
def execSplApply (w slot : Nat) (s : State) : Res := cmdRun 0x602 splApplyB w slot s

/-- SPL_DISCARD (R229). -/
def execSplDiscard (w slot : Nat) (s : State) : Res := cmdRun 0x603 splDiscardB w slot s

/-- SPL_REMOVE (R227). -/
def execSplRemove (w slot : Nat) (s : State) : Res := cmdRun 0x604 splRemoveB w slot s

/-- SPL_QUERY (R229). -/
def execSplQuery (w slot : Nat) (s : State) : Res := cmdRun 0x605 splQueryB w slot s

/-- COMPOSE_STOP_WAIT_EXPIRY (R224). -/
def execComposeStopWaitExpiry (grp : Nat) (s : State) : Res := s.onDie (grp / 8) true (composeStopWaitF grp)

end Sys2Proof.Machine
end

