-- ==== Sys2Proof/Machine/Startup.lean ====
section
/-!
DEFINITION. The meanings of the commands of pins, start-up and test: one definition per row of the table.
-/
namespace Sys2Proof.Machine
open Sys2Proof

/-- SUPPLY_EXCURSION (R363). -/
def execSupplyExcursion (die : Nat) (r : RailLevel) (s : State) : Res :=
  if r.rail < 2 && die < s.nd && !railOk r.rail r.level then s.onReset coldResetF
  else s.onDie die (r.rail < 10) (supplyExcursionF die r.rail r.level)

/-- MFP_CFG_WRITE (R366). -/
def execMfpCfgWrite (a : WAcc) (s : State) : Res := s.regWrite a .mfp (fun o => 0x100 ≤ o && o < 0x1C0)

/-- MFP_FUNCTION_SWITCH (R367). -/
def execMfpFunctionSwitch (die pin : Nat) (level : Bool) (s : State) : Res := s.onDie die (pin < 48) (mfpSwitchF die pin level)

/-- MFP_SET (R367). -/
def execMfpSet (w slot : Nat) (s : State) : Res := cmdRun 0xD00 mfpSetB w slot s

/-- MFP_QUERY (R384). -/
def execMfpQuery (w slot : Nat) (s : State) : Res := cmdRun 0xD01 mfpQueryB w slot s

/-- BOOT_SET_PLAN (R373). -/
def execBootSetPlan (w slot : Nat) (s : State) : Res := cmdRun 0xD10 bootSetPlanB w slot s

/-- BOOT_QUERY (R384). -/
def execBootQuery (w slot : Nat) (s : State) : Res := cmdRun 0xD11 bootQueryB w slot s

/-- COLD_RESET (R370). -/
def execColdReset (s : State) : Res := s.onReset coldResetF

/-- WARM_RESET (R370). -/
def execWarmReset (cause : WarmCause) (s : State) : Res := s.onReset (warmResetF cause)

/-- PORT_RESET (R370). -/
def execPortReset (die : Nat) (low : Bool) (s : State) : Res := s.onPart (die < s.nd) (portResetF die low)

/-- RESET_RELEASE (R374). -/
def execResetRelease (flashModes flashRate : Nat) (failed : List Nat) (s : State) : Res := s.onPart true (resetReleaseF flashModes flashRate failed)

/-- BOOT_READY (R377). -/
def execBootReady (s : State) : Res := s.onPart true bootReadyF

/-- LANES_READY_TIMEOUT (R376). -/
def execLanesReadyTimeout (die : Nat) (s : State) : Res := s.onDie die true (lanesReadyF die)

/-- TEST_LOGIC_RESET (R379). -/
def execTestLogicReset (s : State) : Res := s.onPart true testLogicResetF

/-- JTAG_BYPASS (R379). -/
def execJtagBypass (tap : Tap) (ir : Nat) (s : State) : Res := s.onPart (s.hasTap tap) (tapBypassF tap ir)

/-- JTAG_IDCODE (R378). -/
def execJtagIdcode (tap : Tap) (s : State) : Res := s.onPart (s.hasTap tap) (tapLoadF tap .idcode)

/-- JTAG_SAMPLE_PRELOAD (R379). -/
def execJtagSamplePreload (tap : Tap) (s : State) : Res := s.onPart (s.hasTap tap) (tapLoadF tap .sample)

/-- JTAG_EXTEST (R379). -/
def execJtagExtest (tap : Tap) (s : State) : Res := s.onPart (s.hasTap tap) (tapLoadF tap .extest)

/-- JTAG_CLAMP (R379). -/
def execJtagClamp (tap : Tap) (s : State) : Res := s.onPart (s.hasTap tap) (tapLoadF tap .clamp)

/-- JTAG_HIGHZ (R379). -/
def execJtagHighz (tap : Tap) (s : State) : Res := s.onPart (s.hasTap tap) (tapLoadF tap .highz)

/-- JTAG_EXTEST_PULSE (R379). -/
def execJtagExtestPulse (tap : Tap) (s : State) : Res := s.onPart (s.hasTap tap) (tapLoadF tap .extestPulse)

/-- JTAG_EXTEST_TRAIN (R379). -/
def execJtagExtestTrain (tap : Tap) (s : State) : Res := s.onPart (s.hasTap tap) (tapLoadF tap .extestTrain)

end Sys2Proof.Machine
end

