-- ==== Sys2Proof/Machine/Statistics.lean ====
section
/-!
DEFINITION. The meanings of the commands of the statistics: one definition per row of the table.
-/
namespace Sys2Proof.Machine
open Sys2Proof

/-- STA_RECORD_DRAIN (R201). -/
def execStaRecordDrain (die : Nat) (bad : List (Nat × Nat)) (s : State) : Res := s.onDie die true (staRecordDrainF die bad)

/-- STA_CONFIG_APPLY (R209). -/
def execStaConfigApply (ch : Nat) (s : State) : Res := s.onDie (ch / 24) true (staConfigApplyF ch)

/-- QMAX_CLEAR (R204). -/
def execQmaxClear (a : WAcc) (s : State) : Res := s.regWrite a .sta (· == 0x44)

/-- STA_SET_CHANNEL (R209). -/
def execStaSetChannel (w slot : Nat) (s : State) : Res := cmdRun 0x500 staSetChannelB w slot s

/-- STA_QUERY (R211). -/
def execStaQuery (w slot : Nat) (s : State) : Res := cmdRun 0x501 staQueryB w slot s

/-- STA_QUERY_DIE (R211). -/
def execStaQueryDie (w slot : Nat) (s : State) : Res := cmdRun 0x502 staQueryDieB w slot s

end Sys2Proof.Machine
end

