-- ==== Sys2Proof/Machine/Strand.lean ====
section
/-!
DEFINITION. The meanings of the commands of Strand links: one definition per row of the table.
-/
namespace Sys2Proof.Machine
open Sys2Proof

/-- CODEWORD_RX (R106). -/
def execCodewordRx (die lane : Nat) (r : RxWord) (s : State) : Res := s.onDie die (lane < 68) (codewordRxF die lane r)

/-- NAK_REPEAT (R106). -/
def execNakRepeat (die lane : Nat) (s : State) : Res := s.onDie die (lane < 68) (nakRepeatF die lane)

/-- ACK_SEND (R106). -/
def execAckSend (die lane : Nat) (s : State) : Res := s.onDie die (lane < 68) (ackSendF die lane)

/-- LINK_FLIT_RX (R109). -/
def execLinkFlitRx (die lane : Nat) (body : List (BitVec 8)) (s : State) : Res := s.onDie die (lane < 68) (linkFlitRxF die lane body)

/-- TUNNEL_RSP_RX (R115). -/
def execTunnelRspRx (ch tag status len : Nat) (data : List (BitVec 8)) (s : State) : Res :=
  s.onDie (ch / 24) true (tunnelRspRxF ch tag status len data)

/-- TUNNEL_TIMEOUT (R115). -/
def execTunnelTimeout (ch tag : Nat) (s : State) : Res := s.onDie (ch / 24) true (tunnelTimeoutF ch tag)

/-- EVENT_FLIT_RX (R116). -/
def execEventFlitRx (ch code value : Nat) (s : State) : Res := s.onDie (ch / 24) true (eventFlitRxF ch code value)

/-- CSI2_PACKET_RX (R122). -/
def execCsi2PacketRx (ch : Nat) (bytes : List (BitVec 8)) (s : State) : Res := s.onDie (ch / 24) true (csi2RxF ch bytes)

/-- LINE_DEADLINE (R123). -/
def execLineDeadline (ch : Nat) (s : State) : Res := s.onDie (ch / 24) true (lineDeadlineF ch)

/-- LINK_DOWN (R124). -/
def execLinkDown (ch : Nat) (s : State) : Res := s.onDie (ch / 24) true (linkDownF ch)

/-- STREAM_REMOVAL (R128). -/
def execStreamRemoval (ch : Nat) (s : State) : Res := s.onDie (ch / 24) true (streamRemovalF ch)

/-- STR_DEADLINE_WRITE (R123). -/
def execStrDeadlineWrite (a : WAcc) (s : State) : Res := s.regWrite a .str (· == 0x64)

/-- STR_SET_OPEN (R129). -/
def execStrSetOpen (w slot : Nat) (s : State) : Res := cmdRun 0x200 strSetOpenB w slot s

/-- STR_SET_ADD (R129). -/
def execStrSetAdd (w slot : Nat) (s : State) : Res := cmdRun 0x201 strSetAddB w slot s

/-- STR_SET_COMMIT (R127). -/
def execStrSetCommit (w slot : Nat) (s : State) : Res := cmdRun 0x202 strSetCommitB w slot s

/-- STR_SET_DISCARD (R129). -/
def execStrSetDiscard (w slot : Nat) (s : State) : Res := cmdRun 0x203 strSetDiscardB w slot s

/-- STR_REMOVE (R128). -/
def execStrRemove (w slot : Nat) (s : State) : Res := cmdRun 0x204 strRemoveB w slot s

/-- STR_TUNNEL (R115). -/
def execStrTunnel (w slot : Nat) (s : State) : Res := cmdRun 0x205 strTunnelB w slot s

/-- STR_QUERY (R129). -/
def execStrQuery (w slot : Nat) (s : State) : Res := cmdRun 0x206 strQueryB w slot s

end Sys2Proof.Machine
end

