-- ==== Sys2Proof/Machine/Web.lean ====
section
/-!
DEFINITION. The meanings of the commands of the web coordinate and the triggers: one definition per row of the table.
-/
namespace Sys2Proof.Machine
open Sys2Proof

/-- ENCODER_EDGE (R130). -/
def execEncoderEdge (die unit : Nat) (pins : EncPins) (s : State) : Res := s.onDie die (unit < 4) (encoderEdgeF (4 * die + unit) pins)

/-- WEB_LOAD_GO (R133). -/
def execWebLoadGo (a : WAcc) (s : State) : Res := s.regWrite a .web (fun o => 0x100 ≤ o && o < 0x200 && (o - 0x100) % 0x40 == 0x10)

/-- ENCODER_STALL (R137). -/
def execEncoderStall (die unit : Nat) (s : State) : Res := s.onDie die (unit < 4) (encoderStallF (4 * die + unit))

/-- REPLICA_EDGE_UPDATE (R138). -/
def execReplicaEdgeUpdate (die src : Nat) (s : State) : Res := s.onDie die (src < 4 * s.nd) (replicaEdgeF die src)

/-- SRC_LOST (R151). -/
def execSrcLost (die src : Nat) (s : State) : Res := s.onDie die (src < 4 * s.nd) (srcLostF die src)

/-- TIME_ALIGN_LOSS (R18). -/
def execTimeAlignLoss (die : Nat) (s : State) : Res := s.onDie die true (timeAlignLossF die)

/-- TRIGGER_FIRE (R141). -/
def execTriggerFire (gen : Nat) (s : State) : Res := s.onDie (gen / 8) true (triggerFireAllF gen)

/-- TIME_TRIGGER (R140). -/
def execTimeTrigger (gen : Nat) (s : State) : Res := s.onDie (gen / 8) true (timeTriggerAllF gen)

/-- TRG_ARM (R147). -/
def execTrgArm (a : WAcc) (s : State) : Res := s.regWrite a .trg (fun o => 0x100 ≤ o && o < 0x300 && (o - 0x100) % 0x40 == 0x24)

/-- OUTPUT_WINDOW_START (R143). -/
def execOutputWindowStart (die out : Nat) (s : State) : Res := s.onDie die (out < 16) (windowStartF die out)

/-- OUTPUT_WINDOW_END (R143). -/
def execOutputWindowEnd (die out : Nat) (s : State) : Res := s.onDie die (out < 16) (windowEndF die out)

/-- DELAY_LINE_EXCHANGE (R17). -/
def execDelayLineExchange (die out : Nat) (s : State) : Res := s.onDie die (out < 16) (delayExchangeF die out)

/-- WEB_SET_ENCODER (R152). -/
def execWebSetEncoder (w slot : Nat) (s : State) : Res := cmdRun 0x300 webSetEncoderB w slot s

/-- WEB_LOAD (R133). -/
def execWebLoad (w slot : Nat) (s : State) : Res := cmdRun 0x301 webLoadB w slot s

/-- WEB_QUERY (R152). -/
def execWebQuery (w slot : Nat) (s : State) : Res := cmdRun 0x302 webQueryB w slot s

/-- TRG_SET_GEN (R152). -/
def execTrgSetGen (w slot : Nat) (s : State) : Res := cmdRun 0x310 trgSetGenB w slot s

/-- TRG_ATTACH (R149). -/
def execTrgAttach (w slot : Nat) (s : State) : Res := cmdRun 0x311 trgAttachB w slot s

/-- TRG_START (R148). -/
def execTrgStart (w slot : Nat) (s : State) : Res := cmdRun 0x312 trgStartB w slot s

/-- TRG_STOP (R148). -/
def execTrgStop (w slot : Nat) (s : State) : Res := cmdRun 0x313 trgStopAllB w slot s

/-- TRG_SET_PITCH (R147). -/
def execTrgSetPitch (w slot : Nat) (s : State) : Res := cmdRun 0x314 trgSetPitchB w slot s

/-- TRG_SET_OUTPUT (R152). -/
def execTrgSetOutput (w slot : Nat) (s : State) : Res := cmdRun 0x315 trgSetOutputB w slot s

/-- TRG_QUERY (R152). -/
def execTrgQuery (w slot : Nat) (s : State) : Res := cmdRun 0x316 trgQueryB w slot s

end Sys2Proof.Machine
end

