-- ==== Sys2Proof/Machine/Dispatch.lean ====
section
/-!
DEFINITION. The dispatch: one arm per command, each one direct call of its meaning.
-/
namespace Sys2Proof.Machine
open Sys2Proof

def exec (i : Instr) (s : State) : Host.Outcome State Fault Refusal :=
  match i with
  | .registerWrite a => Sys2Proof.Machine.execRegisterWrite a s
  | .aliasWrite a => Sys2Proof.Machine.execAliasWrite a s
  | .seqClear a => Sys2Proof.Machine.execSeqClear a s
  | .blockEnableWrite a => Sys2Proof.Machine.execBlockEnableWrite a s
  | .blockQuiesce base => Sys2Proof.Machine.execBlockQuiesce base s
  | .counterSnapshot a => Sys2Proof.Machine.execCounterSnapshot a s
  | .indDataRead a => Sys2Proof.Machine.execIndDataRead a s
  | .indDataWrite a => Sys2Proof.Machine.execIndDataWrite a s
  | .indWriteApply base => Sys2Proof.Machine.execIndWriteApply base s
  | .indAccessTimeout base => Sys2Proof.Machine.execIndAccessTimeout base s
  | .tmrScrub die => Sys2Proof.Machine.execTmrScrub die s
  | .prtCommit a => Sys2Proof.Machine.execPrtCommit a s
  | .prtCommitComplete => Sys2Proof.Machine.execPrtCommitComplete s
  | .mbxDoorbell a => Sys2Proof.Machine.execMbxDoorbell a s
  | .mbxRelease a => Sys2Proof.Machine.execMbxRelease a s
  | .commandAreaWrite a => Sys2Proof.Machine.execCommandAreaWrite a s
  | .commandStart w slot => Sys2Proof.Machine.execCommandStart w slot s
  | .devNop w slot => Sys2Proof.Machine.execDevNop w slot s
  | .devInfo w slot => Sys2Proof.Machine.execDevInfo w slot s
  | .devSetWindowLevel w slot => Sys2Proof.Machine.execDevSetWindowLevel w slot s
  | .devWarmReset w slot => Sys2Proof.Machine.execDevWarmReset w slot s
  | .fwQuery w slot => Sys2Proof.Machine.execFwQuery w slot s
  | .fwStage w slot image => Sys2Proof.Machine.execFwStage w slot image s
  | .fwVerify w slot => Sys2Proof.Machine.execFwVerify w slot s
  | .fwActivate w slot => Sys2Proof.Machine.execFwActivate w slot s
  | .fwSetBoot w slot => Sys2Proof.Machine.execFwSetBoot w slot s
  | .fwRevokeKey w slot => Sys2Proof.Machine.execFwRevokeKey w slot s
  | .clusterRestart die => Sys2Proof.Machine.execClusterRestart die s
  | .clusterDeclaredFailed die => Sys2Proof.Machine.execClusterDeclaredFailed die s
  | .leaderTakeover => Sys2Proof.Machine.execLeaderTakeover s
  | .knotBookRewrite => Sys2Proof.Machine.execKnotBookRewrite s
  | .laneCalDone die lane inRange => Sys2Proof.Machine.execLaneCalDone die lane inRange s
  | .laneAligned die x => Sys2Proof.Machine.execLaneAligned die x s
  | .alignLoss die x => Sys2Proof.Machine.execAlignLoss die x s
  | .backgroundCalStep die lane step => Sys2Proof.Machine.execBackgroundCalStep die lane step s
  | .transmitRequest die lane unit => Sys2Proof.Machine.execTransmitRequest die lane unit s
  | .headWake die lane => Sys2Proof.Machine.execHeadWake die lane s
  | .laneExitDone die lane => Sys2Proof.Machine.execLaneExitDone die lane s
  | .lnqLpWrite a => Sys2Proof.Machine.execLnqLpWrite a s
  | .lnqPrbsInject a => Sys2Proof.Machine.execLnqPrbsInject a s
  | .holdmaxClear a => Sys2Proof.Machine.execHoldmaxClear a s
  | .cdrLoss die lane => Sys2Proof.Machine.execCdrLoss die lane s
  | .selfCheckDone die lane pass => Sys2Proof.Machine.execSelfCheckDone die lane pass s
  | .synthUnlock die lane => Sys2Proof.Machine.execSynthUnlock die lane s
  | .spareTxAligned die group => Sys2Proof.Machine.execSpareTxAligned die group s
  | .swapRxActive die group => Sys2Proof.Machine.execSwapRxActive die group s
  | .laneQuery w slot => Sys2Proof.Machine.execLaneQuery w slot s
  | .laneSetMode w slot => Sys2Proof.Machine.execLaneSetMode w slot s
  | .laneSetPower w slot => Sys2Proof.Machine.execLaneSetPower w slot s
  | .lanePrbs w slot bits errs relocks => Sys2Proof.Machine.execLanePrbs w slot bits errs relocks s
  | .laneSwap w slot => Sys2Proof.Machine.execLaneSwap w slot s
  | .laneRestore w slot loopOk => Sys2Proof.Machine.execLaneRestore w slot loopOk s
  | .laneSetEq w slot => Sys2Proof.Machine.execLaneSetEq w slot s
  | .laneRecal w slot inRange => Sys2Proof.Machine.execLaneRecal w slot inRange s
  | .codewordRx die lane r => Sys2Proof.Machine.execCodewordRx die lane r s
  | .nakRepeat die lane => Sys2Proof.Machine.execNakRepeat die lane s
  | .ackSend die lane => Sys2Proof.Machine.execAckSend die lane s
  | .linkFlitRx die lane body => Sys2Proof.Machine.execLinkFlitRx die lane body s
  | .tunnelRspRx ch tag status len data => Sys2Proof.Machine.execTunnelRspRx ch tag status len data s
  | .tunnelTimeout ch tag => Sys2Proof.Machine.execTunnelTimeout ch tag s
  | .eventFlitRx ch code value => Sys2Proof.Machine.execEventFlitRx ch code value s
  | .csi2PacketRx ch bytes => Sys2Proof.Machine.execCsi2PacketRx ch bytes s
  | .lineDeadline ch => Sys2Proof.Machine.execLineDeadline ch s
  | .linkDown ch => Sys2Proof.Machine.execLinkDown ch s
  | .streamRemoval ch => Sys2Proof.Machine.execStreamRemoval ch s
  | .strDeadlineWrite a => Sys2Proof.Machine.execStrDeadlineWrite a s
  | .strSetOpen w slot => Sys2Proof.Machine.execStrSetOpen w slot s
  | .strSetAdd w slot => Sys2Proof.Machine.execStrSetAdd w slot s
  | .strSetCommit w slot => Sys2Proof.Machine.execStrSetCommit w slot s
  | .strSetDiscard w slot => Sys2Proof.Machine.execStrSetDiscard w slot s
  | .strRemove w slot => Sys2Proof.Machine.execStrRemove w slot s
  | .strTunnel w slot => Sys2Proof.Machine.execStrTunnel w slot s
  | .strQuery w slot => Sys2Proof.Machine.execStrQuery w slot s
  | .encoderEdge die unit pins => Sys2Proof.Machine.execEncoderEdge die unit pins s
  | .webLoadGo a => Sys2Proof.Machine.execWebLoadGo a s
  | .encoderStall die unit => Sys2Proof.Machine.execEncoderStall die unit s
  | .replicaEdgeUpdate die src => Sys2Proof.Machine.execReplicaEdgeUpdate die src s
  | .srcLost die src => Sys2Proof.Machine.execSrcLost die src s
  | .timeAlignLoss die => Sys2Proof.Machine.execTimeAlignLoss die s
  | .triggerFire gen => Sys2Proof.Machine.execTriggerFire gen s
  | .timeTrigger gen => Sys2Proof.Machine.execTimeTrigger gen s
  | .trgArm a => Sys2Proof.Machine.execTrgArm a s
  | .outputWindowStart die out => Sys2Proof.Machine.execOutputWindowStart die out s
  | .outputWindowEnd die out => Sys2Proof.Machine.execOutputWindowEnd die out s
  | .delayLineExchange die out => Sys2Proof.Machine.execDelayLineExchange die out s
  | .webSetEncoder w slot => Sys2Proof.Machine.execWebSetEncoder w slot s
  | .webLoad w slot => Sys2Proof.Machine.execWebLoad w slot s
  | .webQuery w slot => Sys2Proof.Machine.execWebQuery w slot s
  | .trgSetGen w slot => Sys2Proof.Machine.execTrgSetGen w slot s
  | .trgAttach w slot => Sys2Proof.Machine.execTrgAttach w slot s
  | .trgStart w slot => Sys2Proof.Machine.execTrgStart w slot s
  | .trgStop w slot => Sys2Proof.Machine.execTrgStop w slot s
  | .trgSetPitch w slot => Sys2Proof.Machine.execTrgSetPitch w slot s
  | .trgSetOutput w slot => Sys2Proof.Machine.execTrgSetOutput w slot s
  | .trgQuery w slot => Sys2Proof.Machine.execTrgQuery w slot s
  | .sliceLineRead die slice bad => Sys2Proof.Machine.execSliceLineRead die slice bad s
  | .lineRelease ch check => Sys2Proof.Machine.execLineRelease ch check s
  | .takeoverDone die slice tenNs ringBad => Sys2Proof.Machine.execTakeoverDone die slice tenNs ringBad s
  | .stagedSetApply ch => Sys2Proof.Machine.execStagedSetApply ch s
  | .corSetChannel w slot => Sys2Proof.Machine.execCorSetChannel w slot s
  | .corLoadTable w slot data => Sys2Proof.Machine.execCorLoadTable w slot data s
  | .corApply w slot => Sys2Proof.Machine.execCorApply w slot s
  | .corDiscard w slot => Sys2Proof.Machine.execCorDiscard w slot s
  | .corQuery w slot => Sys2Proof.Machine.execCorQuery w slot s
  | .corSliceSwap w slot => Sys2Proof.Machine.execCorSliceSwap w slot s
  | .dmsSetChannel w slot => Sys2Proof.Machine.execDmsSetChannel w slot s
  | .dmsSetTaps w slot => Sys2Proof.Machine.execDmsSetTaps w slot s
  | .dmsQuery w slot => Sys2Proof.Machine.execDmsQuery w slot s
  | .staRecordDrain die bad => Sys2Proof.Machine.execStaRecordDrain die bad s
  | .staConfigApply ch => Sys2Proof.Machine.execStaConfigApply ch s
  | .qmaxClear a => Sys2Proof.Machine.execQmaxClear a s
  | .staSetChannel w slot => Sys2Proof.Machine.execStaSetChannel w slot s
  | .staQuery w slot => Sys2Proof.Machine.execStaQuery w slot s
  | .staQueryDie w slot => Sys2Proof.Machine.execStaQueryDie w slot s
  | .handoffPacketRx die p => Sys2Proof.Machine.execHandoffPacketRx die p s
  | .splLineDeadline grp => Sys2Proof.Machine.execSplLineDeadline grp s
  | .splCloseTimeout grp => Sys2Proof.Machine.execSplCloseTimeout grp s
  | .composeWaitExpiry grp => Sys2Proof.Machine.execComposeWaitExpiry grp s
  | .splGroupApply grp => Sys2Proof.Machine.execSplGroupApply grp s
  | .splDeadlineWrite a => Sys2Proof.Machine.execSplDeadlineWrite a s
  | .splSetGroup w slot => Sys2Proof.Machine.execSplSetGroup w slot s
  | .splSetMember w slot => Sys2Proof.Machine.execSplSetMember w slot s
  | .splApply w slot => Sys2Proof.Machine.execSplApply w slot s
  | .splDiscard w slot => Sys2Proof.Machine.execSplDiscard w slot s
  | .splRemove w slot => Sys2Proof.Machine.execSplRemove w slot s
  | .splQuery w slot => Sys2Proof.Machine.execSplQuery w slot s
  | .schedulerGrant path die unit => Sys2Proof.Machine.execSchedulerGrant path die unit s
  | .recordExpire cons seq => Sys2Proof.Machine.execRecordExpire cons seq s
  | .csmAckWrite a => Sys2Proof.Machine.execCsmAckWrite a s
  | .contextFree cons => Sys2Proof.Machine.execContextFree cons s
  | .bindingEffect cons => Sys2Proof.Machine.execBindingEffect cons s
  | .csmBind w slot => Sys2Proof.Machine.execCsmBind w slot s
  | .csmUnbind w slot => Sys2Proof.Machine.execCsmUnbind w slot s
  | .csmSetPriority w slot => Sys2Proof.Machine.execCsmSetPriority w slot s
  | .csmSetHold w slot => Sys2Proof.Machine.execCsmSetHold w slot s
  | .csmQuery w slot => Sys2Proof.Machine.execCsmQuery w slot s
  | .hldQuery w slot => Sys2Proof.Machine.execHldQuery w slot s
  | .dmaDoorbell a => Sys2Proof.Machine.execDmaDoorbell a s
  | .descriptorFetch die ring ds => Sys2Proof.Machine.execDescriptorFetch die ring ds s
  | .ownClearRefetch die ring ds => Sys2Proof.Machine.execOwnClearRefetch die ring ds s
  | .flushReadIssue die ring => Sys2Proof.Machine.execFlushReadIssue die ring s
  | .flushReadComplete die ring => Sys2Proof.Machine.execFlushReadComplete die ring s
  | .busError die ring e => Sys2Proof.Machine.execBusError die ring e s
  | .ringInterrupt die ring => Sys2Proof.Machine.execRingInterrupt die ring s
  | .dmaRingCtlRestart a => Sys2Proof.Machine.execDmaRingCtlRestart a s
  | .dmaRingCtlHalt a => Sys2Proof.Machine.execDmaRingCtlHalt a s
  | .trackerEntryGrant die => Sys2Proof.Machine.execTrackerEntryGrant die s
  | .pcieLinkDown die => Sys2Proof.Machine.execPcieLinkDown die s
  | .busMasterDisable die => Sys2Proof.Machine.execBusMasterDisable die s
  | .functionLevelReset die => Sys2Proof.Machine.execFunctionLevelReset die s
  | .pcieLinkDegraded die speed width => Sys2Proof.Machine.execPcieLinkDegraded die speed width s
  | .dmaRingSetup w slot => Sys2Proof.Machine.execDmaRingSetup w slot s
  | .dmaRingFree w slot => Sys2Proof.Machine.execDmaRingFree w slot s
  | .dmaRingRestart w slot => Sys2Proof.Machine.execDmaRingRestart w slot s
  | .dmaRingQuery w slot => Sys2Proof.Machine.execDmaRingQuery w slot s
  | .pciQuery w slot => Sys2Proof.Machine.execPciQuery w slot s
  | .pciSetPort w slot => Sys2Proof.Machine.execPciSetPort w slot s
  | .ethStatusRx die mac flow m => Sys2Proof.Machine.execEthStatusRx die mac flow m s
  | .ethReceiptTimeout die mac flow => Sys2Proof.Machine.execEthReceiptTimeout die mac flow s
  | .stalledResend die mac flow => Sys2Proof.Machine.execStalledResend die mac flow s
  | .ethLinkDown die mac => Sys2Proof.Machine.execEthLinkDown die mac s
  | .ethLinkUp die mac => Sys2Proof.Machine.execEthLinkUp die mac s
  | .arpRequestRx die mac v6 target => Sys2Proof.Machine.execArpRequestRx die mac v6 target s
  | .launchDue die mac queue => Sys2Proof.Machine.execLaunchDue die mac queue s
  | .ptpMessageRx m => Sys2Proof.Machine.execPtpMessageRx m s
  | .ptpMessageTx m => Sys2Proof.Machine.execPtpMessageTx m s
  | .secondsRollover => Sys2Proof.Machine.execSecondsRollover s
  | .calendarSetApply => Sys2Proof.Machine.execCalendarSetApply s
  | .timeChangeApply => Sys2Proof.Machine.execTimeChangeApply s
  | .timeIncWrite a => Sys2Proof.Machine.execTimeIncWrite a s
  | .timeStepGo a => Sys2Proof.Machine.execTimeStepGo a s
  | .calGo a => Sys2Proof.Machine.execCalGo a s
  | .ppsInEdge die => Sys2Proof.Machine.execPpsInEdge die s
  | .ethSetPort w slot => Sys2Proof.Machine.execEthSetPort w slot s
  | .ethSetFlow w slot => Sys2Proof.Machine.execEthSetFlow w slot s
  | .ethFlowFree w slot => Sys2Proof.Machine.execEthFlowFree w slot s
  | .ethQuery w slot => Sys2Proof.Machine.execEthQuery w slot s
  | .ethSend w slot frame => Sys2Proof.Machine.execEthSend w slot frame s
  | .ptpSet w slot => Sys2Proof.Machine.execPtpSet w slot s
  | .ptpQuery w slot => Sys2Proof.Machine.execPtpQuery w slot s
  | .timeStep w slot => Sys2Proof.Machine.execTimeStep w slot s
  | .timeSetInc w slot => Sys2Proof.Machine.execTimeSetInc w slot s
  | .calSet w slot => Sys2Proof.Machine.execCalSet w slot s
  | .ptpSetUtc w slot => Sys2Proof.Machine.execPtpSetUtc w slot s
  | .stripeSealTimeout vol => Sys2Proof.Machine.execStripeSealTimeout vol s
  | .coilResponseRx vol r => Sys2Proof.Machine.execCoilResponseRx vol r s
  | .shardTimeout vol stripe shard => Sys2Proof.Machine.execShardTimeout vol stripe shard s
  | .durableTimeout vol stripe shard => Sys2Proof.Machine.execDurableTimeout vol stripe shard s
  | .targetProbe vol tgt => Sys2Proof.Machine.execTargetProbe vol tgt s
  | .rebuildStripe vol => Sys2Proof.Machine.execRebuildStripe vol s
  | .replaceCopyStripe vol => Sys2Proof.Machine.execReplaceCopyStripe vol s
  | .coilTargetSet w slot => Sys2Proof.Machine.execCoilTargetSet w slot s
  | .coilTargetFree w slot => Sys2Proof.Machine.execCoilTargetFree w slot s
  | .coilVolSetup w slot probes => Sys2Proof.Machine.execCoilVolSetup w slot probes s
  | .coilVolFree w slot => Sys2Proof.Machine.execCoilVolFree w slot s
  | .coilAddSpare w slot probe => Sys2Proof.Machine.execCoilAddSpare w slot probe s
  | .coilReplace w slot => Sys2Proof.Machine.execCoilReplace w slot s
  | .coilQuery w slot => Sys2Proof.Machine.execCoilQuery w slot s
  | .coilTargetQuery w slot => Sys2Proof.Machine.execCoilTargetQuery w slot s
  | .faultEvent die src inst info => Sys2Proof.Machine.execFaultEvent die src inst info s
  | .hbmSweepDone die => Sys2Proof.Machine.execHbmSweepDone die s
  | .sramScrub die mno row bit uncorr => Sys2Proof.Machine.execSramScrub die mno row bit uncorr s
  | .faultEscalation die src inst => Sys2Proof.Machine.execFaultEscalation die src inst s
  | .faultIrqHoldoffEnd => Sys2Proof.Machine.execFaultIrqHoldoffEnd s
  | .fltSevWrite a => Sys2Proof.Machine.execFltSevWrite a s
  | .fltSrcInjGo a => Sys2Proof.Machine.execFltSrcInjGo a s
  | .fltTmrInjGo a => Sys2Proof.Machine.execFltTmrInjGo a s
  | .heartbeatMiss die => Sys2Proof.Machine.execHeartbeatMiss die s
  | .tempThreshold die stack temp => Sys2Proof.Machine.execTempThreshold die stack temp s
  | .supplyExcursion die r => Sys2Proof.Machine.execSupplyExcursion die r s
  | .referenceLoss => Sys2Proof.Machine.execReferenceLoss s
  | .fltQuery w slot => Sys2Proof.Machine.execFltQuery w slot s
  | .fltSetSeverity w slot => Sys2Proof.Machine.execFltSetSeverity w slot s
  | .fltAck w slot => Sys2Proof.Machine.execFltAck w slot s
  | .fltList w slot => Sys2Proof.Machine.execFltList w slot s
  | .fltInject w slot => Sys2Proof.Machine.execFltInject w slot s
  | .fltUnitReset w slot pass => Sys2Proof.Machine.execFltUnitReset w slot pass s
  | .fltDieReset w slot => Sys2Proof.Machine.execFltDieReset w slot s
  | .canFrameRx ch f => Sys2Proof.Machine.execCanFrameRx ch f s
  | .canDetectDwellExpiry ch => Sys2Proof.Machine.execCanDetectDwellExpiry ch s
  | .canArbitrationStart ch => Sys2Proof.Machine.execCanArbitrationStart ch s
  | .canTxAttemptEnd ch r => Sys2Proof.Machine.execCanTxAttemptEnd ch r s
  | .canRecoveryDone ch => Sys2Proof.Machine.execCanRecoveryDone ch s
  | .canSleepEntry ch wake => Sys2Proof.Machine.execCanSleepEntry ch wake s
  | .canWakeEvent ch k => Sys2Proof.Machine.execCanWakeEvent ch k s
  | .canIntegrationDone ch => Sys2Proof.Machine.execCanIntegrationDone ch s
  | .txbRequest a => Sys2Proof.Machine.execTxbRequest a s
  | .txbAbort a => Sys2Proof.Machine.execTxbAbort a s
  | .canOpctlSleep a => Sys2Proof.Machine.execCanOpctlSleep a s
  | .canOpctlWake a => Sys2Proof.Machine.execCanOpctlWake a s
  | .canOpctlRecover a => Sys2Proof.Machine.execCanOpctlRecover a s
  | .canOpctlDetect a => Sys2Proof.Machine.execCanOpctlDetect a s
  | .qGetWrite a => Sys2Proof.Machine.execQGetWrite a s
  | .objCfgWrite a => Sys2Proof.Machine.execObjCfgWrite a s
  | .canTimingWrite a => Sys2Proof.Machine.execCanTimingWrite a s
  | .canSetPort w slot => Sys2Proof.Machine.execCanSetPort w slot s
  | .canSetFilter w slot => Sys2Proof.Machine.execCanSetFilter w slot s
  | .canSend w slot => Sys2Proof.Machine.execCanSend w slot s
  | .canRecv w slot => Sys2Proof.Machine.execCanRecv w slot s
  | .canQuery w slot => Sys2Proof.Machine.execCanQuery w slot s
  | .canDetect w slot => Sys2Proof.Machine.execCanDetect w slot s
  | .canSetWake w slot => Sys2Proof.Machine.execCanSetWake w slot s
  | .canSleep w slot => Sys2Proof.Machine.execCanSleep w slot s
  | .canRecover w slot => Sys2Proof.Machine.execCanRecover w slot s
  | .mfpCfgWrite a => Sys2Proof.Machine.execMfpCfgWrite a s
  | .mfpFunctionSwitch die pin level => Sys2Proof.Machine.execMfpFunctionSwitch die pin level s
  | .mfpSet w slot => Sys2Proof.Machine.execMfpSet w slot s
  | .mfpQuery w slot => Sys2Proof.Machine.execMfpQuery w slot s
  | .bootSetPlan w slot => Sys2Proof.Machine.execBootSetPlan w slot s
  | .bootQuery w slot => Sys2Proof.Machine.execBootQuery w slot s
  | .coldReset => Sys2Proof.Machine.execColdReset s
  | .warmReset cause => Sys2Proof.Machine.execWarmReset cause s
  | .portReset die low => Sys2Proof.Machine.execPortReset die low s
  | .resetRelease flashModes flashRate failed => Sys2Proof.Machine.execResetRelease flashModes flashRate failed s
  | .bootReady => Sys2Proof.Machine.execBootReady s
  | .lanesReadyTimeout die => Sys2Proof.Machine.execLanesReadyTimeout die s
  | .testLogicReset => Sys2Proof.Machine.execTestLogicReset s
  | .jtagBypass tap ir => Sys2Proof.Machine.execJtagBypass tap ir s
  | .jtagIdcode tap => Sys2Proof.Machine.execJtagIdcode tap s
  | .jtagSamplePreload tap => Sys2Proof.Machine.execJtagSamplePreload tap s
  | .jtagExtest tap => Sys2Proof.Machine.execJtagExtest tap s
  | .jtagClamp tap => Sys2Proof.Machine.execJtagClamp tap s
  | .jtagHighz tap => Sys2Proof.Machine.execJtagHighz tap s
  | .jtagExtestPulse tap => Sys2Proof.Machine.execJtagExtestPulse tap s
  | .jtagExtestTrain tap => Sys2Proof.Machine.execJtagExtestTrain tap s
  | .pcieLinkUp die speed width flit => Sys2Proof.Machine.execPcieLinkUp die speed width flit s
  | .pciConfigWrite die c => Sys2Proof.Machine.execPciConfigWrite die c s
  | .canRxError ch e => Sys2Proof.Machine.execCanRxError ch e s
  | .prbsCheckerRelock die lane loss => Sys2Proof.Machine.execPrbsCheckerRelock die lane loss s
  | .ethFrameRxDiscard die mac => Sys2Proof.Machine.execEthFrameRxDiscard die mac s
  | .ptpAnnounceTimeout => Sys2Proof.Machine.execPtpAnnounceTimeout s
  | .composeStopWaitExpiry grp => Sys2Proof.Machine.execComposeStopWaitExpiry grp s
  | .coilReadDataRx vol r => Sys2Proof.Machine.execCoilReadDataRx vol r s

end Sys2Proof.Machine
end

