-- ==== Sys2Proof/Machine/Step.lean ====
section
/-!
DEFINITION. One step: the command at the front of the queue is carried out on the part with the rest of the queue; with no command waiting,
one TIME cycle passes (log entry 1).
-/
namespace Sys2Proof.Machine
open Sys2Proof

/-- The part with another queue of waiting commands. -/
def State.queue (s : State) (l : List Instr) : State := { s with pending := l }

/-- Idling for one TIME cycle (R3, R284). -/
def State.idle (s : State) : State := (s.advance 1).keeps s

def step (s : State) : Host.Outcome State Fault Refusal :=
  match s.pending with
  | [] => .next s.idle
  | c :: rest => exec c (s.queue rest)

/-- A command put at the front of the queue. -/
def State.push (s : State) (c : Instr) : State := s.queue (c :: s.pending)

/-- The part with the command that a word spells at the front of its queue. -/
def State.withFetchWord (s : State) (nbits w : Nat) : State :=
  match decodeTableWord nbits w with
  | some c => s.push c
  | none => s

end Sys2Proof.Machine
end

