-- ==== Sys2Proof/WellFormed.lean ====
section
/-!
DEFINITION. Which commands are well formed: their operands lie in the ranges that the largest part of the family and the formats of the
spec give them. What a smaller part lacks is decided in its meanings.
-/
namespace Sys2Proof

/-- An access of a port (R23, R53): a port of a die, a requester id, an address of BAR0, and for a write as many bytes as it covers. -/
def Access.wf (a : Access) : Bool := a.port < 8 && a.rid < 65536 && a.addr + a.len ≤ 0x40000000 && (!a.wr || a.data.length == a.len) && a.holes.all (· < a.len)

/-- An aligned access to one register (R24). -/
def WAcc.wf (a : WAcc) : Bool := a.port < 8 && a.rid < 65536 && a.addr % 4 == 0 && a.addr < 0x40000000

/-- A codeword's place in its superframe and its 544 symbols of 10 bits (R101). -/
def RxWord.wf (r : RxWord) : Bool := r.pos < 120 && r.syms.length == 544 && r.syms.all (· < 1024)

/-- A descriptor (R259). -/
def Desc.wf (d : Desc) : Bool := d.addr < 2 ^ 64 && d.bufLen < 2 ^ 32

/-- A bus error's KIND (R267). -/
def BusErr.wf (e : BusErr) : Bool := e.kind < 16

/-- A UDP message (R274): its sender's address and port, its checksum and at most as many bytes as one datagram carries. -/
def UdpRx.wf (u : UdpRx) : Bool := u.sip < 2 ^ 128 && u.sport < 65536 && u.sum < 65536 && u.bytes.length < 65528

/-- A message of a Coil target (R302): where it arrives, and from which of the targets it comes. -/
def CoilRx.wf (r : CoilRx) : Bool := r.die < 8 && r.mac < 8 && r.tgt < 255 && r.udp.wf

/-- The answer of a target to a PROBE (R313). -/
def ProbeAns.wf (a : ProbeAns) : Bool := a.tgt < 255 && a.capMiB < 2 ^ 32

/-- A configuration write (R253, R254): codes of their fields' widths, an address of 64 bits, an entry of the MSI-X table. -/
def PciCfgWrite.wf : PciCfgWrite → Bool
  | .control _ mps _ _ cto _ => mps < 8 && cto < 16
  | .bar pair addr => pair < 2 && addr < 2 ^ 64
  | .vector n addr data _ => n < 2048 && addr < 2 ^ 64 && data < 2 ^ 32
  | .linkPower _ => true

/-- A CAN frame (R337): an 11-bit or 29-bit identifier and a DLC of 4 bits. -/
def CanFrame.wf (f : CanFrame) : Bool := f.id < (if f.ide then 2 ^ 29 else 2 ^ 11) && f.dlc < 16 && f.data.length ≤ 64

def CanWake.wf : CanWake → Bool
  | .edge _ => true
  | .frame f => f.wf

def CanTxEnd.wf : CanTxEnd → Bool
  | .error lec _ _ => lec < 8
  | _ => true

/-- A TAP (R378): the package's or a die's. -/
def Tap.wf : Tap → Bool
  | .package => true
  | .die d => d < 8

/-- Whether a command is well formed. -/
def Instr.wf : Instr → Bool
  | .registerWrite a => a.wf
  | .aliasWrite a => a.wf
  | .seqClear a => a.wf
  | .blockEnableWrite a => a.wf
  | .blockQuiesce base => base < 2 ^ 29
  | .counterSnapshot a => a.wf
  | .indDataRead a => a.wf
  | .indDataWrite a => a.wf
  | .indWriteApply base => base < 2 ^ 29
  | .indAccessTimeout base => base < 2 ^ 29
  | .tmrScrub die => die < 8
  | .prtCommit a => a.wf
  | .prtCommitComplete => true
  | .mbxDoorbell a => a.wf
  | .mbxRelease a => a.wf
  | .commandAreaWrite a => a.wf
  | .commandStart w slot => w < 4 && slot < 16
  | .devNop w slot => w < 4 && slot < 16
  | .devInfo w slot => w < 4 && slot < 16
  | .devSetWindowLevel w slot => w < 4 && slot < 16
  | .devWarmReset w slot => w < 4 && slot < 16
  | .fwQuery w slot => w < 4 && slot < 16
  | .fwStage w slot _ => w < 4 && slot < 16
  | .fwVerify w slot => w < 4 && slot < 16
  | .fwActivate w slot => w < 4 && slot < 16
  | .fwSetBoot w slot => w < 4 && slot < 16
  | .fwRevokeKey w slot => w < 4 && slot < 16
  | .clusterRestart die => die < 8
  | .clusterDeclaredFailed die => die < 8
  | .leaderTakeover => true
  | .knotBookRewrite => true
  | .laneCalDone die lane _ => die < 8 && lane < 68
  | .laneAligned die x => die < 8 && x.lane < 68
  | .alignLoss die x => die < 8 && x.lane < 68
  | .backgroundCalStep die lane _ => die < 8 && lane < 68
  | .transmitRequest die lane _ => die < 8 && lane < 68
  | .headWake die lane => die < 8 && lane < 68
  | .laneExitDone die lane => die < 8 && lane < 68
  | .lnqLpWrite a => a.wf
  | .lnqPrbsInject a => a.wf
  | .holdmaxClear a => a.wf
  | .cdrLoss die lane => die < 8 && lane < 68
  | .selfCheckDone die lane _ => die < 8 && lane < 68
  | .synthUnlock die lane => die < 8 && lane < 68
  | .spareTxAligned die group => die < 8 && group < 4
  | .swapRxActive die group => die < 8 && group < 4
  | .laneQuery w slot => w < 4 && slot < 16
  | .laneSetMode w slot => w < 4 && slot < 16
  | .laneSetPower w slot => w < 4 && slot < 16
  | .lanePrbs w slot bits errs relocks => w < 4 && slot < 16 && bits < 2 ^ 48 && errs < 2 ^ 48 && relocks < 2 ^ 16
  | .laneSwap w slot => w < 4 && slot < 16
  | .laneRestore w slot _ => w < 4 && slot < 16
  | .laneSetEq w slot => w < 4 && slot < 16
  | .laneRecal w slot _ => w < 4 && slot < 16
  | .codewordRx die lane r => die < 8 && lane < 68 && r.wf
  | .nakRepeat die lane => die < 8 && lane < 68
  | .ackSend die lane => die < 8 && lane < 68
  | .linkFlitRx die lane body => die < 8 && lane < 68 && body.length < 158
  | .tunnelRspRx ch tag status len data => ch < 192 && tag < 2 ^ 8 && status < 2 ^ 8 && len < 2 ^ 8 && data.length < 2 ^ 8
  | .tunnelTimeout ch tag => ch < 192 && tag < 256
  | .eventFlitRx ch code value => ch < 192 && code < 2 ^ 16 && value < 2 ^ 32
  | .csi2PacketRx ch bytes => ch < 192 && bytes.length < 2 ^ 16 + 6
  | .lineDeadline ch => ch < 192
  | .linkDown ch => ch < 192
  | .streamRemoval ch => ch < 192
  | .strDeadlineWrite a => a.wf
  | .strSetOpen w slot => w < 4 && slot < 16
  | .strSetAdd w slot => w < 4 && slot < 16
  | .strSetCommit w slot => w < 4 && slot < 16
  | .strSetDiscard w slot => w < 4 && slot < 16
  | .strRemove w slot => w < 4 && slot < 16
  | .strTunnel w slot => w < 4 && slot < 16
  | .strQuery w slot => w < 4 && slot < 16
  | .encoderEdge die unit _ => die < 8 && unit < 4
  | .webLoadGo a => a.wf
  | .encoderStall die unit => die < 8 && unit < 4
  | .replicaEdgeUpdate die src => die < 8 && src < 32
  | .srcLost die src => die < 8 && src < 32
  | .timeAlignLoss die => die < 8
  | .triggerFire gen => gen < 64
  | .timeTrigger gen => gen < 64
  | .trgArm a => a.wf
  | .outputWindowStart die out => die < 8 && out < 16
  | .outputWindowEnd die out => die < 8 && out < 16
  | .delayLineExchange die out => die < 8 && out < 16
  | .webSetEncoder w slot => w < 4 && slot < 16
  | .webLoad w slot => w < 4 && slot < 16
  | .webQuery w slot => w < 4 && slot < 16
  | .trgSetGen w slot => w < 4 && slot < 16
  | .trgAttach w slot => w < 4 && slot < 16
  | .trgStart w slot => w < 4 && slot < 16
  | .trgStop w slot => w < 4 && slot < 16
  | .trgSetPitch w slot => w < 4 && slot < 16
  | .trgSetOutput w slot => w < 4 && slot < 16
  | .trgQuery w slot => w < 4 && slot < 16
  | .sliceLineRead die slice _ => die < 8 && slice < 4
  | .lineRelease ch _ => ch < 192
  | .takeoverDone die slice tenNs _ => die < 8 && slice < 4 && tenNs < 2 ^ 16
  | .stagedSetApply ch => ch < 192
  | .corSetChannel w slot => w < 4 && slot < 16
  | .corLoadTable w slot _ => w < 4 && slot < 16
  | .corApply w slot => w < 4 && slot < 16
  | .corDiscard w slot => w < 4 && slot < 16
  | .corQuery w slot => w < 4 && slot < 16
  | .corSliceSwap w slot => w < 4 && slot < 16
  | .dmsSetChannel w slot => w < 4 && slot < 16
  | .dmsSetTaps w slot => w < 4 && slot < 16
  | .dmsQuery w slot => w < 4 && slot < 16
  | .staRecordDrain die _ => die < 8
  | .staConfigApply ch => ch < 192
  | .qmaxClear a => a.wf
  | .staSetChannel w slot => w < 4 && slot < 16
  | .staQuery w slot => w < 4 && slot < 16
  | .staQueryDie w slot => w < 4 && slot < 16
  | .handoffPacketRx die p => die < 8 && p.src < 8 && p.group < 64
  | .splLineDeadline grp => grp < 64
  | .splCloseTimeout grp => grp < 64
  | .composeWaitExpiry grp => grp < 64
  | .splGroupApply grp => grp < 64
  | .splDeadlineWrite a => a.wf
  | .splSetGroup w slot => w < 4 && slot < 16
  | .splSetMember w slot => w < 4 && slot < 16
  | .splApply w slot => w < 4 && slot < 16
  | .splDiscard w slot => w < 4 && slot < 16
  | .splRemove w slot => w < 4 && slot < 16
  | .splQuery w slot => w < 4 && slot < 16
  | .schedulerGrant _ die unit => die < 8 && unit < 8
  | .recordExpire cons seq => cons < 4096 && seq < 2 ^ 20
  | .csmAckWrite a => a.wf
  | .contextFree cons => cons < 4096
  | .bindingEffect cons => cons < 4096
  | .csmBind w slot => w < 4 && slot < 16
  | .csmUnbind w slot => w < 4 && slot < 16
  | .csmSetPriority w slot => w < 4 && slot < 16
  | .csmSetHold w slot => w < 4 && slot < 16
  | .csmQuery w slot => w < 4 && slot < 16
  | .hldQuery w slot => w < 4 && slot < 16
  | .dmaDoorbell a => a.wf
  | .descriptorFetch die ring ds => die < 8 && ring < 1024 && ds.all Desc.wf
  | .ownClearRefetch die ring ds => die < 8 && ring < 1024 && ds.all Desc.wf
  | .flushReadIssue die ring => die < 8 && ring < 1024
  | .flushReadComplete die ring => die < 8 && ring < 1024
  | .busError die ring e => die < 8 && ring < 1024 && e.wf
  | .ringInterrupt die ring => die < 8 && ring < 1024
  | .dmaRingCtlRestart a => a.wf
  | .dmaRingCtlHalt a => a.wf
  | .trackerEntryGrant die => die < 8
  | .pcieLinkDown die => die < 8
  | .busMasterDisable die => die < 8
  | .functionLevelReset die => die < 8
  | .pcieLinkDegraded die speed width => die < 8 && speed < 256 && width < 256
  | .dmaRingSetup w slot => w < 4 && slot < 16
  | .dmaRingFree w slot => w < 4 && slot < 16
  | .dmaRingRestart w slot => w < 4 && slot < 16
  | .dmaRingQuery w slot => w < 4 && slot < 16
  | .pciQuery w slot => w < 4 && slot < 16
  | .pciSetPort w slot => w < 4 && slot < 16
  | .ethStatusRx die mac flow m => die < 8 && mac < 8 && flow < 256 && m.wf
  | .ethReceiptTimeout die mac flow => die < 8 && mac < 8 && flow < 256
  | .stalledResend die mac flow => die < 8 && mac < 8 && flow < 256
  | .ethLinkDown die mac => die < 8 && mac < 8
  | .ethLinkUp die mac => die < 8 && mac < 8
  | .arpRequestRx die mac _ target => die < 8 && mac < 8 && target < 2 ^ 128
  | .launchDue die mac queue => die < 8 && mac < 8 && queue < 4
  | .ptpMessageRx _ => true
  | .ptpMessageTx _ => true
  | .secondsRollover => true
  | .calendarSetApply => true
  | .timeChangeApply => true
  | .timeIncWrite a => a.wf
  | .timeStepGo a => a.wf
  | .calGo a => a.wf
  | .ppsInEdge die => die < 8
  | .ethSetPort w slot => w < 4 && slot < 16
  | .ethSetFlow w slot => w < 4 && slot < 16
  | .ethFlowFree w slot => w < 4 && slot < 16
  | .ethQuery w slot => w < 4 && slot < 16
  | .ethSend w slot _ => w < 4 && slot < 16
  | .ptpSet w slot => w < 4 && slot < 16
  | .ptpQuery w slot => w < 4 && slot < 16
  | .timeStep w slot => w < 4 && slot < 16
  | .timeSetInc w slot => w < 4 && slot < 16
  | .calSet w slot => w < 4 && slot < 16
  | .ptpSetUtc w slot => w < 4 && slot < 16
  | .stripeSealTimeout vol => vol < 16
  | .coilResponseRx vol r => vol < 16 && r.wf
  | .shardTimeout vol _ shard => vol < 16 && shard < 20
  | .durableTimeout vol _ shard => vol < 16 && shard < 20
  | .targetProbe vol tgt => vol < 16 && tgt < 255
  | .rebuildStripe vol => vol < 16
  | .replaceCopyStripe vol => vol < 16
  | .coilTargetSet w slot => w < 4 && slot < 16
  | .coilTargetFree w slot => w < 4 && slot < 16
  | .coilVolSetup w slot probes => w < 4 && slot < 16 && probes.all ProbeAns.wf
  | .coilVolFree w slot => w < 4 && slot < 16
  | .coilAddSpare w slot _ => w < 4 && slot < 16
  | .coilReplace w slot => w < 4 && slot < 16
  | .coilQuery w slot => w < 4 && slot < 16
  | .coilTargetQuery w slot => w < 4 && slot < 16
  | .faultEvent die src inst info => die < 8 && src < 65536 && inst < 4096 && info < 2 ^ 32
  | .hbmSweepDone die => die < 8
  | .sramScrub die mno row bit _ => die < 8 && mno < 512 && row < 1024 && bit < 256
  | .faultEscalation die src inst => die < 8 && src < 65536 && inst < 4096
  | .faultIrqHoldoffEnd => true
  | .fltSevWrite a => a.wf
  | .fltSrcInjGo a => a.wf
  | .fltTmrInjGo a => a.wf
  | .heartbeatMiss die => die < 8
  | .tempThreshold die _ _ => die < 8
  | .supplyExcursion die r => die < 8 && r.rail < 10 && r.level < 2 ^ 16
  | .referenceLoss => true
  | .fltQuery w slot => w < 4 && slot < 16
  | .fltSetSeverity w slot => w < 4 && slot < 16
  | .fltAck w slot => w < 4 && slot < 16
  | .fltList w slot => w < 4 && slot < 16
  | .fltInject w slot => w < 4 && slot < 16
  | .fltUnitReset w slot _ => w < 4 && slot < 16
  | .fltDieReset w slot => w < 4 && slot < 16
  | .canFrameRx ch f => ch < 8 && f.wf
  | .canDetectDwellExpiry ch => ch < 8
  | .canArbitrationStart ch => ch < 8
  | .canTxAttemptEnd ch r => ch < 8 && r.wf
  | .canRecoveryDone ch => ch < 8
  | .canSleepEntry ch _ => ch < 8
  | .canWakeEvent ch k => ch < 8 && k.wf
  | .canIntegrationDone ch => ch < 8
  | .txbRequest a => a.wf
  | .txbAbort a => a.wf
  | .canOpctlSleep a => a.wf
  | .canOpctlWake a => a.wf
  | .canOpctlRecover a => a.wf
  | .canOpctlDetect a => a.wf
  | .qGetWrite a => a.wf
  | .objCfgWrite a => a.wf
  | .canTimingWrite a => a.wf
  | .canSetPort w slot => w < 4 && slot < 16
  | .canSetFilter w slot => w < 4 && slot < 16
  | .canSend w slot => w < 4 && slot < 16
  | .canRecv w slot => w < 4 && slot < 16
  | .canQuery w slot => w < 4 && slot < 16
  | .canDetect w slot => w < 4 && slot < 16
  | .canSetWake w slot => w < 4 && slot < 16
  | .canSleep w slot => w < 4 && slot < 16
  | .canRecover w slot => w < 4 && slot < 16
  | .mfpCfgWrite a => a.wf
  | .mfpFunctionSwitch die pin _ => die < 8 && pin < 48
  | .mfpSet w slot => w < 4 && slot < 16
  | .mfpQuery w slot => w < 4 && slot < 16
  | .bootSetPlan w slot => w < 4 && slot < 16
  | .bootQuery w slot => w < 4 && slot < 16
  | .coldReset => true
  | .warmReset _ => true
  | .portReset die _ => die < 8
  | .resetRelease flashModes flashRate failed => flashModes < 256 && flashRate < 2 ^ 16 && failed.all (· < 8)
  | .bootReady => true
  | .lanesReadyTimeout die => die < 8
  | .testLogicReset => true
  | .jtagBypass tap ir => tap.wf && ir < 256
  | .jtagIdcode tap => tap.wf
  | .jtagSamplePreload tap => tap.wf
  | .jtagExtest tap => tap.wf
  | .jtagClamp tap => tap.wf
  | .jtagHighz tap => tap.wf
  | .jtagExtestPulse tap => tap.wf
  | .jtagExtestTrain tap => tap.wf
  | .pcieLinkUp die speed width _ => die < 8 && speed < 256 && width < 256
  | .pciConfigWrite die c => die < 8 && c.wf
  | .canRxError ch _ => ch < 8
  | .prbsCheckerRelock die lane _ => die < 8 && lane < 68
  | .ethFrameRxDiscard die mac => die < 8 && mac < 8
  | .ptpAnnounceTimeout => true
  | .composeStopWaitExpiry grp => grp < 64
  | .coilReadDataRx vol r => vol < 16 && r.wf

end Sys2Proof
end

