-- ==== Sys2Proof/Safety.lean ====
section
/-!
DEFINITION. The terms in which claims about the part are made: what protects the protection table, when a write reaches its register, and
the state in which each of the three kinds of command ends.
-/
namespace Sys2Proof.Machine
open Sys2Proof

/-! ### The protection table -/

/-- The fields of a protection table that R56 fixes: SYS and PRT are written by Root alone, and PRT_POLICY of KNB reads 0x33. -/
def fixedTable (p : Part) (t : Tbl Word) : Bool :=
  bits (tableWord p t (prtBase + 0x100)) 1 0 == 0 && bits (tableWord p t (prtBase + 0x108)) 1 0 == 0
    && tableWord p t (prtBase + 0x104) == 0x33

/-- The table in force and every commit on its way hold the fixed fields. -/
def State.guarded (s : State) : Bool := fixedTable s.part s.prt && s.commits.all fun c => fixedTable s.part c.table

/-- The commands that may change the protection table in force (R57, R370). -/
def changesTable : Instr → Bool
  | .prtCommitComplete => true
  | .coldReset => true
  | .warmReset _ => true
  | .supplyExcursion _ _ => true
  | _ => false

/-! ### The ends of a command -/

/-- After an event whose effect is f: the fault reactions that it called for are carried out. -/
def State.reacted (s : State) (f : State → State) : State := ((f s).settle).keeps s

/-- After a mailbox command whose body ended with x. -/
def State.answered (s : State) (w k opc : Nat) (x : Rsp) : State := ((s.respond w k opc x).settle).keeps s

/-- The fault reactions in hand are carried out. -/
def State.settled (s : State) : State := s.settle.keeps s

/-- The part as an aligned access of a port finds it: the port has counted the request. -/
def State.arrived (s : State) (a : WAcc) : State := s.tlps a.port 0 1

/-- After a permitted write of one register whose effect is f. -/
def State.written (s : State) (a : WAcc) (f : State → State) : State :=
  let u := (f (s.arrived a)).keeps (s.arrived a)
  u.settle.keeps u

/-- A permitted write of the whole word of an assigned register of a kind of block in a die that is there, over a port that works: what
R24, R25, R27, R54, R385 ask of it. -/
structure Reaches (s : State) (a : WAcc) (b : Blk) (r : RegRow) (sa : Nat) : Prop where
  portUp  : s.dieUp a.port = true
  aligned : a.addr % 4 = 0
  inside  : a.addr + 4 ≤ 0x40000000
  blk     : (targetOf a.addr).blk = some b
  notKnb  : b ≠ .knb
  noBody  : (targetOf a.addr).body = false
  there   : s.there (targetOf a.addr) = true
  noAlias : (targetOf a.addr).indAlias b = false
  place   : s.place (targetOf a.addr).die (targetOf a.addr).slot b (targetOf a.addr).base (targetOf a.addr).plain = .reg r sa
  granted : s.permitted (s.grantOf a.port a.rid) (targetOf a.addr) true (s.carried (targetOf a.addr) a.val) = true

/-- The same conditions as a check. -/
def State.reachesB (s : State) (a : WAcc) (b : Blk) (r : RegRow) (sa : Nat) : Bool :=
  let t := targetOf a.addr
  s.dieUp a.port && a.addr % 4 == 0 && decide (a.addr + 4 ≤ 0x40000000) && t.blk == some b && b != .knb && !t.body && s.there t
    && !t.indAlias b && decide (s.place t.die t.slot b t.base t.plain = .reg r sa)
    && s.permitted (s.grantOf a.port a.rid) t true (s.carried t a.val)

/-- The word a write offers to a register: through an alias, the word that R27 produces. -/
def State.offer (s : State) (a : WAcc) (r : RegRow) (sa : Nat) : Word := offered (formOf (targetOf a.addr).off) r (s.rd sa) a.val

/-- Whether a write is not through an alias. -/
def plainForm (a : WAcc) : Bool := formOf (targetOf a.addr).off == .plain

/-- After a permitted write of IND_DATA: the write is posted behind those queued earlier, and the queue drains while its clocks run. -/
def State.indPosted (s : State) (a : WAcc) : State :=
  let base := (targetOf a.addr).base
  let u := s.written a fun v => v.indPost base a.val (v.grantOf a.port a.rid).level a.port
  ((u.indDrain base).settle).keeps u

/-! ### What the rows of the table say -/

/-- A row that is a mailbox command: a started command of its opcode is carried out by its body. -/
def Carries (c : Nat → Nat → Instr) (opc : Nat) (body : Nat → Nat → State → Rsp) : Prop :=
  ∀ s w k, w < 4 → k < 16 → s.runs w k opc = true → exec (c w k) s = .next (s.answered w k opc (body w k s))

/-- A row that is an event of a unit of a die which is not isolated. -/
def Happens (c : Instr) (d : Nat) (has : Bool) (f : State → State) : Prop :=
  ∀ s : State, s.dieUp d = true → has = true → exec c s = .next (s.reacted f)

/-- A row that is an event of the package. -/
def Occurs (c : Instr) (has : Bool) (f : State → State) : Prop :=
  ∀ s : State, has = true → exec c s = .next (s.reacted f)

/-- A row that is a write of registers of a kind of block at plain offsets that satisfy p. -/
def Lands (c : WAcc → Instr) (b : Blk) (p : Nat → Bool) (f : WAcc → RegRow → Nat → State → State) : Prop :=
  ∀ s a r sa, Reaches s a b r sa → p (targetOf a.addr).plain = true → exec (c a) s = .next (s.written a (f a r sa))

/-- A row that is a write of IND_DATA while IND_ADDR selects an indirect register that satisfies p. -/
def Posts (c : WAcc → Instr) (b : Blk) (p : State → WAcc → Nat → Bool) : Prop :=
  ∀ s a r sa, Reaches s a b r sa → (targetOf a.addr).off = 0x1C → (targetOf a.addr).die < 8
    → p s a (s.indAddr (targetOf a.addr).base) = true → exec (c a) s = .next (s.indPosted a)

end Sys2Proof.Machine
end

