-- ==== Sys2Proof/Certificates/Slice0/Obligations.lean ====
section
/-!
DEFINITION. The statements for the provers, from the numbered rules of the spec. What no statement claims: a value that the model chose is named
with its log entry where a statement rests on one.
-/
open Sys2Proof Sys2Proof.Machine

/-! ### The block as a whole -/

/-- A STEP CARRIES OUT THE COMMAND AT THE FRONT of the queue on the part with the rest of the queue (the queue is the model's own). -/
def Obligations.StepRunsFrontCommand : Prop :=
  (∀ (s : State) (c : Instr) (rest : List Instr), s.pending = c :: rest → step s = exec c (s.queue rest))
  ∧ (∀ (s : State) (c : Instr), step (s.push c) = exec c s)

/-- WITH NO COMMAND WAITING one TIME cycle passes (the model's choice, log entry 1): a next state always follows, in which TIME has counted; inside a
second of the time counter nothing but the clock moves, and the counter advances by INC (R284). -/
def Obligations.IdleStepPassesOneTimeCycle : Prop :=
  ∀ s : State, s.pending = [] →
    (∃ t, step s = .next t ∧ t.part = s.part ∧ t.pending = [] ∧ t.prt = s.prt ∧ t.commits = s.commits)
    ∧ ((s.clock.total + s.clock.inc) / (1000000000 * 2 ^ 32) = s.clock.sec → s.clock.sec < 2 ^ 48 →
        ∃ c, step s = .next { s with clock := c } ∧ c.now = s.clock.now + 1 ∧ c.total = s.clock.total + s.clock.inc ∧ c.inc = s.clock.inc)

/-- A COLD RESET (R370) leaves every register at its reset value, every counter at 0, every mailbox slot FREE, the journal, the protection table, the
commits, the indirect queues, the streams, groups, records, contexts, rings, flows' queues, volumes and CAN controllers cleared; flash and
one-time-programmable store are kept. -/
def Obligations.ColdResetLeavesResetValues : Prop :=
  ∀ s : State, ∃ t, exec .coldReset s = .next t
    ∧ (∀ a, t.rd a = resetWord s.part a) ∧ (∀ a, t.cnt a = 0) ∧ (∀ w k, (t.slot w k).st = SlotSt.free) ∧ (∀ k, tget t.journal k = none)
    ∧ t.prt = [] ∧ t.commits = [] ∧ t.indq = [] ∧ t.tmr = [] ∧ t.inj = [] ∧ t.isolated = [] ∧ t.outUnits = [] ∧ t.halted = false
    ∧ t.lanes = [] ∧ t.links = [] ∧ t.chans = [] ∧ t.sets = [] ∧ t.sources = [] ∧ t.gens = [] ∧ t.cors = [] ∧ t.stas = [] ∧ t.grps = []
    ∧ t.recs = [] ∧ t.ctxs = [] ∧ t.rings = [] ∧ t.launches = [] ∧ t.vols = [] ∧ t.cans = [] ∧ t.srcs = [] ∧ t.clock = {} ∧ t.knb = []
    ∧ t.boot.img0 = s.boot.img0 ∧ t.boot.img1 = s.boot.img1 ∧ t.boot.recA = s.boot.recA ∧ t.boot.recB = s.boot.recB
    ∧ t.boot.revoked = s.boot.revoked ∧ t.boot.svnFloor = s.boot.svnFloor ∧ t.boot.released = false
    ∧ t.part = s.part ∧ t.pending = s.pending

/-- A WARM RESET BY RSTn (R370) of a part that runs keeps the row remaps, SYS_TEMP.PEAK and the count of warm resets, which advances, on every die,
and flash and one-time-programmable store; CAUSE tells RSTn; slots, journal and streams are cleared. -/
def Obligations.WarmResetKeepsRemapsPeakAndCount : Prop :=
  ∀ s : State, s.boot.released = true → ∃ t, exec (.warmReset .rstn) s = .next t
    ∧ t.remaps = s.remaps
    ∧ (∀ d < s.nd, t.g (sysB d) R.SYS_TEMP_PEAK = s.g (sysB d) R.SYS_TEMP_PEAK
        ∧ t.g (sysB d) R.SYS_RESET_CAUSE_COUNT = (s.g (sysB d) R.SYS_RESET_CAUSE_COUNT + 1) % 2 ^ R.SYS_RESET_CAUSE_COUNT.width
        ∧ t.g (sysB d) R.SYS_RESET_CAUSE_CAUSE = 1)
    ∧ (∀ w k, (t.slot w k).st = SlotSt.free) ∧ (∀ k, tget t.journal k = none) ∧ t.chans = [] ∧ t.recs = [] ∧ t.prt = []
    ∧ t.boot.img0 = s.boot.img0 ∧ t.boot.img1 = s.boot.img1 ∧ t.boot.revoked = s.boot.revoked ∧ t.boot.svnFloor = s.boot.svnFloor

/-- NO COMMAND CHANGES WHICH PART IT IS OR THE COMMANDS THAT WAIT behind it. -/
def Obligations.CommandsKeepPartAndQueue : Prop :=
  ∀ (c : Instr) (s t : State), exec c s = .next t → t.part = s.part ∧ t.pending = s.pending

/-! ### Protection (R52 to R58) -/

/-- After reset the fixed fields of the protection table hold (R56). -/
def Obligations.ResetStateIsGuarded : Prop := ∀ p : Part, ({ State.reset with part := p } : State).guarded = true

/-- EVERY STEP KEEPS THE FIXED FIELDS of R56 in the table in force and in every commit on its way: SYS and PRT stay writable by Root alone and
PRT_POLICY[1] reads 0x33, whatever the command and whatever the staged registers hold. -/
def Obligations.StepKeepsTheTableGuarded : Prop :=
  ∀ s t : State, s.guarded = true → step s = .next t → t.guarded = true

/-- ONLY THE COMPLETION OF A COMMIT OR A RESET CHANGES THE TABLE IN FORCE (R57); any other command at most queues commits behind those on their way. -/
def Obligations.TableChangesOnlyByCommitOrReset : Prop :=
  ∀ (c : Instr) (s t : State), exec c s = .next t → changesTable c = false → t.prt = s.prt ∧ ∃ l, t.commits = s.commits ++ l

/-- NO ACCESS BELOW ROOT COMMITS: from a guarded state, an access of any length by a requester whose level is not Root adds no commit and changes
no table. -/
def Obligations.OnlyRootCommitsATable : Prop :=
  ∀ (s t : State) (x : Access), s.guarded = true → (s.grantOf x.port x.rid).level ≠ 0 → exec (.registerWrite x) s = .next t →
    t.prt = s.prt ∧ t.commits = s.commits

/-- A WRITE BELOW ROOT TO A SYS OR PRT WINDOW IS DENIED from a guarded state (R54 to R56): nothing happens but the record of the denial. -/
def Obligations.WritesBelowRootToSysAndPrtAreDenied : Prop :=
  ∀ (s : State) (a : WAcc), s.guarded = true → s.dieUp a.port = true → a.addr % 4 = 0 → a.addr + 4 ≤ 0x40000000 →
    ((targetOf a.addr).blk = some .prt ∨ (targetOf a.addr).blk = some .sys) → (s.grantOf a.port a.rid).level ≠ 0 →
    exec (.registerWrite (accWrite a)) s
      = .next (s.written a fun u => u.deny a.port a.rid (s.grantOf a.port a.rid).level a.addr true)

/-- R58 WHOLE: a commit under whose staged table the access would no longer be given Root is refused: the table in force and the commits on their
way are unchanged, PRT_GEN is not incremented, LOCKOUT is set, DIRTY reads 1; no other register changes. -/
def Obligations.LockOutRefusesTheCommit : Prop :=
  ∀ (s : State) (a : WAcc) (r : RegRow) (sa : Nat), Reaches s a .prt r sa → a.addr = prtBase + 0x40 → a.val.getLsbD 0 = true →
    (s.grantOf a.port a.rid).level = 0 → (grantIn s.part s.stagedPrt a.port a.rid).level ≠ 0 → s.todo = [] →
    ∃ t, exec (.prtCommit a) s = .next t ∧ t.prt = s.prt ∧ t.commits = s.commits
      ∧ t.g prtBase R.PRT_GEN_GEN = s.g prtBase R.PRT_GEN_GEN
      ∧ t.gb prtBase R.PRT_CSTAT_LOCKOUT = true
      ∧ bits (t.view 8 1 .prt 0x48 (prtBase + 0x48)) 0 0 = 1
      ∧ (∀ x, x ≠ prtBase + 0x48 → t.rd x = s.rd x)

/-- A COMMIT COMPLETES (R57): the oldest commit on its way becomes the table in force, the others stay queued in order, PRT_GEN is incremented, and
no other register changes; with none on its way nothing changes. -/
def Obligations.CommitCompletesInOrder : Prop :=
  (∀ (s : State) (c : Commit) (rest : List Commit), s.commits = c :: rest →
    ∃ t, exec .prtCommitComplete s = .next t ∧ t.prt = c.table ∧ t.commits = rest
      ∧ t.g prtBase R.PRT_GEN_GEN = (s.g prtBase R.PRT_GEN_GEN + 1) % 2 ^ 32
      ∧ (∀ x, x ≠ prtBase + 0x44 → t.rd x = s.rd x) ∧ t.slots = s.slots ∧ t.chans = s.chans ∧ t.recs = s.recs ∧ t.out = s.out)
  ∧ (∀ s : State, s.commits = [] → exec .prtCommitComplete s = .next s)

/-- WHERE NOTHING IS MAPPED a permitted read of an absent or isolated die, or of an unassigned slot, returns all ones, and is recorded (R25, R385);
a denied read returns 0 whatever its target (R55). The reactions that the record calls for follow. -/
def Obligations.ReadsOfNothingReturnAllOnesOrZero : Prop :=
  ∀ (s : State) (a : WAcc), s.dieUp a.port = true → a.addr % 4 = 0 → a.addr + 4 ≤ 0x40000000 →
    (s.permitted (s.grantOf a.port a.rid) (targetOf a.addr) false 0 = false →
      exec (.registerWrite (accRead a)) s = .next (((((s.tlps a.port 1 1).deny a.port a.rid (s.grantOf a.port a.rid).level a.addr false).emit
        (.readDone a.addr 0)).keeps s).settled))
    ∧ (s.permitted (s.grantOf a.port a.rid) (targetOf a.addr) false 0 = true → (targetOf a.addr).body = false →
        (s.there (targetOf a.addr) = false ∨ (targetOf a.addr).blk = none) →
        exec (.registerWrite (accRead a)) s
          = .next (((((s.tlps a.port 1 1).unmapped a.port a.addr).emit (.readDone a.addr 0xFFFFFFFF)).keeps s).settled))

/-! ### Registers (R26 to R51) -/

/-- THE ALIASES OF A REGISTER (R27): the set, clear and toggle aliases set, clear and invert the RW and RWD bits written as 1, leave those written as 0,
and offer nothing for a bit of another access type. -/
def Obligations.AliasesActOnReadWriteBits : Prop :=
  ∀ (r : RegRow) (old v : Word) (i : Nat), i < 32 →
    ((r.maskOf fun a => a == .rw || a == .rwd).getLsbD i = true →
      (offered .set r old v).getLsbD i = (old.getLsbD i || v.getLsbD i)
      ∧ (offered .clear r old v).getLsbD i = (old.getLsbD i && !v.getLsbD i)
      ∧ (offered .toggle r old v).getLsbD i = (old.getLsbD i != v.getLsbD i)
      ∧ (offered .plain r old v).getLsbD i = v.getLsbD i)
    ∧ ((r.maskOf fun a => a == .rw || a == .rwd).getLsbD i = false →
      (offered .set r old v).getLsbD i = false ∧ (offered .clear r old v).getLsbD i = false ∧ (offered .toggle r old v).getLsbD i = false)

/-- A SET EVENT of one flag (R39): the sequence number advances by 1 modulo 256, the flag is set, OVF is set if a flag was set already, the capture
fields latch only in a register without a flag, and nothing else changes. -/
def Obligations.SetEventAdvancesTheSequence : Prop :=
  ∀ (s : State) (b : Nat) (e : EvtReg) (f c : Fld) (x : Nat), f.lo < 24 → e.ovf < 2 ^ 24 → c.lo ≤ c.hi → c.hi < 24 →
    (∀ i, c.lo ≤ i → i ≤ c.hi → f.lo ≠ i) →
    bits ((s.evt b e [f] [(c, x)]).rd (b + e.off)) 31 24 = (bits (s.rd (b + e.off)) 31 24 + 1) % 256
    ∧ ((s.evt b e [f] [(c, x)]).rd (b + e.off)).getLsbD f.lo = true
    ∧ ((s.rd (b + e.off)).toNat &&& e.mask ≠ 0 → ∀ i < 24,
        ((s.evt b e [f] [(c, x)]).rd (b + e.off)).getLsbD i = ((s.rd (b + e.off)).getLsbD i || decide (i = f.lo) || e.ovf.testBit i))
    ∧ ((s.rd (b + e.off)).toNat &&& e.mask = 0 →
        bits ((s.evt b e [f] [(c, x)]).rd (b + e.off)) c.hi c.lo = x % 2 ^ c.width
        ∧ ∀ i < 24, ¬(c.lo ≤ i ∧ i ≤ c.hi) →
            ((s.evt b e [f] [(c, x)]).rd (b + e.off)).getLsbD i = ((s.rd (b + e.off)).getLsbD i || decide (i = f.lo)))
    ∧ (∀ y, y ≠ b + e.off → (s.evt b e [f] [(c, x)]).rd y = s.rd y)

/-- CLEARING CFGERR (R40, R39) of any block that has it: a plain write whose [31:24] is the sequence number clears the flags written as 1 and no other, and
the capture fields read 0 once no flag is left; with another number it has no effect; the sequence number and every other register stay. -/
def Obligations.CfgErrClearsUnderTheSequenceRule : Prop :=
  ∀ (s : State) (a : WAcc) (b : Blk) (r : RegRow) (sa : Nat), Reaches s a b r sa → (targetOf a.addr).off = 8 → s.todo = [] →
    ∃ t, exec (.seqClear a) s = .next t
      ∧ (bits a.val 31 24 ≠ bits (s.rd sa) 31 24 → t.rd sa = s.rd sa)
      ∧ (bits a.val 31 24 = bits (s.rd sa) 31 24 →
          bits (t.rd sa) 31 24 = bits (s.rd sa) 31 24
          ∧ (∀ i < 3, (t.rd sa).getLsbD i = ((s.rd sa).getLsbD i && !a.val.getLsbD i))
          ∧ (bits (t.rd sa) 2 0 ≠ 0 → bits (t.rd sa) 17 3 = bits (s.rd sa) 17 3)
          ∧ (bits (t.rd sa) 2 0 = 0 → bits (s.rd sa) 2 0 ≠ 0 → bits (t.rd sa) 17 3 = 0))
      ∧ (∀ x, x ≠ sa → t.rd x = s.rd x) ∧ t.out = s.out ∧ t.slots = s.slots ∧ t.chans = s.chans

/-- A BLOCK THAT IS NOT DISABLED REJECTS RWD BITS (R43, R37): the RW bits of a plain write are applied all the same, every other bit stays, CFGERR records
RWD_REJ with the writer's level and the offset exactly when a written RWD bit differs, and no other register changes. -/
def Obligations.EnabledBlockRejectsDisabledOnlyBits : Prop :=
  ∀ (s : State) (base sa : Nat) (r : RegRow) (v : Word) (level off : Nat), s.disabled base = false → r.isSeq = false → sa ≠ base + 8 →
    (∀ i < 32, (r.maskOf (· == .rw)).getLsbD i = true → ((s.writeRow base sa r .plain v level off).rd sa).getLsbD i = v.getLsbD i)
    ∧ (∀ i < 32, (r.maskOf (· == .rw)).getLsbD i = false → ((s.writeRow base sa r .plain v level off).rd sa).getLsbD i = (s.rd sa).getLsbD i)
    ∧ ((s.rd sa ^^^ v) &&& r.maskOf (· == .rwd) ≠ 0 →
        (s.writeRow base sa r .plain v level off).rd (base + 8) = (s.cfgErr base R.HDR_CFGERR_RWD_REJ level off).rd (base + 8))
    ∧ ((s.rd sa ^^^ v) &&& r.maskOf (· == .rwd) = 0 → (s.writeRow base sa r .plain v level off).rd (base + 8) = s.rd (base + 8))
    ∧ (∀ x, x ≠ sa → x ≠ base + 8 → (s.writeRow base sa r .plain v level off).rd x = s.rd x)

/-- THE ENABLE BIT (R42, R44): while BOUND is 1 a plain write of 0 to EN leaves EN and is recorded in CFGERR.BOUND_REJ; while BOUND is 0 it clears EN and
nothing else; a write of 1 to a block whose EN is 0 sets EN and clears QUIESCED (a CAN block then also starts its controller, R338). -/
def Obligations.BoundBlockRefusesToBeDisabled : Prop :=
  ∀ (s : State) (a : WAcc) (b : Blk) (r : RegRow) (sa : Nat), Reaches s a b r sa → (targetOf a.addr).off = 4 → b.hasRwd = true → s.todo = [] →
    (a.val.getLsbD 0 = false → s.boundOf (targetOf a.addr).die (targetOf a.addr).slot b = true →
      ∃ t, exec (.blockEnableWrite a) s = .next t
        ∧ t.rd (sa + 4) = (s.cfgErr (targetOf a.addr).base R.HDR_CFGERR_BOUND_REJ (s.grantOf a.port a.rid).level 4).rd (sa + 4)
        ∧ (∀ x, x ≠ sa + 4 → t.rd x = s.rd x))
    ∧ (a.val.getLsbD 0 = false → s.boundOf (targetOf a.addr).die (targetOf a.addr).slot b = false →
      ∃ t, exec (.blockEnableWrite a) s = .next t ∧ (t.rd sa).getLsbD 0 = false
        ∧ (∀ i, 0 < i → (t.rd sa).getLsbD i = (s.rd sa).getLsbD i) ∧ (∀ x, x ≠ sa → t.rd x = s.rd x))
    ∧ (a.val.getLsbD 0 = true → s.gb (targetOf a.addr).base R.HDR_CTRL_EN = false → b ≠ .can →
      ∃ t, exec (.blockEnableWrite a) s = .next t ∧ (t.rd sa).getLsbD 0 = true ∧ (t.rd sa).getLsbD 1 = false
        ∧ (∀ x, x ≠ sa → t.rd x = s.rd x))

/-- A SNAPSHOT (R45) of a block whose counters are all in its own space: SNAPNO advances modulo 65,536, every counter is copied to its holding register in
the bits that the register has, the upper half of the Strand byte count to the register behind its lower half, the counters keep their counts, and every
register that is neither SNAPNO nor a counter's keeps its value. -/
def Obligations.SnapshotCopiesTheCounters : Prop :=
  ∀ (s : State) (a : WAcc) (b : Blk) (r : RegRow) (sa : Nat), Reaches s a b r sa → (targetOf a.addr).off = 0xC → a.val.getLsbD 0 = true → s.todo = [] →
    b ∈ [Blk.csm, .pci, .eth, .col, .xdf, .sta, .str] →
    ∃ t, exec (.counterSnapshot a) s = .next t
      ∧ t.g (targetOf a.addr).base R.HDR_SNAPNO_SNAPNO = (s.g (targetOf a.addr).base R.HDR_SNAPNO_SNAPNO + 1) % 65536
      ∧ t.live = (s.arrived a).live
      ∧ (∀ e ∈ (s.arrived a).live, (targetOf a.addr).base + 0x40 ≤ e.1 → e.1 < (targetOf a.addr).base + 0x4000 →
          (b = .str → e.1 ≠ (targetOf a.addr).base + R.STR_CNT_COUNT.off + 4 * 0x12) →
          t.rd e.1 = BitVec.ofNat 32 ((s.arrived a).cnt e.1)
            &&& ((rowAt (home s.part e.1).rows (home s.part e.1).off).map RegRow.all).getD 0xFFFFFFFF)
      ∧ (b = .str → (∀ e ∈ (s.arrived a).live, e.1 ≠ (targetOf a.addr).base + R.STR_CNT_COUNT.off + 4 * 0x12) →
          (∃ e ∈ (s.arrived a).live, e.1 = (targetOf a.addr).base + R.STR_CNT_COUNT.off + 4 * 0x11) →
          t.rd ((targetOf a.addr).base + R.STR_CNT_COUNT.off + 4 * 0x12)
            = BitVec.ofNat 32 ((s.arrived a).cnt ((targetOf a.addr).base + R.STR_CNT_COUNT.off + 4 * 0x11) / 2 ^ 32))
      ∧ (∀ x, x ≠ (targetOf a.addr).base + 0x10 → (b = .str → x ≠ (targetOf a.addr).base + R.STR_CNT_COUNT.off + 4 * 0x12) →
          (∀ e ∈ (s.arrived a).live, e.1 ≠ x) → t.rd x = s.rd x)

/-- AN INDIRECT ACCESS THAT FINDS NO REGISTER, OR NO CLOCK (R48, R49): the oldest access of the queue leaves it; a write is discarded and a read returns 0
with UNMAPPED set, or all ones in the bytes it asked for with TIMEOUT set; no other register changes. -/
def Obligations.IndirectAccessWithoutRegisterOrClock : Prop :=
  ∀ (s : State) (base d t : Nat) (b : Blk) (x : IndOp) (rest : List IndOp), s.todo = [] →
    s.indBlk base = some (d, t, b) → s.indQ base = x :: rest →
    (s.indClock d t b x.addr = true → s.indRow d b x.addr = none →
      ∃ u, exec (.indWriteApply base) s = .next u ∧ u.indQ base = rest
        ∧ u.rd (base + 0x20) = (s.evt base R.HDR_IND_STAT_E [R.HDR_IND_STAT_UNMAPPED]).rd (base + 0x20)
        ∧ (∀ y, y ≠ base + 0x20 → u.rd y = s.rd y)
        ∧ u.out = s.out ++ (match x with | .write _ _ _ _ => [] | .read _ _ _ => [.readDone (base + 0x1C) 0]))
    ∧ (s.indClock d t b x.addr = false →
      ∃ u, exec (.indAccessTimeout base) s = .next u ∧ u.indQ base = rest
        ∧ u.rd (base + 0x20) = (s.evt base R.HDR_IND_STAT_E [R.HDR_IND_STAT_TIMEOUT]).rd (base + 0x20)
        ∧ (∀ y, y ≠ base + 0x20 → u.rd y = s.rd y)
        ∧ u.out = s.out ++ (match x with | .write _ _ _ _ => [] | .read _ m _ => [.readDone (base + 0x1C) (0xFFFFFFFF &&& m)]))

/-- TMR INJECTION (R333, R51): FLT_TMR_INJ inverts one copy of a triplicated bit, which no read of the register shows; a second injection into the same bit
before the scrub is refused with INJ_REFUSED; a write of the register restores all three copies. -/
def Obligations.TmrInjectionIsOutvoted : Prop :=
  ∀ (s : State) (d sa bit copy : Nat) (r : RegRow), r.tmrBit bit = true → copy ≠ 0 →
    ((∀ e ∈ s.tmr, ¬(e.1 = sa ∧ e.2.1 = bit)) →
      (s.tmrInject d (some r) sa bit copy).tmr = s.tmr ++ [(sa, bit, copy)] ∧ ∀ x, (s.tmrInject d (some r) sa bit copy).rd x = s.rd x)
    ∧ ((∃ e ∈ s.tmr, e.1 = sa ∧ e.2.1 = bit) →
      (s.tmrInject d (some r) sa bit copy) = s.evt (fltB d) R.FLT_EVT_E [R.FLT_EVT_INJ_REFUSED])
    ∧ (∀ (m w : Word), m.getLsbD bit = true → ∀ e ∈ (s.store sa m w).tmr, ¬(e.1 = sa ∧ e.2.1 = bit))

/-! ### Mailboxes (R63 to R76) -/

/-- A DOORBELL (R68): each slot rung while FREE becomes POSTED with its command's TAG and the level, range and port of the write; a slot rung in another
state stays as it is and MBX_ERR records RING_BUSY; slots that are not rung, the other windows' slots, and every register but MBX_ERR and response
areas of this window keep their values. -/
def Obligations.DoorbellPostsTheFreeSlots : Prop :=
  ∀ (s : State) (a : WAcc) (r : RegRow) (sa w : Nat), Reaches s a .mbx r sa → w < 4 → a.addr = mbxBase w + 0x40 → s.todo = [] →
    ∃ t, exec (.mbxDoorbell a) s = .next t
      ∧ (∀ k < 16, a.val.getLsbD k = true → (s.slot w k).st = SlotSt.free →
          (t.slot w k).st = SlotSt.posted ∧ (t.slot w k).tag = s.cp w k 2 2 ∧ (t.slot w k).level = (s.grantOf a.port a.rid).level
          ∧ (t.slot w k).base = (s.grantOf a.port a.rid).base ∧ (t.slot w k).count = (s.grantOf a.port a.rid).count ∧ (t.slot w k).port = a.port)
      ∧ (∀ k < 16, (a.val.getLsbD k = false ∨ (s.slot w k).st ≠ SlotSt.free) → t.slot w k = s.slot w k)
      ∧ (∀ w' k, w' ≠ w → k < 16 → t.slot w' k = s.slot w' k)
      ∧ ((∃ k < 16, a.val.getLsbD k = true ∧ (s.slot w k).st ≠ SlotSt.free) → (t.rd (mbxBase w + R.MBX_ERR_E.off)).getLsbD R.MBX_ERR_RING_BUSY.lo = true)
      ∧ (∀ x, x ≠ mbxBase w + R.MBX_ERR_E.off → (∀ k < 16, x < rspBase w k ∨ rspBase w k + 256 ≤ x) → t.rd x = s.rd x)
      ∧ t.chans = s.chans ∧ t.recs = s.recs ∧ t.journal = s.journal

/-- A RELEASE (R70): a slot that is DONE becomes FREE and keeps its command area; the bit of any other slot is ignored and MBX_ERR records REL_EARLY. -/
def Obligations.ReleaseFreesTheDoneSlots : Prop :=
  ∀ (s : State) (a : WAcc) (r : RegRow) (sa w : Nat), Reaches s a .mbx r sa → w < 4 → a.addr = mbxBase w + 0x44 → s.todo = [] →
    ∃ t, exec (.mbxRelease a) s = .next t
      ∧ (∀ k < 16, a.val.getLsbD k = true → (s.slot w k).st = SlotSt.done →
          (t.slot w k).st = SlotSt.free ∧ (∀ o < 64, t.rd (cmdBase w k + 4 * o) = s.rd (cmdBase w k + 4 * o)))
      ∧ (∀ k < 16, (a.val.getLsbD k = false ∨ (s.slot w k).st ≠ SlotSt.done) → t.slot w k = s.slot w k)
      ∧ ((∃ k < 16, a.val.getLsbD k = true ∧ (s.slot w k).st ≠ SlotSt.done) → (t.rd (mbxBase w + R.MBX_ERR_E.off)).getLsbD R.MBX_ERR_REL_EARLY.lo = true)
      ∧ (∀ x, x ≠ mbxBase w + R.MBX_ERR_E.off → (∀ k < 16, x < rspBase w k ∨ rspBase w k + 256 ≤ x) → t.rd x = s.rd x)

/-- COMMAND WORDS (R66, R68): a plain write of a command word of a FREE slot stores it; of any other slot it is discarded and MBX_ERR records WRITE_LOCKED
with the slot; no other register changes. -/
def Obligations.CommandWordsAreWrittenOnlyWhileFree : Prop :=
  ∀ (s : State) (a : WAcc) (r : RegRow) (sa w k o : Nat), Reaches s a .mbx r sa → w < 4 → k < 16 → o < 64 → a.addr = cmdBase w k + 4 * o → s.todo = [] →
    ((s.slot w k).st = SlotSt.free →
      ∃ t, exec (.commandAreaWrite (accWrite a)) s = .next t ∧ t.rd a.addr = a.val ∧ (∀ x, x ≠ a.addr → t.rd x = s.rd x) ∧ t.slots = s.slots)
    ∧ ((s.slot w k).st ≠ SlotSt.free →
      ∃ t, exec (.commandAreaWrite (accWrite a)) s = .next t
        ∧ t.rd (mbxBase w + R.MBX_ERR_E.off)
            = (s.evt (mbxBase w) R.MBX_ERR_E [R.MBX_ERR_WRITE_LOCKED] [(R.MBX_ERR_SLOT, k)]).rd (mbxBase w + R.MBX_ERR_E.off)
        ∧ (∀ x, x ≠ mbxBase w + R.MBX_ERR_E.off → t.rd x = s.rd x) ∧ t.slots = s.slots)

/-- A COMMAND THAT IS ACCEPTED ENDS DONE (R65, R67, R75), whichever row it is: with the body's state t and result, the slot becomes DONE, the response area
holds OK with the TAG, OPCODE, EPOCH and result, a state-changing command is entered in the journal, and every register outside the response area but
MBX_DONE_EV is as the body left it. A state-changing command is accepted once the other clusters in service can confirm it (R62). -/
def Obligations.AcceptedCommandEndsDone : Prop :=
  ∀ (s t : State) (w k opc : Nat) (res : List Byte) (row : CmdRow), cmdRow opc = some row → (t.slot w k).st = SlotSt.running → t.todo = [] →
    t.part = s.part → (row.query = true ∨ s.confirmed = true) →
    ((s.answered w k opc (.ok t res)).slot w k).st = SlotSt.done
    ∧ (∀ i < 64, (s.answered w k opc (.ok t res)).rd (rspBase w k + 4 * i)
        = BitVec.ofNat 32 (leAt (rspBytes stOK (t.slot w k).tag (t.opcode w k) 0 0 t.epoch res) (4 * i) 4))
    ∧ (row.query = false → tget (s.answered w k opc (.ok t res)).journal (slotKey w k)
        = some { opcode := t.opcode w k, tag := (t.slot w k).tag, status := stOK, detail := 0, result := res })
    ∧ (row.query = true → (s.answered w k opc (.ok t res)).journal = t.journal)
    ∧ (∀ x, x ≠ mbxBase w + R.MBX_DONE_EV_E.off → (x < rspBase w k ∨ rspBase w k + 256 ≤ x) → (s.answered w k opc (.ok t res)).rd x = t.rd x)
    ∧ (s.answered w k opc (.ok t res)).chans = t.chans ∧ (s.answered w k opc (.ok t res)).grps = t.grps
    ∧ (s.answered w k opc (.ok t res)).ctxs = t.ctxs ∧ (s.answered w k opc (.ok t res)).vols = t.vols

/-- A COMMAND THAT FAILS A CHECK CHANGES NOTHING (R72) but its slot, which ends DONE with the status and DETAIL (R65): no register outside its response area
but MBX_DONE_EV, no journal entry, no stream, record, group, context or volume. -/
def Obligations.RefusedCommandChangesNothing : Prop :=
  ∀ (s : State) (w k opc status detail : Nat) (res : List Byte), s.todo = [] →
    ((s.answered w k opc (.err status detail res)).slot w k).st = SlotSt.done
    ∧ (∀ i < 64, (s.answered w k opc (.err status detail res)).rd (rspBase w k + 4 * i)
        = BitVec.ofNat 32 (leAt (rspBytes status (s.slot w k).tag (s.opcode w k) detail 0 s.epoch res) (4 * i) 4))
    ∧ (∀ x, x ≠ mbxBase w + R.MBX_DONE_EV_E.off → (x < rspBase w k ∨ rspBase w k + 256 ≤ x) →
        (s.answered w k opc (.err status detail res)).rd x = s.rd x)
    ∧ (∀ w' k', k < 16 → k' < 16 → (w', k') ≠ (w, k) → (s.answered w k opc (.err status detail res)).slot w' k' = s.slot w' k')
    ∧ (s.answered w k opc (.err status detail res)).journal = s.journal ∧ (s.answered w k opc (.err status detail res)).chans = s.chans
    ∧ (s.answered w k opc (.err status detail res)).recs = s.recs ∧ (s.answered w k opc (.err status detail res)).grps = s.grps
    ∧ (s.answered w k opc (.err status detail res)).ctxs = s.ctxs ∧ (s.answered w k opc (.err status detail res)).vols = s.vols
    ∧ (s.answered w k opc (.err status detail res)).boot = s.boot ∧ (s.answered w k opc (.err status detail res)).epoch = s.epoch

/-- A REISSUED COMMAND THAT THE JOURNAL HOLDS IS NOT RUN AGAIN (R75): when firmware starts it, its slot ends DONE with the recorded status and result and
RFLAGS.JOURNAL, and no register outside its response area but MBX_DONE_EV changes. -/
def Obligations.ReissuedCommandIsAnsweredFromTheJournal : Prop :=
  ∀ (s : State) (w k : Nat) (e : JEntry), w < 4 → k < 16 → (s.slot w k).st = SlotSt.posted → s.leaderSt = ldRUNNING → s.boot.recovery = false →
    s.waits w k = false → (s.setSlot w k { s.slot w k with st := .running }).preCheck w k = none → tbit (s.flagsOf w k) 0 = true →
    tget s.journal (slotKey w k) = some e → e.opened = false → e.opcode = s.opcode w k → e.tag = (s.slot w k).tag → s.todo = [] →
    ∃ t, exec (.commandStart w k) s = .next t ∧ (t.slot w k).st = SlotSt.done
      ∧ (∀ i < 64, t.rd (rspBase w k + 4 * i)
          = BitVec.ofNat 32 (leAt (rspBytes e.status e.tag e.opcode e.detail 1 s.epoch e.result) (4 * i) 4))
      ∧ (∀ x, x ≠ mbxBase w + R.MBX_DONE_EV_E.off → (x < rspBase w k ∨ rspBase w k + 256 ≤ x) → t.rd x = s.rd x)
      ∧ t.journal = s.journal ∧ t.chans = s.chans ∧ t.recs = s.recs ∧ t.ctxs = s.ctxs

/-- A FAULT REACTION ABORTS THE COMMANDS IN FLIGHT (R74): EPOCH advances; every slot POSTED or RUNNING becomes DONE, and word 0 of its response area reads
ABORTED_REISSUE with its TAG; every other slot stays as it is, and so does the journal. -/
def Obligations.ReactionAbortsTheCommandsInFlight : Prop :=
  ∀ s : State, s.abortAll.epoch = (s.epoch + 1) % 0x1000000 ∧ s.abortAll.journal = s.journal
    ∧ (∀ w k, w < 4 → k < 16 → (s.slot w k).inFlight = true →
        (s.abortAll.slot w k).st = SlotSt.done
        ∧ s.abortAll.rd (rspBase w k) = BitVec.ofNat 32 (leAt (rspBytes stABORTED (s.slot w k).tag (s.opcode w k) 0 0 s.abortAll.epoch []) 0 4))
    ∧ (∀ w k, w < 4 → k < 16 → (s.slot w k).inFlight = false → s.abortAll.slot w k = s.slot w k)

/-- THE KNOT BOOK IS REWRITTEN (R31) by firmware that runs: from an even GEN it first makes GEN odd and changes nothing else; from an odd GEN it ends with GEN
at the next even value, KNB_LEN and KNB_CRC those of the body, which is the new description of the part; no other register changes. -/
def Obligations.KnotBookRewriteEndsEven : Prop :=
  ∀ s : State, s.leaderSt = ldRUNNING → s.todo = [] →
    (s.g knbBase R.KNB_GEN_GEN % 2 = 0 →
      ∃ t, exec .knotBookRewrite s = .next t ∧ t.g knbBase R.KNB_GEN_GEN = s.g knbBase R.KNB_GEN_GEN + 1 ∧ t.knb = s.knb
        ∧ (∀ x, x ≠ knbBase + R.KNB_GEN_GEN.off → t.rd x = s.rd x) ∧ t.slots = s.slots ∧ t.chans = s.chans)
    ∧ (s.g knbBase R.KNB_GEN_GEN % 2 = 1 → s.knotBook.length < 2 ^ 20 →
      ∃ t, exec .knotBookRewrite s = .next t ∧ t.knb = s.knotBook
        ∧ t.g knbBase R.KNB_GEN_GEN % 2 = 0 ∧ t.g knbBase R.KNB_GEN_GEN = (s.g knbBase R.KNB_GEN_GEN + 1) % 2 ^ 32
        ∧ t.g knbBase R.KNB_LEN_LEN = s.knotBook.length ∧ t.g knbBase R.KNB_CRC_CRC = crc32c s.knotBook % 2 ^ 32
        ∧ (∀ x, x < knbBase ∨ knbBase + 0x20 ≤ x → t.rd x = s.rd x) ∧ t.slots = s.slots ∧ t.chans = s.chans)

/-! ### One rule of each family -/

/-- LNQ_HOLDMAX (R90's record of the longest wait): a plain write with CLR clears the lane's register; without CLR nothing changes; no other register does. -/
def Obligations.HoldmaxClearsOnlyTheLanesRecord : Prop :=
  ∀ (s : State) (a : WAcc) (r : RegRow) (sa : Nat), Reaches s a .lnq r sa → 0x60 ≤ (targetOf a.addr).off → (targetOf a.addr).off < 0x70 → s.todo = [] →
    ∃ t, exec (.holdmaxClear a) s = .next t ∧ t.rd sa = (if a.val.getLsbD 31 then 0 else s.rd sa)
      ∧ (∀ x, x ≠ sa → t.rd x = s.rd x) ∧ t.lanes = s.lanes ∧ t.links = s.links ∧ t.out = s.out

/-- A WRITE OF STR_DEADLINE (R123) stores STR_DEADMIN for a value below it and sets DEADLINE_RAISED, stores STR_DEADMAX for a value above it and sets
DEADLINE_LIMITED, and else stores the value; no register but STR_DEADLINE and STR_EVT changes, and no line that waits. -/
def Obligations.StrandDeadlineStaysInItsBounds : Prop :=
  ∀ (s : State) (a : WAcc) (r : RegRow) (sa : Nat), Reaches s a .str r sa → (targetOf a.addr).off = 0x64 → s.todo = [] →
    ∃ t, exec (.strDeadlineWrite a) s = .next t
      ∧ t.g (targetOf a.addr).base R.STR_DEADLINE_DEADLINE
          = (if bits a.val 23 0 < s.g (targetOf a.addr).base R.STR_DEADMIN_DEADMIN then s.g (targetOf a.addr).base R.STR_DEADMIN_DEADMIN
             else if s.g (targetOf a.addr).base R.STR_DEADMAX_DEADMAX < bits a.val 23 0 then s.g (targetOf a.addr).base R.STR_DEADMAX_DEADMAX
             else bits a.val 23 0)
      ∧ t.rd ((targetOf a.addr).base + R.STR_EVT_E.off)
          = (if bits a.val 23 0 < s.g (targetOf a.addr).base R.STR_DEADMIN_DEADMIN
             then (s.evt (targetOf a.addr).base R.STR_EVT_E [R.STR_EVT_DEADLINE_RAISED] [(R.STR_EVT_STREAM, 0)]).rd ((targetOf a.addr).base + R.STR_EVT_E.off)
             else if s.g (targetOf a.addr).base R.STR_DEADMAX_DEADMAX < bits a.val 23 0
             then (s.evt (targetOf a.addr).base R.STR_EVT_E [R.STR_EVT_DEADLINE_LIMITED] [(R.STR_EVT_STREAM, 0)]).rd ((targetOf a.addr).base + R.STR_EVT_E.off)
             else s.rd ((targetOf a.addr).base + R.STR_EVT_E.off))
      ∧ (∀ x, x ≠ sa → x ≠ (targetOf a.addr).base + R.STR_EVT_E.off → t.rd x = s.rd x) ∧ t.chans = s.chans ∧ t.out = s.out

/-- R188 WHOLE: a 20-bit value becomes an N-bit value as min((v + 2^(19 - N)) >> (20 - N), 2^N - 1) for N below 20 and stays v for N = 20, and each
plane of the colour formats (RGB at 8, 16 and 10 bits) is converted in the same way, in its own bits of the pixel. -/
def Obligations.NarrowingRoundsAndSaturates : Prop :=
  (∀ v n : Nat, v < 2 ^ 20 → n < 20 → toBits v n = min ((v + 2 ^ (19 - n)) >>> (20 - n)) (2 ^ n - 1))
  ∧ (∀ v : Nat, toBits v 20 = v)
  ∧ (∀ f n : Nat, (f = 0x10 ∧ n = 8) ∨ (f = 0x11 ∧ n = 16) ∨ (f = 0x12 ∧ n = 10) → ∀ a b c : Nat,
      fmtPixel f [a, b, c] % 2 ^ n = toBits a n ∧ fmtPixel f [a, b, c] / 2 ^ n % 2 ^ n = toBits b n
        ∧ fmtPixel f [a, b, c] / 2 ^ (2 * n) = toBits c n)

/-- STA_QMAX (R204's queue): a plain write with CLR set clears MAX; without it nothing changes; no other register does, and no queue. -/
def Obligations.QueueMaximumClearsOnlyWhenAsked : Prop :=
  ∀ (s : State) (a : WAcc) (r : RegRow) (sa : Nat), Reaches s a .sta r sa → (targetOf a.addr).off = 0x44 → s.todo = [] →
    ∃ t, exec (.qmaxClear a) s = .next t
      ∧ t.g (targetOf a.addr).base R.STA_QMAX_MAX = (if a.val.getLsbD 31 then 0 else s.g (targetOf a.addr).base R.STA_QMAX_MAX)
      ∧ (∀ x, x ≠ sa → t.rd x = s.rd x) ∧ t.stas = s.stas ∧ t.chans = s.chans

/-- A WRITE OF SPL_GRP_DEADLINE (R219) below DEADMIN stores DEADMIN and sets DEADLINE_RAISED with the group; else it stores the value; no other register
changes, and no open line. -/
def Obligations.SpliceDeadlineIsRaisedToItsMinimum : Prop :=
  ∀ (s : State) (a : WAcc) (r : RegRow) (sa g : Nat), Reaches s a .spl r sa → g < 8 → (targetOf a.addr).off = 0x10C + 0x40 * g → s.todo = [] →
    ∃ t, exec (.splDeadlineWrite a) s = .next t
      ∧ bits (t.rd sa) 23 0 = max (bits a.val 23 0) (s.g ((targetOf a.addr).base + 0x40 * g) R.SPL_GRP_DEADMIN_DEADMIN)
      ∧ t.rd ((targetOf a.addr).base + R.SPL_EVT_E.off)
          = (if bits a.val 23 0 < s.g ((targetOf a.addr).base + 0x40 * g) R.SPL_GRP_DEADMIN_DEADMIN
             then (s.evt (targetOf a.addr).base R.SPL_EVT_E [R.SPL_EVT_DEADLINE_RAISED] [(R.SPL_EVT_GROUP, 8 * (targetOf a.addr).die + g)]).rd
               ((targetOf a.addr).base + R.SPL_EVT_E.off)
             else s.rd ((targetOf a.addr).base + R.SPL_EVT_E.off))
      ∧ (∀ x, x ≠ sa → x ≠ (targetOf a.addr).base + R.SPL_EVT_E.off → t.rd x = s.rd x) ∧ t.grps = s.grps

/-- AN ACKNOWLEDGEMENT THAT ACKNOWLEDGES NOTHING NEW (R242): written to CSM_ACK for a context bound on the die, a sequence at or behind ACKED_SEQ changes no
register and no record, and one beyond DONE_SEQ only records ACK_AHEAD. -/
def Obligations.StaleOrEarlyAcknowledgementsAdvanceNothing : Prop :=
  ∀ (s : State) (a : WAcc) (r : RegRow) (sa : Nat), Reaches s a .csm r sa → (targetOf a.addr).off = 0x44 → s.todo = [] →
    s.cbound (a.val.toNat % 4096) = true → s.ctxDie (a.val.toNat % 4096) = (targetOf a.addr).die →
    (((a.val.toNat / 4096 + 2 ^ 20 - s.cg (a.val.toNat % 4096) R.CSM_CTX_ACKED_SEQ) % 2 ^ 20 = 0
        ∨ 2 ^ 19 ≤ (a.val.toNat / 4096 + 2 ^ 20 - s.cg (a.val.toNat % 4096) R.CSM_CTX_ACKED_SEQ) % 2 ^ 20) →
      ∃ t, exec (.csmAckWrite a) s = .next t ∧ t.recs = s.recs ∧ ∀ x, t.rd x = s.rd x)
    ∧ ((a.val.toNat / 4096 + 2 ^ 20 - s.cg (a.val.toNat % 4096) R.CSM_CTX_ACKED_SEQ) % 2 ^ 20 ≠ 0 →
        (a.val.toNat / 4096 + 2 ^ 20 - s.cg (a.val.toNat % 4096) R.CSM_CTX_ACKED_SEQ) % 2 ^ 20 < 2 ^ 19 →
        (s.cg (a.val.toNat % 4096) R.CSM_CTX_DONE_SEQ + 2 ^ 20 - s.cg (a.val.toNat % 4096) R.CSM_CTX_ACKED_SEQ) % 2 ^ 20
          < (a.val.toNat / 4096 + 2 ^ 20 - s.cg (a.val.toNat % 4096) R.CSM_CTX_ACKED_SEQ) % 2 ^ 20 →
      ∃ t, exec (.csmAckWrite a) s = .next t ∧ t.recs = s.recs
        ∧ t.rd ((targetOf a.addr).base + R.CSM_EVT_E.off) = (s.csmEvt (a.val.toNat % 4096) R.CSM_EVT_ACK_AHEAD).rd ((targetOf a.addr).base + R.CSM_EVT_E.off)
        ∧ ∀ x, x ≠ (targetOf a.addr).base + R.CSM_EVT_E.off → t.rd x = s.rd x)

/-- A DMA DOORBELL (R260): a producer index that posts more descriptors than the ring holds, or one for a ring that is not configured, is not taken and
sets DB_BAD with the ring; another becomes PI, in the ring and in DMA_DB; no other register of the part changes but those of the descriptor read that may
follow, which a ring that may not fetch does not begin. -/
def Obligations.DmaDoorbellTakesOnlyAFittingIndex : Prop :=
  ∀ (s : State) (a : WAcc) (r : RegRow) (sa k : Nat), Reaches s a .dma r sa → k < 1024 → (targetOf a.addr).off = 0x1000 + 4 * k → s.todo = [] →
    ((s.ringSt (targetOf a.addr).die k = 0
        ∨ s.ringN (targetOf a.addr).die k < (bits a.val 15 0 + 65536 - s.rg (targetOf a.addr).die k R.DMA_RING_IDX_CI) % 65536
        ∨ s.ringN (targetOf a.addr).die k < (bits a.val 15 0 + 65536 - s.rg (targetOf a.addr).die k R.DMA_RING_IDX_PI) % 65536) →
      ∃ t, exec (.dmaDoorbell a) s = .next t
        ∧ t.rd ((targetOf a.addr).base + R.DMA_EVT_E.off) = (s.dmaEvt (targetOf a.addr).die k R.DMA_EVT_DB_BAD).rd ((targetOf a.addr).base + R.DMA_EVT_E.off)
        ∧ (∀ x, x ≠ (targetOf a.addr).base + R.DMA_EVT_E.off → t.rd x = s.rd x) ∧ t.rings = s.rings)
    ∧ (s.ringSt (targetOf a.addr).die k ≠ 0 →
        (bits a.val 15 0 + 65536 - s.rg (targetOf a.addr).die k R.DMA_RING_IDX_CI) % 65536 ≤ s.ringN (targetOf a.addr).die k →
        (bits a.val 15 0 + 65536 - s.rg (targetOf a.addr).die k R.DMA_RING_IDX_PI) % 65536 ≤ s.ringN (targetOf a.addr).die k →
      ∃ t, exec (.dmaDoorbell a) s = .next t ∧ t.rg (targetOf a.addr).die k R.DMA_RING_IDX_PI = bits a.val 15 0
        ∧ t.rg (targetOf a.addr).die k R.DMA_RING_IDX_CI = s.rg (targetOf a.addr).die k R.DMA_RING_IDX_CI
        ∧ t.g (dmaB (targetOf a.addr).die + 4 * k) R.DMA_DB_PI = bits a.val 15 0
        ∧ (∀ x, x ≠ ringBase (targetOf a.addr).die k + R.DMA_RING_IDX_PI.off → x ≠ dmaB (targetOf a.addr).die + 4 * k + R.DMA_DB_PI.off →
            x ≠ dmaB (targetOf a.addr).die + R.DMA_TRK_USED.off → x ≠ dmaB (targetOf a.addr).die + R.DMA_EVT_E.off → t.rd x = s.rd x)
        ∧ (s.canFetch (targetOf a.addr).die k = false → t.rings = s.rings ∧ t.out = s.out
            ∧ t.rd (dmaB (targetOf a.addr).die + R.DMA_TRK_USED.off) = s.rd (dmaB (targetOf a.addr).die + R.DMA_TRK_USED.off)
            ∧ t.rd (dmaB (targetOf a.addr).die + R.DMA_EVT_E.off) = s.rd (dmaB (targetOf a.addr).die + R.DMA_EVT_E.off))
        ∧ t.recs = s.recs ∧ t.ctxs = s.ctxs)

/-- A RECEIVED FRAME THAT IS NEITHER A MESSAGE OF A FLOW NOR ONE THE MAC ANSWERS is discarded (R274): the MAC's counts of received and of discarded frames
advance by 1 each, and nothing else changes; on a MAC whose link is down nothing does. -/
def Obligations.DiscardedFramesAreOnlyCounted : Prop :=
  ∀ (s : State) (d m : Nat), s.dieUp d = true → m < 8 → s.todo = [] →
    (s.ethUp d m = true → exec (.ethFrameRxDiscard d m) s = .next ((s.bump (ethCnt d m 1)).bump (ethCnt d m 13)))
    ∧ (s.ethUp d m = false → exec (.ethFrameRxDiscard d m) s = .next s)

/-- A CHANGE OF INC TAKES EFFECT IN ITS TURN (R285): when the oldest change on the time sideband is a value of INC, the counter uses it from then on and the
others stay in order; the counter's value, every stream and every register but TIME_INC stay, which shows it on every die that runs (the model's choice,
log entry 228). -/
def Obligations.TimeIncrementChangesInItsTurn : Prop :=
  ∀ (s : State) (v : Nat) (rest : List TimeChg), s.clock.changes = .inc v :: rest → s.todo = [] →
    ∃ t, exec .timeChangeApply s = .next t ∧ t.clock = { s.clock with changes := rest, inc := v }
      ∧ (∀ d < s.nd, s.dieUp d = true → t.g (timeI d) R.TIME_INC_LO_FRAC = v % 2 ^ 32)
      ∧ (∀ x, (∀ d < s.nd, x ≠ timeI d + R.TIME_INC_LO_FRAC.off ∧ x ≠ timeI d + R.TIME_INC_HI_NS.off) → t.rd x = s.rd x)
      ∧ t.chans = s.chans ∧ t.gens = s.gens ∧ t.launches = s.launches ∧ t.out = s.out

/-- A COIL MESSAGE THAT ANSWERS NOTHING (R274, R302, R308): one whose UDP checksum is wrong is a discarded frame of its MAC; one whose header does not name the
volume, its target and SESSION, and a write response for no shard write that waits, advance the count of ignored messages of the volume's engine beside
the MAC's count of frames; on a MAC whose link is down nothing changes (log entry 234). -/
def Obligations.CoilResponseForNoWriteIsOnlyCounted : Prop :=
  ∀ (s : State) (v : Nat) (r : CoilRx), v < 16 → s.todo = [] →
    (s.ethUp r.die r.mac = false → exec (.coilResponseRx v r) s = .next s)
    ∧ (s.ethUp r.die r.mac = true → s.coilSumBad v r = true →
        exec (.coilResponseRx v r) s = .next ((s.bump (ethCnt r.die r.mac 1)).bump (ethCnt r.die r.mac 13)))
    ∧ (s.ethUp r.die r.mac = true → s.coilSumBad v r = false → (s.vol v).bound.isSome = true →
        (s.coilNames v r = false
          ∨ (leAt r.udp.bytes 3 1 = 2 ∧ ∀ t ∈ (s.vol v).stripes, ∀ h ∈ t.shards,
              ¬(h.tgt = r.tgt ∧ h.xid = leAt r.udp.bytes 12 4 ∧ h.st ≠ .absent))) →
        exec (.coilResponseRx v r) s = .next ((s.bump (ethCnt r.die r.mac 1)).bump (colCnt (s.vol v).die 8)))

/-- WEB_LOAD (R134): a plain write of WEB_LOAD_CTRL with GO arms a load of the value in WEB_LOAD_LO and WEB_LOAD_HI, applied as AT says; no other source,
no other register and no generator changes; without GO only AT is stored. -/
def Obligations.WebLoadIsArmedByGo : Prop :=
  ∀ (s : State) (a : WAcc) (r : RegRow) (sa u : Nat), Reaches s a .web r sa → u < 4 → (targetOf a.addr).off = 0x110 + 0x40 * u → s.todo = [] →
    ∃ t, exec (.webLoadGo a) s = .next t
      ∧ (t.source (4 * (targetOf a.addr).die + u)).load
          = (if a.val.getLsbD 0 then
               some (wrapCoord (((s.g ((targetOf a.addr).base + 0x40 * u) R.WEB_LOAD_HI_INT_HI * 65536
                 + s.g ((targetOf a.addr).base + 0x40 * u) R.WEB_LOAD_LO_INT_LO : Nat) : Int) * 65536), a.val.getLsbD 1)
             else (s.source (4 * (targetOf a.addr).die + u)).load)
      ∧ (∀ i, i ≠ 4 * (targetOf a.addr).die + u → t.source i = s.source i)
      ∧ (t.rd sa).getLsbD 1 = a.val.getLsbD 1 ∧ (∀ x, x ≠ sa → t.rd x = s.rd x) ∧ t.gens = s.gens

/-- AN EVENT OF A SOURCE AT SEVERITY LOG (R316, R318) whose PEND is clear sets PEND with the level, records its INFO, counts on the source and on the die, and
does nothing else: no reaction, no interrupt call while FLT_IRQ.MINLEV is above LOG, no other register. -/
def Obligations.LoggedEventIsOnlyRecorded : Prop :=
  ∀ (s : State) (d src inst info : Nat), d < s.nd → srcValid d src inst = true → s.gb (srcBase d src inst) R.FLT_SRC_STAT_PEND = false →
    s.g (srcBase d src inst) R.FLT_SRC_SEV_SEV = 0 → 0 < s.g fltpBase R.FLT_IRQ_MINLEV → info < 2 ^ 32 →
    (s.raise d src inst info).gb (srcBase d src inst) R.FLT_SRC_STAT_PEND = true
    ∧ (s.raise d src inst info).g (srcBase d src inst) R.FLT_SRC_STAT_LEVEL = 0
    ∧ (s.raise d src inst info).g (srcBase d src inst) R.FLT_SRC_INFO_INFO = info
    ∧ (s.raise d src inst info).cnt (srcBase d src inst + R.FLT_SRC_CNT_COUNT.off) = s.cnt (srcBase d src inst + R.FLT_SRC_CNT_COUNT.off) + 1
    ∧ (s.raise d src inst info).cnt (fltB d + 0x80) = s.cnt (fltB d + 0x80) + 1
    ∧ (∀ x, x ≠ srcBase d src inst + R.FLT_SRC_STAT_E.off → x ≠ srcBase d src inst + R.FLT_SRC_INFO_INFO.off →
        (s.raise d src inst info).rd x = s.rd x)
    ∧ (s.raise d src inst info).todo = s.todo ∧ (s.raise d src inst info).out = s.out ∧ (s.raise d src inst info).srcs = s.srcs

/-- TXB_CTL.ABORT (R345): a PENDING buffer ends at once as ABORTED; an ACTIVE one keeps its outcome and its registers and is marked to be ABORTED if its
attempt does not succeed; a write of the words of a buffer whose REQ is 1 is discarded (the buffer's words stay). -/
def Obligations.AbortEndsAPendingBufferAtOnce : Prop :=
  ∀ (s : State) (d b : Nat) (v : Word), s.gb (txbB d b) R.TXB_CTL_REQ = true →
    (v.getLsbD 30 = true → s.txOut d b ≠ 2 → (txbCtlApply d b v s).txOut d b = 5 ∧ (txbCtlApply d b v s).gb (txbB d b) R.TXB_CTL_REQ = false)
    ∧ (v.getLsbD 30 = true → s.txOut d b = 2 →
        (∀ x, (txbCtlApply d b v s).rd x = s.rd x) ∧ (tgetD (txbCtlApply d b v s).cans d {}).abort = true)
    ∧ (v.getLsbD 30 = false → ∀ x, x ≠ canB d + R.CAN_EVT_E.off → (txbCtlApply d b v s).rd x = s.rd x)
    ∧ (∀ a x, x ≠ canB d + R.CAN_EVT_E.off → (txbWordApply d b a v s).rd x = s.rd x)

/-- CAN BIT TIMING (R339): a value outside the ranges, or whose rate exceeds its limit, leaves CAN_NBT or CAN_DBT as it is and sets TIMING_BAD; another is
stored with its defined bits; no other register changes. -/
def Obligations.CanTimingOutOfRangeIsNotStored : Prop :=
  ∀ (s : State) (d : Nat) (v : Word),
    (nbtOk v = false → (canTimingApply d 4 v s).rd (canI d + 4) = s.rd (canI d + 4)
      ∧ ((canTimingApply d 4 v s).rd (canB d + R.CAN_EVT_E.off)).getLsbD R.CAN_EVT_TIMING_BAD.lo = true)
    ∧ (dbtOk v = false → (canTimingApply d 8 v s).rd (canI d + 8) = s.rd (canI d + 8)
      ∧ ((canTimingApply d 8 v s).rd (canB d + R.CAN_EVT_E.off)).getLsbD R.CAN_EVT_TIMING_BAD.lo = true)
    ∧ (nbtOk v = true → (canTimingApply d 4 v s).rd (canI d + 4) = v &&& nbtMask ∧ ∀ x, x ≠ canI d + 4 → (canTimingApply d 4 v s).rd x = s.rd x)
    ∧ (dbtOk v = true → (canTimingApply d 8 v s).rd (canI d + 8) = v &&& dbtMask ∧ ∀ x, x ≠ canI d + 8 → (canTimingApply d 8 v s).rd x = s.rd x)

/-- A WRITE OF MFP_CFG THAT NO PIN CAN TAKE (R366): an undefined function or index sets FUNC_BAD with the pin, an input function that another pin of the die
carries sets CONFLICT; the pin's settings and every other register stay. -/
def Obligations.PinSettingsThatConflictAreRefused : Prop :=
  ∀ (s : State) (a : WAcc) (r : RegRow) (sa p : Nat), Reaches s a .mfp r sa → p < 48 → (targetOf a.addr).off = 0x100 + 4 * p → s.todo = [] →
    (funcOk (bits a.val 5 0) (bits a.val 11 8) = false →
      ∃ t, exec (.mfpCfgWrite a) s = .next t
        ∧ t.rd ((targetOf a.addr).base + R.MFP_EVT_E.off)
            = (s.evt (targetOf a.addr).base R.MFP_EVT_E [R.MFP_EVT_FUNC_BAD] [(R.MFP_EVT_PIN, p)]).rd ((targetOf a.addr).base + R.MFP_EVT_E.off)
        ∧ ∀ x, x ≠ (targetOf a.addr).base + R.MFP_EVT_E.off → t.rd x = s.rd x)
    ∧ (funcOk (bits a.val 5 0) (bits a.val 11 8) = true →
        s.inputHeld (targetOf a.addr).die p (bits a.val 5 0) (bits a.val 11 8) = true →
      ∃ t, exec (.mfpCfgWrite a) s = .next t
        ∧ t.rd ((targetOf a.addr).base + R.MFP_EVT_E.off)
            = (s.evt (targetOf a.addr).base R.MFP_EVT_E [R.MFP_EVT_CONFLICT] [(R.MFP_EVT_PIN, p)]).rd ((targetOf a.addr).base + R.MFP_EVT_E.off)
        ∧ ∀ x, x ≠ (targetOf a.addr).base + R.MFP_EVT_E.off → t.rd x = s.rd x)

/-- TEST-LOGIC-RESET (R378, R379) leaves every TAP of the chain, the package's and that of each present die, on IDCODE, and changes nothing else. -/
def Obligations.TestLogicResetSelectsIdcode : Prop :=
  ∀ s : State, s.todo = [] → ∃ t, exec .testLogicReset s = .next t ∧ (∀ k ≤ s.nd, tget t.taps k = some TapIr.idcode)
    ∧ (∀ k, s.nd < k → tget t.taps k = tget s.taps k) ∧ { t with taps := s.taps } = s

/-! ### Where every command completes -/

/-- EVERY COMMAND OF register access COMPLETES: each row of the family answers a next state, the one that its own effect gives, under conditions on the
state and the operands alone. -/
def Obligations.RegisterCommandsComplete : Prop :=
  (∀ (s : State) (x : Access), s.dieUp x.port = true → x.addr + x.len ≤ 0x40000000
    → exec (.registerWrite x) s = .next (((s.accessWords x).settle).keeps (s.accessWords x)))
  ∧ (∀ s a b r sa, Reaches s a b r sa → 0x4000 ≤ (targetOf a.addr).off
    → exec (.aliasWrite a) s = .next (s.written a fun u => u.writeReg (u.grantOf a.port a.rid) a.port a.rid (targetOf a.addr) b sa r a.val))
  ∧ (∀ s a b r sa, Reaches s a b r sa → r.isSeq = true
    → exec (.seqClear a) s = .next (s.written a fun u => u.writeReg (u.grantOf a.port a.rid) a.port a.rid (targetOf a.addr) b sa r a.val))
  ∧ (∀ s a b r sa, Reaches s a b r sa → (targetOf a.addr).plain = 4
    → exec (.blockEnableWrite a) s
      = .next (s.written a fun u => u.writeEn (targetOf a.addr) b (formOf (targetOf a.addr).off) a.val (u.grantOf a.port a.rid).level))
  ∧ (∀ (s : State) (base : Nat), base < 0x20000000 → s.dieUp (base / 0x4000000) = true
    → exec (.blockQuiesce base) s = .next (s.reacted (blockQuiesceF base)))
  ∧ (∀ (s : State) (base : Nat), 0x20000000 ≤ base → exec (.blockQuiesce base) s = .next s)
  ∧ (∀ s a b r sa, Reaches s a b r sa → (targetOf a.addr).off = 0xC → a.val.getLsbD 0 = true
    → exec (.counterSnapshot a) s
      = .next (s.written a fun u => u.snapshot (targetOf a.addr).die (targetOf a.addr).slot b (targetOf a.addr).base))
  ∧ (∀ (s : State) (a : WAcc), s.dieUp a.port = true → a.addr % 4 = 0 → a.addr + 4 ≤ 0x40000000 → isIndData a = true
    → exec (.indDataRead a) s = .next (((s.accessWords (accRead a)).settle).keeps (s.accessWords (accRead a))))
  ∧ (∀ s a b r sa, Reaches s a b r sa → (targetOf a.addr).off = 0x1C → b.hasInd = true
    → exec (.indDataWrite a) s = .next (s.written a fun u => u.indPost (targetOf a.addr).base a.val (u.grantOf a.port a.rid).level a.port))
  ∧ (∀ (s : State) (base : Nat), base < 0x20000000 → s.dieUp (base / 0x4000000) = true
    → exec (.indWriteApply base) s = .next (s.reacted (indApplyF base)))
  ∧ (∀ (s : State) (base : Nat), 0x20000000 ≤ base → exec (.indWriteApply base) s = .next s)
  ∧ (∀ (s : State) (base : Nat), base < 0x20000000 → s.dieUp (base / 0x4000000) = true
    → exec (.indAccessTimeout base) s = .next (s.reacted (indTimeoutF base)))
  ∧ (∀ (s : State) (base : Nat), 0x20000000 ≤ base → exec (.indAccessTimeout base) s = .next s)
  ∧ (∀ (die : Nat), Happens (.tmrScrub die) die true (tmrScrubF die))
  ∧ (∀ s a r sa, Reaches s a .prt r sa → a.addr = prtBase + 0x40 → a.val.getLsbD 0 = true → s.commitOk a.port a.rid = true
    → exec (.prtCommit a) s = .next ({ s.arrived a with commits := s.commits ++ [{ table := s.stagedPrt }] } : State).settled)
  ∧ (∀ s, exec .prtCommitComplete s = .next ((prtCompleteF s).own s))

/-- EVERY COMMAND OF Lanyard mailboxes, firmware and the Knot Book COMPLETES: each row of the family answers a next state, the one that its own effect gives, under conditions on the
state and the operands alone. -/
def Obligations.LanyardCommandsComplete : Prop :=
  (Lands .mbxDoorbell .mbx (· == 0x40) fun a _ _ u =>
    if plainForm a then doorbellSlots ((targetOf a.addr).slot - 4) (u.grantOf a.port a.rid).level (u.grantOf a.port a.rid).base
      (u.grantOf a.port a.rid).count a.port (a.val &&& 0xFFFF) u else u)
  ∧ (Lands .mbxRelease .mbx (· == 0x44) fun a _ _ u =>
    if plainForm a then releaseSlots ((targetOf a.addr).slot - 4) (a.val &&& 0xFFFF) u else u)
  ∧ (∀ (s : State) (x : Access), s.dieUp x.port = true → x.addr + x.len ≤ 0x40000000 → x.wr = true
    → (accWords x).all isCommandWord = true
    → exec (.commandAreaWrite x) s = .next (((s.accessWords x).settle).keeps (s.accessWords x)))
  ∧ (∀ (w slot : Nat), Occurs (.commandStart w slot) (w < 4 && slot < 16) (commandStartF w slot))
  ∧ (Carries (fun w k => .devNop w k) 0x000 devNopB)
  ∧ (Carries (fun w k => .devInfo w k) 0x001 devInfoB)
  ∧ (Carries (fun w k => .devSetWindowLevel w k) 0x003 devSetWindowLevelB)
  ∧ (Carries (fun w k => .devWarmReset w k) 0x004 devWarmResetB)
  ∧ (Carries (fun w k => .fwQuery w k) 0x010 fwQueryB)
  ∧ (∀ (image : List (BitVec 8)), Carries (fun w k => .fwStage w k image) 0x011 (fwStageB image))
  ∧ (Carries (fun w k => .fwVerify w k) 0x012 fwVerifyB)
  ∧ (Carries (fun w k => .fwActivate w k) 0x013 fwActivateB)
  ∧ (Carries (fun w k => .fwSetBoot w k) 0x014 fwSetBootB)
  ∧ (Carries (fun w k => .fwRevokeKey w k) 0x015 fwRevokeKeyB)
  ∧ (∀ (die : Nat), Happens (.clusterRestart die) die true (clusterRestartF die))
  ∧ (∀ (die : Nat), Happens (.clusterDeclaredFailed die) die true (clusterDeclaredFailedF die))
  ∧ (Occurs .leaderTakeover true leaderTakeoverF)
  ∧ (Occurs .knotBookRewrite true knotBookRewriteF)

/-- EVERY COMMAND OF the lanes COMPLETES: each row of the family answers a next state, the one that its own effect gives, under conditions on the
state and the operands alone. -/
def Obligations.LaneCommandsComplete : Prop :=
  (∀ (die lane : Nat) (inRange : Bool), Happens (.laneCalDone die lane inRange) die (lane < 68) (laneCalDoneF die lane inRange))
  ∧ (∀ (die : Nat) (x : LaneRx), Happens (.laneAligned die x) die (x.lane < 68) (laneAlignedF die x.lane x.words))
  ∧ (∀ (die : Nat) (x : LaneRx), Happens (.alignLoss die x) die (x.lane < 68) (alignLossF die x.lane x.words))
  ∧ (∀ (die lane : Nat) (step : CalStep), Happens (.backgroundCalStep die lane step) die (lane < 68) (backgroundCalF die lane step))
  ∧ (∀ (die lane unit : Nat), Happens (.transmitRequest die lane unit) die (lane < 68) (transmitRequestF die lane unit))
  ∧ (∀ (die lane : Nat), Happens (.headWake die lane) die (lane < 68) (headWakeF die lane))
  ∧ (∀ (die lane : Nat), Happens (.laneExitDone die lane) die (lane < 68) (laneExitDoneF die lane))
  ∧ (Lands .lnqLpWrite .lnq (· == 0x48) fun a r sa u =>
    lnqLpApply (targetOf a.addr).base (targetOf a.addr).die ((targetOf a.addr).slot - 0x20) (u.offer a r sa) u)
  ∧ (Lands .lnqPrbsInject .lnq (· == 0x50) fun a r sa u =>
    lnqPrbsApply (targetOf a.addr).base (targetOf a.addr).die ((targetOf a.addr).slot - 0x20) (u.offer a r sa) u)
  ∧ (Lands .holdmaxClear .lnq (fun o => 0x60 ≤ o && o < 0x70) fun a _ sa u =>
    if plainForm a then holdmaxApply sa a.val u else u)
  ∧ (∀ (die lane : Nat), Happens (.cdrLoss die lane) die (lane < 68) (cdrLossF die lane))
  ∧ (∀ (die lane : Nat) (pass : Bool), Happens (.selfCheckDone die lane pass) die (lane < 68) (selfCheckDoneF die lane pass))
  ∧ (∀ (die lane : Nat), Happens (.synthUnlock die lane) die (lane < 68) (synthUnlockF die lane))
  ∧ (∀ (die group : Nat), Happens (.spareTxAligned die group) die (group < 4) (spareTxAlignedF die group))
  ∧ (∀ (die group : Nat), Happens (.swapRxActive die group) die (group < 4) (swapRxActiveF die group))
  ∧ (Carries (fun w k => .laneQuery w k) 0x100 laneQueryB)
  ∧ (Carries (fun w k => .laneSetMode w k) 0x101 laneSetModeB)
  ∧ (Carries (fun w k => .laneSetPower w k) 0x102 laneSetPowerB)
  ∧ (∀ (bits errs relocks : Nat), Carries (fun w k => .lanePrbs w k bits errs relocks) 0x103 (lanePrbsB bits errs relocks))
  ∧ (Carries (fun w k => .laneSwap w k) 0x104 laneSwapB)
  ∧ (∀ (loopOk : Bool), Carries (fun w k => .laneRestore w k loopOk) 0x105 (laneRestoreB loopOk))
  ∧ (Carries (fun w k => .laneSetEq w k) 0x106 laneSetEqB)
  ∧ (∀ (inRange : Bool), Carries (fun w k => .laneRecal w k inRange) 0x107 (laneRecalB inRange))
  ∧ (∀ (die lane : Nat) (loss : Bool), Happens (.prbsCheckerRelock die lane loss) die (lane < 68) (prbsRelockF die lane loss))

/-- EVERY COMMAND OF Strand links COMPLETES: each row of the family answers a next state, the one that its own effect gives, under conditions on the
state and the operands alone. -/
def Obligations.StrandCommandsComplete : Prop :=
  (∀ (die lane : Nat) (r : RxWord), Happens (.codewordRx die lane r) die (lane < 68) (codewordRxF die lane r))
  ∧ (∀ (die lane : Nat), Happens (.nakRepeat die lane) die (lane < 68) (nakRepeatF die lane))
  ∧ (∀ (die lane : Nat), Happens (.ackSend die lane) die (lane < 68) (ackSendF die lane))
  ∧ (∀ (die lane : Nat) (body : List Byte), Happens (.linkFlitRx die lane body) die (lane < 68) (linkFlitRxF die lane body))
  ∧ (∀ (ch tag status len : Nat) (data : List Byte),
    Happens (.tunnelRspRx ch tag status len data) (ch / 24) true (tunnelRspRxF ch tag status len data))
  ∧ (∀ (ch tag : Nat), Happens (.tunnelTimeout ch tag) (ch / 24) true (tunnelTimeoutF ch tag))
  ∧ (∀ (ch code value : Nat), Happens (.eventFlitRx ch code value) (ch / 24) true (eventFlitRxF ch code value))
  ∧ (∀ (ch : Nat) (bytes : List Byte), Happens (.csi2PacketRx ch bytes) (ch / 24) true (csi2RxF ch bytes))
  ∧ (∀ (ch : Nat), Happens (.lineDeadline ch) (ch / 24) true (lineDeadlineF ch))
  ∧ (∀ (ch : Nat), Happens (.linkDown ch) (ch / 24) true (linkDownF ch))
  ∧ (∀ (ch : Nat), Happens (.streamRemoval ch) (ch / 24) true (streamRemovalF ch))
  ∧ (Lands .strDeadlineWrite .str (· == 0x64) fun a r sa u =>
    strDeadlineApply (24 * (targetOf a.addr).die + ((targetOf a.addr).slot - 0x40)) (u.offer a r sa) u)
  ∧ (Carries (fun w k => .strSetOpen w k) 0x200 strSetOpenB)
  ∧ (Carries (fun w k => .strSetAdd w k) 0x201 strSetAddB)
  ∧ (Carries (fun w k => .strSetCommit w k) 0x202 strSetCommitB)
  ∧ (Carries (fun w k => .strSetDiscard w k) 0x203 strSetDiscardB)
  ∧ (Carries (fun w k => .strRemove w k) 0x204 strRemoveB)
  ∧ (Carries (fun w k => .strTunnel w k) 0x205 strTunnelB)
  ∧ (Carries (fun w k => .strQuery w k) 0x206 strQueryB)

/-- EVERY COMMAND OF the web coordinate and the triggers COMPLETES: each row of the family answers a next state, the one that its own effect gives, under conditions on the
state and the operands alone. -/
def Obligations.WebCommandsComplete : Prop :=
  (∀ (die unit : Nat) (pins : EncPins), Happens (.encoderEdge die unit pins) die (unit < 4) (encoderEdgeF (4 * die + unit) pins))
  ∧ (Lands .webLoadGo .web (fun o => 0x100 ≤ o && o < 0x200 && (o - 0x100) % 0x40 == 0x10) fun a r sa u =>
    webLoadApply (4 * (targetOf a.addr).die + ((targetOf a.addr).plain - 0x100) / 0x40) (u.offer a r sa) u)
  ∧ (∀ (die unit : Nat), Happens (.encoderStall die unit) die (unit < 4) (encoderStallF (4 * die + unit)))
  ∧ (∀ (s : State) (die src : Nat), s.dieUp die = true → src < 4 * s.nd
    → exec (.replicaEdgeUpdate die src) s = .next (s.reacted (replicaEdgeF die src)))
  ∧ (∀ (s : State) (die src : Nat), s.dieUp die = true → src < 4 * s.nd
    → exec (.srcLost die src) s = .next (s.reacted (srcLostF die src)))
  ∧ (∀ (die : Nat), Happens (.timeAlignLoss die) die true (timeAlignLossF die))
  ∧ (∀ (gen : Nat), Happens (.triggerFire gen) (gen / 8) true (triggerFireAllF gen))
  ∧ (∀ (gen : Nat), Happens (.timeTrigger gen) (gen / 8) true (timeTriggerAllF gen))
  ∧ (Lands .trgArm .trg (fun o => 0x100 ≤ o && o < 0x300 && (o - 0x100) % 0x40 == 0x24) fun a _ _ u =>
    if plainForm a then trgArmApply (8 * (targetOf a.addr).die + ((targetOf a.addr).plain - 0x100) / 0x40) a.val u else u)
  ∧ (∀ (die out : Nat), Happens (.outputWindowStart die out) die (out < 16) (windowStartF die out))
  ∧ (∀ (die out : Nat), Happens (.outputWindowEnd die out) die (out < 16) (windowEndF die out))
  ∧ (∀ (die out : Nat), Happens (.delayLineExchange die out) die (out < 16) (delayExchangeF die out))
  ∧ (Carries (fun w k => .webSetEncoder w k) 0x300 webSetEncoderB)
  ∧ (Carries (fun w k => .webLoad w k) 0x301 webLoadB)
  ∧ (Carries (fun w k => .webQuery w k) 0x302 webQueryB)
  ∧ (Carries (fun w k => .trgSetGen w k) 0x310 trgSetGenB)
  ∧ (Carries (fun w k => .trgAttach w k) 0x311 trgAttachB)
  ∧ (Carries (fun w k => .trgStart w k) 0x312 trgStartB)
  ∧ (Carries (fun w k => .trgStop w k) 0x313 trgStopAllB)
  ∧ (Carries (fun w k => .trgSetPitch w k) 0x314 trgSetPitchB)
  ∧ (Carries (fun w k => .trgSetOutput w k) 0x315 trgSetOutputB)
  ∧ (Carries (fun w k => .trgQuery w k) 0x316 trgQueryB)

/-- EVERY COMMAND OF raw correction and colour reconstruction COMPLETES: each row of the family answers a next state, the one that its own effect gives, under conditions on the
state and the operands alone. -/
def Obligations.CorrectionCommandsComplete : Prop :=
  (∀ (die slice : Nat) (bad : List (Nat × Nat)), Happens (.sliceLineRead die slice bad) die (slice < 4) (sliceLineReadF die slice bad))
  ∧ (∀ (ch : Nat) (check : LineCheck), Happens (.lineRelease ch check) (ch / 24) true (lineReleaseF ch check))
  ∧ (∀ (die slice : Nat) (tenNs : Nat) (ringBad : List (Nat × Nat)), Happens (.takeoverDone die slice tenNs ringBad) die (slice < 4) (takeoverDoneF die slice tenNs ringBad))
  ∧ (∀ (ch : Nat), Happens (.stagedSetApply ch) (ch / 24) true (stagedSetApplyF ch))
  ∧ (Carries (fun w k => .corSetChannel w k) 0x400 corSetChannelB)
  ∧ (∀ (data : List (BitVec 8)), Carries (fun w k => .corLoadTable w k data) 0x401 (corLoadTableB data))
  ∧ (Carries (fun w k => .corApply w k) 0x402 corApplyB)
  ∧ (Carries (fun w k => .corDiscard w k) 0x403 corDiscardB)
  ∧ (Carries (fun w k => .corQuery w k) 0x404 corQueryB)
  ∧ (Carries (fun w k => .corSliceSwap w k) 0x405 corSliceSwapB)
  ∧ (Carries (fun w k => .dmsSetChannel w k) 0x410 dmsSetChannelB)
  ∧ (Carries (fun w k => .dmsSetTaps w k) 0x411 dmsSetTapsB)
  ∧ (Carries (fun w k => .dmsQuery w k) 0x412 dmsQueryB)

/-- EVERY COMMAND OF the statistics COMPLETES: each row of the family answers a next state, the one that its own effect gives, under conditions on the
state and the operands alone. -/
def Obligations.StatisticsCommandsComplete : Prop :=
  (∀ (die : Nat) (bad : List (Nat × Nat)), Happens (.staRecordDrain die bad) die true (staRecordDrainF die bad))
  ∧ (∀ (ch : Nat), Happens (.staConfigApply ch) (ch / 24) true (staConfigApplyF ch))
  ∧ (Lands .qmaxClear .sta (· == 0x44) fun a _ _ u =>
    if plainForm a then qmaxApply (targetOf a.addr).die a.val u else u)
  ∧ (Carries (fun w k => .staSetChannel w k) 0x500 staSetChannelB)
  ∧ (Carries (fun w k => .staQuery w k) 0x501 staQueryB)
  ∧ (Carries (fun w k => .staQueryDie w k) 0x502 staQueryDieB)

/-- EVERY COMMAND OF the splice engine COMPLETES: each row of the family answers a next state, the one that its own effect gives, under conditions on the
state and the operands alone. -/
def Obligations.SpliceCommandsComplete : Prop :=
  (∀ (die : Nat) (p : HandoffRx), Happens (.handoffPacketRx die p) die true (handoffRxF die p.src p.group p.bytes))
  ∧ (∀ (grp : Nat), Happens (.splLineDeadline grp) (grp / 8) true (splLineDeadlineF grp))
  ∧ (∀ (grp : Nat), Happens (.splCloseTimeout grp) (grp / 8) true (splCloseTimeoutF grp))
  ∧ (∀ (grp : Nat), Happens (.composeWaitExpiry grp) (grp / 8) true (composeWaitExpiryF grp))
  ∧ (∀ (grp : Nat), Happens (.splGroupApply grp) (grp / 8) true (splGroupApplyF grp))
  ∧ (Lands .splDeadlineWrite .spl (fun o => 0x100 ≤ o && o < 0x300 && (o - 0x100) % 0x40 == 0xC) fun a r sa u =>
    splDeadlineApply (8 * (targetOf a.addr).die + ((targetOf a.addr).plain - 0x100) / 0x40) (u.offer a r sa) u)
  ∧ (Carries (fun w k => .splSetGroup w k) 0x600 splSetGroupB)
  ∧ (Carries (fun w k => .splSetMember w k) 0x601 splSetMemberB)
  ∧ (Carries (fun w k => .splApply w k) 0x602 splApplyB)
  ∧ (Carries (fun w k => .splDiscard w k) 0x603 splDiscardB)
  ∧ (Carries (fun w k => .splRemove w k) 0x604 splRemoveB)
  ∧ (Carries (fun w k => .splQuery w k) 0x605 splQueryB)
  ∧ (∀ (grp : Nat), Happens (.composeStopWaitExpiry grp) (grp / 8) true (composeStopWaitF grp))

/-- EVERY COMMAND OF consumers and the holding store COMPLETES: each row of the family answers a next state, the one that its own effect gives, under conditions on the
state and the operands alone. -/
def Obligations.ConsumerCommandsComplete : Prop :=
  (∀ (path : PathKind) (die unit : Nat), Happens (.schedulerGrant path die unit) die (unit < match path with | .pcie => 4 | .eth => 8 | .coil => 1) (schedulerGrantF path die unit))
  ∧ (∀ (cons seq : Nat), Occurs (.recordExpire cons seq) (cons < 4096) (recordExpireF cons seq))
  ∧ (Lands .csmAckWrite .csm (· == 0x44) fun a r sa u =>
    csmAckApply (targetOf a.addr).die (u.offer a r sa) u)
  ∧ (∀ (cons : Nat), Occurs (.contextFree cons) (cons < 4096) (contextFreeAllF cons))
  ∧ (∀ (cons : Nat), Occurs (.bindingEffect cons) (cons < 4096) (bindingEffectF cons))
  ∧ (Carries (fun w k => .csmBind w k) 0x700 csmBindB)
  ∧ (Carries (fun w k => .csmUnbind w k) 0x701 csmUnbindB)
  ∧ (Carries (fun w k => .csmSetPriority w k) 0x702 csmSetPriorityB)
  ∧ (Carries (fun w k => .csmSetHold w k) 0x703 csmSetHoldB)
  ∧ (Carries (fun w k => .csmQuery w k) 0x704 csmQueryB)
  ∧ (Carries (fun w k => .hldQuery w k) 0x705 hldQueryB)

/-- EVERY COMMAND OF host attachment and DMA COMPLETES: each row of the family answers a next state, the one that its own effect gives, under conditions on the
state and the operands alone. -/
def Obligations.DmaCommandsComplete : Prop :=
  (Lands .dmaDoorbell .dma (fun o => 0x1000 ≤ o && o < 0x2000) fun a r sa u =>
    doorbellApply (targetOf a.addr).die (((targetOf a.addr).plain - 0x1000) / 4) (u.offer a r sa) u)
  ∧ (∀ (die ring : Nat) (ds : List Desc), Happens (.descriptorFetch die ring ds) die (ring < 1024) (descriptorFetchF die ring ds))
  ∧ (∀ (die ring : Nat) (ds : List Desc), Happens (.ownClearRefetch die ring ds) die (ring < 1024) (ownClearRefetchF die ring ds))
  ∧ (∀ (die ring : Nat), Happens (.flushReadIssue die ring) die (ring < 1024) (flushReadIssueF die ring))
  ∧ (∀ (die ring : Nat), Happens (.flushReadComplete die ring) die (ring < 1024) (flushReadCompleteF die ring))
  ∧ (∀ (die ring : Nat) (e : BusErr), Happens (.busError die ring e) die (ring < 1024) (busErrorF die ring e))
  ∧ (∀ (die ring : Nat), Happens (.ringInterrupt die ring) die (ring < 1024) (ringInterruptF die ring))
  ∧ (∀ s a r sa, Reaches s a .dma r sa → (targetOf a.addr).off = 0x128 → a.val.getLsbD 0 = true
    → exec (.dmaRingCtlRestart a) s
      = .next (s.written a fun u => ringCtlApply (targetOf a.addr).die (u.g (targetOf a.addr).base R.DMA_SEL_RING) a.val u))
  ∧ (∀ s a r sa, Reaches s a .dma r sa → (targetOf a.addr).off = 0x128 → a.val.getLsbD 1 = true
    → exec (.dmaRingCtlHalt a) s
      = .next (s.written a fun u => ringCtlApply (targetOf a.addr).die (u.g (targetOf a.addr).base R.DMA_SEL_RING) a.val u))
  ∧ (∀ (die : Nat), Happens (.trackerEntryGrant die) die true (trackerEntryGrantF die))
  ∧ (∀ (die : Nat), Happens (.pcieLinkDown die) die true (pcieLinkDownF die))
  ∧ (∀ (die : Nat), Happens (.busMasterDisable die) die true (busMasterDisableF die))
  ∧ (∀ (die : Nat), Happens (.functionLevelReset die) die true (functionLevelResetF die))
  ∧ (∀ (die speed width : Nat), Happens (.pcieLinkDegraded die speed width) die true (pcieLinkDegradedF die speed width))
  ∧ (Carries (fun w k => .dmaRingSetup w k) 0x800 dmaRingSetupB)
  ∧ (Carries (fun w k => .dmaRingFree w k) 0x801 dmaRingFreeB)
  ∧ (Carries (fun w k => .dmaRingRestart w k) 0x802 dmaRingRestartB)
  ∧ (Carries (fun w k => .dmaRingQuery w k) 0x803 dmaRingQueryB)
  ∧ (Carries (fun w k => .pciQuery w k) 0x804 pciQueryB)
  ∧ (Carries (fun w k => .pciSetPort w k) 0x805 pciSetPortB)
  ∧ (∀ (die speed width : Nat) (flit : Bool), Happens (.pcieLinkUp die speed width flit) die true (portLinkUpF die speed width flit))
  ∧ (∀ (die : Nat) (c : PciCfgWrite), Happens (.pciConfigWrite die c) die true (pciConfigWriteF die c))

/-- EVERY COMMAND OF Ethernet delivery and time COMPLETES: each row of the family answers a next state, the one that its own effect gives, under conditions on the
state and the operands alone. -/
def Obligations.EthernetCommandsComplete : Prop :=
  (∀ (die mac flow : Nat) (m : UdpRx), Happens (.ethStatusRx die mac flow m) die (mac < 8 && flow < 256) (ethStatusRxF die mac flow m))
  ∧ (∀ (die mac flow : Nat), Happens (.ethReceiptTimeout die mac flow) die (mac < 8 && flow < 256) (ethReceiptTimeoutF die mac flow))
  ∧ (∀ (die mac flow : Nat), Happens (.stalledResend die mac flow) die (mac < 8 && flow < 256) (stalledResendF die mac flow))
  ∧ (∀ (die mac : Nat), Happens (.ethLinkDown die mac) die (mac < 8) (ethLinkDownAllF die mac))
  ∧ (∀ (die mac : Nat), Happens (.ethLinkUp die mac) die (mac < 8) (fun s => if s.unitOut die 0x10 mac then s else ethLinkUpF die mac s))
  ∧ (∀ (die mac : Nat) (v6 : Bool) (target : Nat), Happens (.arpRequestRx die mac v6 target) die (mac < 8) (arpRequestRxF die mac v6 target))
  ∧ (∀ (die mac queue : Nat), Happens (.launchDue die mac queue) die (mac < 8 && queue < 4) (launchDueF die mac queue))
  ∧ (∀ (m : PtpRx), Occurs (.ptpMessageRx m) true (fun s => if s.unitOut 0 0x11 0 then s else ptpMessageRxF m s))
  ∧ (∀ (m : PtpTx), Occurs (.ptpMessageTx m) true (fun s => if s.unitOut 0 0x11 0 then s else ptpMessageTxF m s))
  ∧ (Occurs .secondsRollover true secondsRolloverF)
  ∧ (Occurs .calendarSetApply true calendarSetApplyF)
  ∧ (Occurs .timeChangeApply true timeChangeApplyF)
  ∧ (Posts .timeIncWrite .ptp (fun _ _ i => i == 4))
  ∧ (Posts .timeStepGo .ptp (fun _ _ i => i == 0x18))
  ∧ (Posts .calGo .ptp (fun _ _ i => i == 0x28))
  ∧ (∀ (die : Nat), Happens (.ppsInEdge die) die true (ppsInEdgeF die))
  ∧ (Carries (fun w k => .ethSetPort w k) 0x900 ethSetPortB)
  ∧ (Carries (fun w k => .ethSetFlow w k) 0x901 ethSetFlowB)
  ∧ (Carries (fun w k => .ethFlowFree w k) 0x902 ethFlowFreeB)
  ∧ (Carries (fun w k => .ethQuery w k) 0x903 ethQueryB)
  ∧ (∀ (frame : List (BitVec 8)), Carries (fun w k => .ethSend w k frame) 0x904 (ethSendB frame))
  ∧ (Carries (fun w k => .ptpSet w k) 0x910 ptpSetB)
  ∧ (Carries (fun w k => .ptpQuery w k) 0x911 ptpQueryB)
  ∧ (Carries (fun w k => .timeStep w k) 0x912 timeStepB)
  ∧ (Carries (fun w k => .timeSetInc w k) 0x913 timeSetIncB)
  ∧ (Carries (fun w k => .calSet w k) 0x914 calSetB)
  ∧ (Carries (fun w k => .ptpSetUtc w k) 0x915 ptpSetUtcB)
  ∧ (∀ (die mac : Nat), Happens (.ethFrameRxDiscard die mac) die (mac < 8) (ethDiscardF die mac))
  ∧ (Occurs .ptpAnnounceTimeout true (fun s => if s.unitOut 0 0x11 0 then s else ptpAnnounceTimeoutF s))

/-- EVERY COMMAND OF the Coil archive COMPLETES: each row of the family answers a next state, the one that its own effect gives, under conditions on the
state and the operands alone. -/
def Obligations.CoilCommandsComplete : Prop :=
  (∀ (vol : Nat), Occurs (.stripeSealTimeout vol) (vol < 16) (stripeSealTimeoutF vol))
  ∧ (∀ (vol : Nat) (r : CoilRx), Occurs (.coilResponseRx vol r) (vol < 16) (coilResponseRxF vol r))
  ∧ (∀ (vol stripe shard : Nat), Occurs (.shardTimeout vol stripe shard) (vol < 16) (shardTimeoutF vol stripe shard))
  ∧ (∀ (vol stripe shard : Nat), Occurs (.durableTimeout vol stripe shard) (vol < 16) (durableTimeoutF vol stripe shard))
  ∧ (∀ (vol tgt : Nat), Occurs (.targetProbe vol tgt) (vol < 16) (targetProbeF vol tgt))
  ∧ (∀ (vol : Nat), Occurs (.rebuildStripe vol) (vol < 16) (rebuildStripeF vol))
  ∧ (∀ (vol : Nat), Occurs (.replaceCopyStripe vol) (vol < 16) (replaceCopyStripeF vol))
  ∧ (Carries (fun w k => .coilTargetSet w k) 0xA00 coilTargetSetB)
  ∧ (Carries (fun w k => .coilTargetFree w k) 0xA01 coilTargetFreeB)
  ∧ (∀ (probes : List ProbeAns), Carries (fun w k => .coilVolSetup w k probes) 0xA02 (coilVolSetupB probes))
  ∧ (Carries (fun w k => .coilVolFree w k) 0xA03 coilVolFreeB)
  ∧ (∀ (probe : Option Nat), Carries (fun w k => .coilAddSpare w k probe) 0xA04 (coilAddSpareB probe))
  ∧ (Carries (fun w k => .coilReplace w k) 0xA05 coilReplaceB)
  ∧ (Carries (fun w k => .coilQuery w k) 0xA06 coilQueryB)
  ∧ (Carries (fun w k => .coilTargetQuery w k) 0xA07 coilTargetQueryB)
  ∧ (∀ (vol : Nat) (r : CoilRx), Occurs (.coilReadDataRx vol r) (vol < 16) (coilReadDataRxF vol r))

/-- EVERY COMMAND OF faults and sparing COMPLETES: each row of the family answers a next state, the one that its own effect gives, under conditions on the
state and the operands alone. -/
def Obligations.FaultCommandsComplete : Prop :=
  (∀ (die src inst info : Nat), Happens (.faultEvent die src inst info) die (srcValid die src inst) (faultEventF die src inst info))
  ∧ (∀ (die : Nat), Happens (.hbmSweepDone die) die true (hbmSweepDoneF die))
  ∧ (∀ (die mno row bit : Nat) (uncorr : Bool), Happens (.sramScrub die mno row bit uncorr) die (mno < 512) (sramScrubF die mno row bit uncorr))
  ∧ (∀ (die src inst : Nat), Happens (.faultEscalation die src inst) die (srcValid die src inst) (faultEscalationF die src inst))
  ∧ (Occurs .faultIrqHoldoffEnd true faultIrqHoldoffEndF)
  ∧ (Lands .fltSevWrite .flt (fun o => o == 0x100 || o == 0x104) fun a r sa u =>
    fltSevApply (targetOf a.addr).die (u.g (targetOf a.addr).base R.FLT_SEL_SRC) (u.g (targetOf a.addr).base R.FLT_SEL_INST)
      (targetOf a.addr).plain (u.offer a r sa) u)
  ∧ (Lands .fltSrcInjGo .flt (· == 0x11C) fun a r sa u =>
    fltSrcInjApply (targetOf a.addr).die (u.g (targetOf a.addr).base R.FLT_SEL_SRC) (u.g (targetOf a.addr).base R.FLT_SEL_INST)
      (u.offer a r sa) u)
  ∧ (Lands .fltTmrInjGo .flt (· == 0x4C) fun a r sa u =>
    u.writeFlt (targetOf a.addr) sa r (formOf (targetOf a.addr).off) a.val (u.offer a r sa) (u.grantOf a.port a.rid).level)
  ∧ (∀ (die : Nat), Happens (.heartbeatMiss die) die true (heartbeatMissF die))
  ∧ (∀ (die : Nat) (stack : Bool) (temp : Int), Happens (.tempThreshold die stack temp) die true (tempThresholdF die stack temp))
  ∧ (Occurs .referenceLoss true referenceLossF)
  ∧ (Carries (fun w k => .fltQuery w k) 0xB00 fltQueryB)
  ∧ (Carries (fun w k => .fltSetSeverity w k) 0xB01 fltSetSeverityB)
  ∧ (Carries (fun w k => .fltAck w k) 0xB02 fltAckB)
  ∧ (Carries (fun w k => .fltList w k) 0xB03 fltListB)
  ∧ (Carries (fun w k => .fltInject w k) 0xB04 fltInjectB)
  ∧ (∀ (pass : Bool), Carries (fun w k => .fltUnitReset w k pass) 0xB05 (fltUnitResetB pass))
  ∧ (Carries (fun w k => .fltDieReset w k) 0xB06 fltDieResetB)

/-- EVERY COMMAND OF the CAN controllers COMPLETES: each row of the family answers a next state, the one that its own effect gives, under conditions on the
state and the operands alone. -/
def Obligations.CanCommandsComplete : Prop :=
  (∀ (ch : Nat) (f : CanFrame), Happens (.canFrameRx ch f) ch true (canFrameRxF ch f))
  ∧ (∀ (ch : Nat), Happens (.canDetectDwellExpiry ch) ch true (canDwellExpiryF ch))
  ∧ (∀ (ch : Nat), Happens (.canArbitrationStart ch) ch true (canArbitrationStartF ch))
  ∧ (∀ (ch : Nat) (r : CanTxEnd), Happens (.canTxAttemptEnd ch r) ch true (canTxAttemptEndF ch r))
  ∧ (∀ (ch : Nat), Happens (.canRecoveryDone ch) ch true (canRecoveryDoneF ch))
  ∧ (∀ (ch : Nat) (wake : Bool), Happens (.canSleepEntry ch wake) ch true (canSleepEntryF ch wake))
  ∧ (∀ (ch : Nat) (k : CanWake), Happens (.canWakeEvent ch k) ch true (canWakeEventF ch k))
  ∧ (∀ (ch : Nat), Happens (.canIntegrationDone ch) ch true (canIntegrationDoneF ch))
  ∧ (Posts .txbRequest .can (fun _ a i => a.val.getLsbD 31 && 0x100 ≤ i && i < 0x220 && (i - 0x100) % 0x60 == 4))
  ∧ (Posts .txbAbort .can (fun _ a i => a.val.getLsbD 30 && 0x100 ≤ i && i < 0x220 && (i - 0x100) % 0x60 == 4))
  ∧ (Posts .canOpctlSleep .can (fun _ a i => a.val.getLsbD 0 && i == 0x10))
  ∧ (Posts .canOpctlWake .can (fun _ a i => a.val.getLsbD 1 && i == 0x10))
  ∧ (Posts .canOpctlRecover .can (fun _ a i => a.val.getLsbD 2 && i == 0x10))
  ∧ (Posts .canOpctlDetect .can (fun _ a i => a.val.getLsbD 3 && i == 0x10))
  ∧ (Posts .qGetWrite .can (fun s _ i => s.part.queueMode && (i == 0x804 || i == 0x814)))
  ∧ (Posts .objCfgWrite .can (fun s _ i => !s.part.queueMode && 0x400 ≤ i && i < 0x1C00 && (i - 0x400) % 0x60 == 0))
  ∧ (Posts .canTimingWrite .can (fun _ _ i => i == 4 || i == 8))
  ∧ (Carries (fun w k => .canSetPort w k) 0xC00 canSetPortB)
  ∧ (Carries (fun w k => .canSetFilter w k) 0xC01 canSetFilterB)
  ∧ (Carries (fun w k => .canSend w k) 0xC02 canSendB)
  ∧ (Carries (fun w k => .canRecv w k) 0xC03 canRecvB)
  ∧ (Carries (fun w k => .canQuery w k) 0xC04 canQueryB)
  ∧ (Carries (fun w k => .canDetect w k) 0xC05 canDetectB)
  ∧ (Carries (fun w k => .canSetWake w k) 0xC06 canSetWakeB)
  ∧ (Carries (fun w k => .canSleep w k) 0xC07 canSleepB)
  ∧ (Carries (fun w k => .canRecover w k) 0xC08 canRecoverB)
  ∧ (∀ (ch : Nat) (e : CanRxErr), Happens (.canRxError ch e) ch true (canRxErrorF ch e))

/-- EVERY COMMAND OF pins, start-up and test COMPLETES: each row of the family answers a next state, the one that its own effect gives, under conditions on the
state and the operands alone. -/
def Obligations.StartupCommandsComplete : Prop :=
  (∀ (s : State) (die rail level : Nat), die < s.nd → rail < 2 → railOk rail level = false →
      exec (.supplyExcursion die ⟨rail, level⟩) s = .next ((coldResetF s).own s))
  ∧ (∀ (s : State) (die rail level : Nat), s.dieUp die = true → 2 ≤ rail ∨ railOk rail level = true → rail < 10
      → exec (.supplyExcursion die ⟨rail, level⟩) s = .next (s.reacted (supplyExcursionF die rail level)))
  ∧ (Lands .mfpCfgWrite .mfp (fun o => 0x100 ≤ o && o < 0x1C0) fun a r sa u =>
    mfpCfgApply (targetOf a.addr).die (((targetOf a.addr).plain - 0x100) / 4) (u.offer a r sa) u)
  ∧ (∀ (die pin : Nat) (level : Bool), Happens (.mfpFunctionSwitch die pin level) die (pin < 48) (mfpSwitchF die pin level))
  ∧ (Carries (fun w k => .mfpSet w k) 0xD00 mfpSetB)
  ∧ (Carries (fun w k => .mfpQuery w k) 0xD01 mfpQueryB)
  ∧ (Carries (fun w k => .bootSetPlan w k) 0xD10 bootSetPlanB)
  ∧ (Carries (fun w k => .bootQuery w k) 0xD11 bootQueryB)
  ∧ (∀ s, exec .coldReset s = .next ((coldResetF s).own s))
  ∧ (∀ s cause, exec (.warmReset cause) s = .next ((warmResetF cause s).own s))
  ∧ (∀ (s : State) (die : Nat) (low : Bool), die < s.nd → exec (.portReset die low) s = .next (s.reacted (portResetF die low)))
  ∧ (∀ (flashModes flashRate : Nat) (failed : List Nat), Occurs (.resetRelease flashModes flashRate failed) true (resetReleaseF flashModes flashRate failed))
  ∧ (Occurs .bootReady true bootReadyF)
  ∧ (∀ (die : Nat), Happens (.lanesReadyTimeout die) die true (lanesReadyF die))
  ∧ (Occurs .testLogicReset true testLogicResetF)
  ∧ (∀ (tap : Tap) (ir : Nat) (s : State), s.hasTap tap = true → exec (.jtagBypass tap ir) s = .next (s.reacted (tapBypassF tap ir)))
  ∧ (∀ (tap : Tap) (s : State), s.hasTap tap = true → exec (.jtagIdcode tap) s = .next (s.reacted (tapLoadF tap .idcode)))
  ∧ (∀ (tap : Tap) (s : State), s.hasTap tap = true → exec (.jtagSamplePreload tap) s = .next (s.reacted (tapLoadF tap .sample)))
  ∧ (∀ (tap : Tap) (s : State), s.hasTap tap = true → exec (.jtagExtest tap) s = .next (s.reacted (tapLoadF tap .extest)))
  ∧ (∀ (tap : Tap) (s : State), s.hasTap tap = true → exec (.jtagClamp tap) s = .next (s.reacted (tapLoadF tap .clamp)))
  ∧ (∀ (tap : Tap) (s : State), s.hasTap tap = true → exec (.jtagHighz tap) s = .next (s.reacted (tapLoadF tap .highz)))
  ∧ (∀ (tap : Tap) (s : State), s.hasTap tap = true → exec (.jtagExtestPulse tap) s = .next (s.reacted (tapLoadF tap .extestPulse)))
  ∧ (∀ (tap : Tap) (s : State), s.hasTap tap = true → exec (.jtagExtestTrain tap) s = .next (s.reacted (tapLoadF tap .extestTrain)))
end

