-- ==== Sys2Proof/Laws/State.lean ====
section
/-!
SUPPORT. What each update of the state leaves alone: one lemma per field and update, so that no later proof unfolds a record update.
-/
namespace Sys2Proof.Machine
open Sys2Proof

/-! ### A register is stored -/

@[simp] theorem State.wr_part (s : State) (a : Nat) (v : Word) : (s.wr a v).part = s.part := (rfl)
@[simp] theorem State.wr_live (s : State) (a : Nat) (v : Word) : (s.wr a v).live = s.live := (rfl)
@[simp] theorem State.wr_inj (s : State) (a : Nat) (v : Word) : (s.wr a v).inj = s.inj := (rfl)
@[simp] theorem State.wr_tmr (s : State) (a : Nat) (v : Word) : (s.wr a v).tmr = s.tmr := (rfl)
@[simp] theorem State.wr_indq (s : State) (a : Nat) (v : Word) : (s.wr a v).indq = s.indq := (rfl)
@[simp] theorem State.wr_prt (s : State) (a : Nat) (v : Word) : (s.wr a v).prt = s.prt := (rfl)
@[simp] theorem State.wr_commits (s : State) (a : Nat) (v : Word) : (s.wr a v).commits = s.commits := (rfl)
@[simp] theorem State.wr_slots (s : State) (a : Nat) (v : Word) : (s.wr a v).slots = s.slots := (rfl)
@[simp] theorem State.wr_journal (s : State) (a : Nat) (v : Word) : (s.wr a v).journal = s.journal := (rfl)
@[simp] theorem State.wr_ringNo (s : State) (a : Nat) (v : Word) : (s.wr a v).ringNo = s.ringNo := (rfl)
@[simp] theorem State.wr_leader (s : State) (a : Nat) (v : Word) : (s.wr a v).leader = s.leader := (rfl)
@[simp] theorem State.wr_leaderSt (s : State) (a : Nat) (v : Word) : (s.wr a v).leaderSt = s.leaderSt := (rfl)
@[simp] theorem State.wr_epoch (s : State) (a : Nat) (v : Word) : (s.wr a v).epoch = s.epoch := (rfl)
@[simp] theorem State.wr_clusters (s : State) (a : Nat) (v : Word) : (s.wr a v).clusters = s.clusters := (rfl)
@[simp] theorem State.wr_isolated (s : State) (a : Nat) (v : Word) : (s.wr a v).isolated = s.isolated := (rfl)
@[simp] theorem State.wr_outUnits (s : State) (a : Nat) (v : Word) : (s.wr a v).outUnits = s.outUnits := (rfl)
@[simp] theorem State.wr_halted (s : State) (a : Nat) (v : Word) : (s.wr a v).halted = s.halted := (rfl)
@[simp] theorem State.wr_aliveOn (s : State) (a : Nat) (v : Word) : (s.wr a v).aliveOn = s.aliveOn := (rfl)
@[simp] theorem State.wr_irqAt (s : State) (a : Nat) (v : Word) : (s.wr a v).irqAt = s.irqAt := (rfl)
@[simp] theorem State.wr_irqHeld (s : State) (a : Nat) (v : Word) : (s.wr a v).irqHeld = s.irqHeld := (rfl)
@[simp] theorem State.wr_knb (s : State) (a : Nat) (v : Word) : (s.wr a v).knb = s.knb := (rfl)
@[simp] theorem State.wr_clock (s : State) (a : Nat) (v : Word) : (s.wr a v).clock = s.clock := (rfl)
@[simp] theorem State.wr_ptp (s : State) (a : Nat) (v : Word) : (s.wr a v).ptp = s.ptp := (rfl)
@[simp] theorem State.wr_boot (s : State) (a : Nat) (v : Word) : (s.wr a v).boot = s.boot := (rfl)
@[simp] theorem State.wr_jtagCe (s : State) (a : Nat) (v : Word) : (s.wr a v).jtagCe = s.jtagCe := (rfl)
@[simp] theorem State.wr_taps (s : State) (a : Nat) (v : Word) : (s.wr a v).taps = s.taps := (rfl)
@[simp] theorem State.wr_lanes (s : State) (a : Nat) (v : Word) : (s.wr a v).lanes = s.lanes := (rfl)
@[simp] theorem State.wr_lmap (s : State) (a : Nat) (v : Word) : (s.wr a v).lmap = s.lmap := (rfl)
@[simp] theorem State.wr_swaps (s : State) (a : Nat) (v : Word) : (s.wr a v).swaps = s.swaps := (rfl)
@[simp] theorem State.wr_links (s : State) (a : Nat) (v : Word) : (s.wr a v).links = s.links := (rfl)
@[simp] theorem State.wr_chans (s : State) (a : Nat) (v : Word) : (s.wr a v).chans = s.chans := (rfl)
@[simp] theorem State.wr_sets (s : State) (a : Nat) (v : Word) : (s.wr a v).sets = s.sets := (rfl)
@[simp] theorem State.wr_sources (s : State) (a : Nat) (v : Word) : (s.wr a v).sources = s.sources := (rfl)
@[simp] theorem State.wr_reps (s : State) (a : Nat) (v : Word) : (s.wr a v).reps = s.reps := (rfl)
@[simp] theorem State.wr_gens (s : State) (a : Nat) (v : Word) : (s.wr a v).gens = s.gens := (rfl)
@[simp] theorem State.wr_windows (s : State) (a : Nat) (v : Word) : (s.wr a v).windows = s.windows := (rfl)
@[simp] theorem State.wr_exch (s : State) (a : Nat) (v : Word) : (s.wr a v).exch = s.exch := (rfl)
@[simp] theorem State.wr_cors (s : State) (a : Nat) (v : Word) : (s.wr a v).cors = s.cors := (rfl)
@[simp] theorem State.wr_sliceQ (s : State) (a : Nat) (v : Word) : (s.wr a v).sliceQ = s.sliceQ := (rfl)
@[simp] theorem State.wr_smap (s : State) (a : Nat) (v : Word) : (s.wr a v).smap = s.smap := (rfl)
@[simp] theorem State.wr_stas (s : State) (a : Nat) (v : Word) : (s.wr a v).stas = s.stas := (rfl)
@[simp] theorem State.wr_staNext (s : State) (a : Nat) (v : Word) : (s.wr a v).staNext = s.staNext := (rfl)
@[simp] theorem State.wr_grps (s : State) (a : Nat) (v : Word) : (s.wr a v).grps = s.grps := (rfl)
@[simp] theorem State.wr_handoffs (s : State) (a : Nat) (v : Word) : (s.wr a v).handoffs = s.handoffs := (rfl)
@[simp] theorem State.wr_recs (s : State) (a : Nat) (v : Word) : (s.wr a v).recs = s.recs := (rfl)
@[simp] theorem State.wr_nextRec (s : State) (a : Nat) (v : Word) : (s.wr a v).nextRec = s.nextRec := (rfl)
@[simp] theorem State.wr_ctxs (s : State) (a : Nat) (v : Word) : (s.wr a v).ctxs = s.ctxs := (rfl)
@[simp] theorem State.wr_lastGrant (s : State) (a : Nat) (v : Word) : (s.wr a v).lastGrant = s.lastGrant := (rfl)
@[simp] theorem State.wr_rings (s : State) (a : Nat) (v : Word) : (s.wr a v).rings = s.rings := (rfl)
@[simp] theorem State.wr_msixFm (s : State) (a : Nat) (v : Word) : (s.wr a v).msixFm = s.msixFm := (rfl)
@[simp] theorem State.wr_vecs (s : State) (a : Nat) (v : Word) : (s.wr a v).vecs = s.vecs := (rfl)
@[simp] theorem State.wr_bars (s : State) (a : Nat) (v : Word) : (s.wr a v).bars = s.bars := (rfl)
@[simp] theorem State.wr_msixPend (s : State) (a : Nat) (v : Word) : (s.wr a v).msixPend = s.msixPend := (rfl)
@[simp] theorem State.wr_pciLim (s : State) (a : Nat) (v : Word) : (s.wr a v).pciLim = s.pciLim := (rfl)
@[simp] theorem State.wr_trkWait (s : State) (a : Nat) (v : Word) : (s.wr a v).trkWait = s.trkWait := (rfl)
@[simp] theorem State.wr_launches (s : State) (a : Nat) (v : Word) : (s.wr a v).launches = s.launches := (rfl)
@[simp] theorem State.wr_lastLaunch (s : State) (a : Nat) (v : Word) : (s.wr a v).lastLaunch = s.lastLaunch := (rfl)
@[simp] theorem State.wr_sessions (s : State) (a : Nat) (v : Word) : (s.wr a v).sessions = s.sessions := (rfl)
@[simp] theorem State.wr_vols (s : State) (a : Nat) (v : Word) : (s.wr a v).vols = s.vols := (rfl)
@[simp] theorem State.wr_srcs (s : State) (a : Nat) (v : Word) : (s.wr a v).srcs = s.srcs := (rfl)
@[simp] theorem State.wr_recon (s : State) (a : Nat) (v : Word) : (s.wr a v).recon = s.recon := (rfl)
@[simp] theorem State.wr_remaps (s : State) (a : Nat) (v : Word) : (s.wr a v).remaps = s.remaps := (rfl)
@[simp] theorem State.wr_corrected (s : State) (a : Nat) (v : Word) : (s.wr a v).corrected = s.corrected := (rfl)
@[simp] theorem State.wr_sevSet (s : State) (a : Nat) (v : Word) : (s.wr a v).sevSet = s.sevSet := (rfl)
@[simp] theorem State.wr_cans (s : State) (a : Nat) (v : Word) : (s.wr a v).cans = s.cans := (rfl)
@[simp] theorem State.wr_todo (s : State) (a : Nat) (v : Word) : (s.wr a v).todo = s.todo := (rfl)
@[simp] theorem State.wr_free (s : State) (a : Nat) (v : Word) : (s.wr a v).free = s.free := (rfl)
@[simp] theorem State.wr_out (s : State) (a : Nat) (v : Word) : (s.wr a v).out = s.out := (rfl)
@[simp] theorem State.wr_pending (s : State) (a : Nat) (v : Word) : (s.wr a v).pending = s.pending := (rfl)

/-! ### A field is stored -/

@[simp] theorem State.p_part (s : State) (b : Nat) (f : Fld) (v : Nat) : (s.p b f v).part = s.part := (rfl)
@[simp] theorem State.p_live (s : State) (b : Nat) (f : Fld) (v : Nat) : (s.p b f v).live = s.live := (rfl)
@[simp] theorem State.p_inj (s : State) (b : Nat) (f : Fld) (v : Nat) : (s.p b f v).inj = s.inj := (rfl)
@[simp] theorem State.p_indq (s : State) (b : Nat) (f : Fld) (v : Nat) : (s.p b f v).indq = s.indq := (rfl)
@[simp] theorem State.p_prt (s : State) (b : Nat) (f : Fld) (v : Nat) : (s.p b f v).prt = s.prt := (rfl)
@[simp] theorem State.p_commits (s : State) (b : Nat) (f : Fld) (v : Nat) : (s.p b f v).commits = s.commits := (rfl)
@[simp] theorem State.p_slots (s : State) (b : Nat) (f : Fld) (v : Nat) : (s.p b f v).slots = s.slots := (rfl)
@[simp] theorem State.p_journal (s : State) (b : Nat) (f : Fld) (v : Nat) : (s.p b f v).journal = s.journal := (rfl)
@[simp] theorem State.p_ringNo (s : State) (b : Nat) (f : Fld) (v : Nat) : (s.p b f v).ringNo = s.ringNo := (rfl)
@[simp] theorem State.p_leader (s : State) (b : Nat) (f : Fld) (v : Nat) : (s.p b f v).leader = s.leader := (rfl)
@[simp] theorem State.p_leaderSt (s : State) (b : Nat) (f : Fld) (v : Nat) : (s.p b f v).leaderSt = s.leaderSt := (rfl)
@[simp] theorem State.p_epoch (s : State) (b : Nat) (f : Fld) (v : Nat) : (s.p b f v).epoch = s.epoch := (rfl)
@[simp] theorem State.p_clusters (s : State) (b : Nat) (f : Fld) (v : Nat) : (s.p b f v).clusters = s.clusters := (rfl)
@[simp] theorem State.p_isolated (s : State) (b : Nat) (f : Fld) (v : Nat) : (s.p b f v).isolated = s.isolated := (rfl)
@[simp] theorem State.p_outUnits (s : State) (b : Nat) (f : Fld) (v : Nat) : (s.p b f v).outUnits = s.outUnits := (rfl)
@[simp] theorem State.p_halted (s : State) (b : Nat) (f : Fld) (v : Nat) : (s.p b f v).halted = s.halted := (rfl)
@[simp] theorem State.p_aliveOn (s : State) (b : Nat) (f : Fld) (v : Nat) : (s.p b f v).aliveOn = s.aliveOn := (rfl)
@[simp] theorem State.p_irqAt (s : State) (b : Nat) (f : Fld) (v : Nat) : (s.p b f v).irqAt = s.irqAt := (rfl)
@[simp] theorem State.p_irqHeld (s : State) (b : Nat) (f : Fld) (v : Nat) : (s.p b f v).irqHeld = s.irqHeld := (rfl)
@[simp] theorem State.p_knb (s : State) (b : Nat) (f : Fld) (v : Nat) : (s.p b f v).knb = s.knb := (rfl)
@[simp] theorem State.p_clock (s : State) (b : Nat) (f : Fld) (v : Nat) : (s.p b f v).clock = s.clock := (rfl)
@[simp] theorem State.p_ptp (s : State) (b : Nat) (f : Fld) (v : Nat) : (s.p b f v).ptp = s.ptp := (rfl)
@[simp] theorem State.p_boot (s : State) (b : Nat) (f : Fld) (v : Nat) : (s.p b f v).boot = s.boot := (rfl)
@[simp] theorem State.p_jtagCe (s : State) (b : Nat) (f : Fld) (v : Nat) : (s.p b f v).jtagCe = s.jtagCe := (rfl)
@[simp] theorem State.p_taps (s : State) (b : Nat) (f : Fld) (v : Nat) : (s.p b f v).taps = s.taps := (rfl)
@[simp] theorem State.p_lanes (s : State) (b : Nat) (f : Fld) (v : Nat) : (s.p b f v).lanes = s.lanes := (rfl)
@[simp] theorem State.p_lmap (s : State) (b : Nat) (f : Fld) (v : Nat) : (s.p b f v).lmap = s.lmap := (rfl)
@[simp] theorem State.p_swaps (s : State) (b : Nat) (f : Fld) (v : Nat) : (s.p b f v).swaps = s.swaps := (rfl)
@[simp] theorem State.p_links (s : State) (b : Nat) (f : Fld) (v : Nat) : (s.p b f v).links = s.links := (rfl)
@[simp] theorem State.p_chans (s : State) (b : Nat) (f : Fld) (v : Nat) : (s.p b f v).chans = s.chans := (rfl)
@[simp] theorem State.p_sets (s : State) (b : Nat) (f : Fld) (v : Nat) : (s.p b f v).sets = s.sets := (rfl)
@[simp] theorem State.p_sources (s : State) (b : Nat) (f : Fld) (v : Nat) : (s.p b f v).sources = s.sources := (rfl)
@[simp] theorem State.p_reps (s : State) (b : Nat) (f : Fld) (v : Nat) : (s.p b f v).reps = s.reps := (rfl)
@[simp] theorem State.p_gens (s : State) (b : Nat) (f : Fld) (v : Nat) : (s.p b f v).gens = s.gens := (rfl)
@[simp] theorem State.p_windows (s : State) (b : Nat) (f : Fld) (v : Nat) : (s.p b f v).windows = s.windows := (rfl)
@[simp] theorem State.p_exch (s : State) (b : Nat) (f : Fld) (v : Nat) : (s.p b f v).exch = s.exch := (rfl)
@[simp] theorem State.p_cors (s : State) (b : Nat) (f : Fld) (v : Nat) : (s.p b f v).cors = s.cors := (rfl)
@[simp] theorem State.p_sliceQ (s : State) (b : Nat) (f : Fld) (v : Nat) : (s.p b f v).sliceQ = s.sliceQ := (rfl)
@[simp] theorem State.p_smap (s : State) (b : Nat) (f : Fld) (v : Nat) : (s.p b f v).smap = s.smap := (rfl)
@[simp] theorem State.p_stas (s : State) (b : Nat) (f : Fld) (v : Nat) : (s.p b f v).stas = s.stas := (rfl)
@[simp] theorem State.p_staNext (s : State) (b : Nat) (f : Fld) (v : Nat) : (s.p b f v).staNext = s.staNext := (rfl)
@[simp] theorem State.p_grps (s : State) (b : Nat) (f : Fld) (v : Nat) : (s.p b f v).grps = s.grps := (rfl)
@[simp] theorem State.p_handoffs (s : State) (b : Nat) (f : Fld) (v : Nat) : (s.p b f v).handoffs = s.handoffs := (rfl)
@[simp] theorem State.p_recs (s : State) (b : Nat) (f : Fld) (v : Nat) : (s.p b f v).recs = s.recs := (rfl)
@[simp] theorem State.p_nextRec (s : State) (b : Nat) (f : Fld) (v : Nat) : (s.p b f v).nextRec = s.nextRec := (rfl)
@[simp] theorem State.p_ctxs (s : State) (b : Nat) (f : Fld) (v : Nat) : (s.p b f v).ctxs = s.ctxs := (rfl)
@[simp] theorem State.p_lastGrant (s : State) (b : Nat) (f : Fld) (v : Nat) : (s.p b f v).lastGrant = s.lastGrant := (rfl)
@[simp] theorem State.p_rings (s : State) (b : Nat) (f : Fld) (v : Nat) : (s.p b f v).rings = s.rings := (rfl)
@[simp] theorem State.p_msixFm (s : State) (b : Nat) (f : Fld) (v : Nat) : (s.p b f v).msixFm = s.msixFm := (rfl)
@[simp] theorem State.p_vecs (s : State) (b : Nat) (f : Fld) (v : Nat) : (s.p b f v).vecs = s.vecs := (rfl)
@[simp] theorem State.p_bars (s : State) (b : Nat) (f : Fld) (v : Nat) : (s.p b f v).bars = s.bars := (rfl)
@[simp] theorem State.p_msixPend (s : State) (b : Nat) (f : Fld) (v : Nat) : (s.p b f v).msixPend = s.msixPend := (rfl)
@[simp] theorem State.p_pciLim (s : State) (b : Nat) (f : Fld) (v : Nat) : (s.p b f v).pciLim = s.pciLim := (rfl)
@[simp] theorem State.p_trkWait (s : State) (b : Nat) (f : Fld) (v : Nat) : (s.p b f v).trkWait = s.trkWait := (rfl)
@[simp] theorem State.p_launches (s : State) (b : Nat) (f : Fld) (v : Nat) : (s.p b f v).launches = s.launches := (rfl)
@[simp] theorem State.p_lastLaunch (s : State) (b : Nat) (f : Fld) (v : Nat) : (s.p b f v).lastLaunch = s.lastLaunch := (rfl)
@[simp] theorem State.p_sessions (s : State) (b : Nat) (f : Fld) (v : Nat) : (s.p b f v).sessions = s.sessions := (rfl)
@[simp] theorem State.p_vols (s : State) (b : Nat) (f : Fld) (v : Nat) : (s.p b f v).vols = s.vols := (rfl)
@[simp] theorem State.p_srcs (s : State) (b : Nat) (f : Fld) (v : Nat) : (s.p b f v).srcs = s.srcs := (rfl)
@[simp] theorem State.p_recon (s : State) (b : Nat) (f : Fld) (v : Nat) : (s.p b f v).recon = s.recon := (rfl)
@[simp] theorem State.p_remaps (s : State) (b : Nat) (f : Fld) (v : Nat) : (s.p b f v).remaps = s.remaps := (rfl)
@[simp] theorem State.p_corrected (s : State) (b : Nat) (f : Fld) (v : Nat) : (s.p b f v).corrected = s.corrected := (rfl)
@[simp] theorem State.p_sevSet (s : State) (b : Nat) (f : Fld) (v : Nat) : (s.p b f v).sevSet = s.sevSet := (rfl)
@[simp] theorem State.p_cans (s : State) (b : Nat) (f : Fld) (v : Nat) : (s.p b f v).cans = s.cans := (rfl)
@[simp] theorem State.p_todo (s : State) (b : Nat) (f : Fld) (v : Nat) : (s.p b f v).todo = s.todo := (rfl)
@[simp] theorem State.p_free (s : State) (b : Nat) (f : Fld) (v : Nat) : (s.p b f v).free = s.free := (rfl)
@[simp] theorem State.p_out (s : State) (b : Nat) (f : Fld) (v : Nat) : (s.p b f v).out = s.out := (rfl)
@[simp] theorem State.p_pending (s : State) (b : Nat) (f : Fld) (v : Nat) : (s.p b f v).pending = s.pending := (rfl)

/-! ### A set event -/

@[simp] theorem State.evt_part (s : State) (b : Nat) (e : EvtReg) (l : List Fld) (c : List (Fld × Nat)) : (s.evt b e l c).part = s.part := (rfl)
@[simp] theorem State.evt_live (s : State) (b : Nat) (e : EvtReg) (l : List Fld) (c : List (Fld × Nat)) : (s.evt b e l c).live = s.live := (rfl)
@[simp] theorem State.evt_inj (s : State) (b : Nat) (e : EvtReg) (l : List Fld) (c : List (Fld × Nat)) : (s.evt b e l c).inj = s.inj := (rfl)
@[simp] theorem State.evt_tmr (s : State) (b : Nat) (e : EvtReg) (l : List Fld) (c : List (Fld × Nat)) : (s.evt b e l c).tmr = s.tmr := (rfl)
@[simp] theorem State.evt_indq (s : State) (b : Nat) (e : EvtReg) (l : List Fld) (c : List (Fld × Nat)) : (s.evt b e l c).indq = s.indq := (rfl)
@[simp] theorem State.evt_prt (s : State) (b : Nat) (e : EvtReg) (l : List Fld) (c : List (Fld × Nat)) : (s.evt b e l c).prt = s.prt := (rfl)
@[simp] theorem State.evt_commits (s : State) (b : Nat) (e : EvtReg) (l : List Fld) (c : List (Fld × Nat)) : (s.evt b e l c).commits = s.commits := (rfl)
@[simp] theorem State.evt_slots (s : State) (b : Nat) (e : EvtReg) (l : List Fld) (c : List (Fld × Nat)) : (s.evt b e l c).slots = s.slots := (rfl)
@[simp] theorem State.evt_journal (s : State) (b : Nat) (e : EvtReg) (l : List Fld) (c : List (Fld × Nat)) : (s.evt b e l c).journal = s.journal := (rfl)
@[simp] theorem State.evt_ringNo (s : State) (b : Nat) (e : EvtReg) (l : List Fld) (c : List (Fld × Nat)) : (s.evt b e l c).ringNo = s.ringNo := (rfl)
@[simp] theorem State.evt_leader (s : State) (b : Nat) (e : EvtReg) (l : List Fld) (c : List (Fld × Nat)) : (s.evt b e l c).leader = s.leader := (rfl)
@[simp] theorem State.evt_leaderSt (s : State) (b : Nat) (e : EvtReg) (l : List Fld) (c : List (Fld × Nat)) : (s.evt b e l c).leaderSt = s.leaderSt := (rfl)
@[simp] theorem State.evt_epoch (s : State) (b : Nat) (e : EvtReg) (l : List Fld) (c : List (Fld × Nat)) : (s.evt b e l c).epoch = s.epoch := (rfl)
@[simp] theorem State.evt_clusters (s : State) (b : Nat) (e : EvtReg) (l : List Fld) (c : List (Fld × Nat)) : (s.evt b e l c).clusters = s.clusters := (rfl)
@[simp] theorem State.evt_isolated (s : State) (b : Nat) (e : EvtReg) (l : List Fld) (c : List (Fld × Nat)) : (s.evt b e l c).isolated = s.isolated := (rfl)
@[simp] theorem State.evt_outUnits (s : State) (b : Nat) (e : EvtReg) (l : List Fld) (c : List (Fld × Nat)) : (s.evt b e l c).outUnits = s.outUnits := (rfl)
@[simp] theorem State.evt_halted (s : State) (b : Nat) (e : EvtReg) (l : List Fld) (c : List (Fld × Nat)) : (s.evt b e l c).halted = s.halted := (rfl)
@[simp] theorem State.evt_aliveOn (s : State) (b : Nat) (e : EvtReg) (l : List Fld) (c : List (Fld × Nat)) : (s.evt b e l c).aliveOn = s.aliveOn := (rfl)
@[simp] theorem State.evt_irqAt (s : State) (b : Nat) (e : EvtReg) (l : List Fld) (c : List (Fld × Nat)) : (s.evt b e l c).irqAt = s.irqAt := (rfl)
@[simp] theorem State.evt_irqHeld (s : State) (b : Nat) (e : EvtReg) (l : List Fld) (c : List (Fld × Nat)) : (s.evt b e l c).irqHeld = s.irqHeld := (rfl)
@[simp] theorem State.evt_knb (s : State) (b : Nat) (e : EvtReg) (l : List Fld) (c : List (Fld × Nat)) : (s.evt b e l c).knb = s.knb := (rfl)
@[simp] theorem State.evt_clock (s : State) (b : Nat) (e : EvtReg) (l : List Fld) (c : List (Fld × Nat)) : (s.evt b e l c).clock = s.clock := (rfl)
@[simp] theorem State.evt_ptp (s : State) (b : Nat) (e : EvtReg) (l : List Fld) (c : List (Fld × Nat)) : (s.evt b e l c).ptp = s.ptp := (rfl)
@[simp] theorem State.evt_boot (s : State) (b : Nat) (e : EvtReg) (l : List Fld) (c : List (Fld × Nat)) : (s.evt b e l c).boot = s.boot := (rfl)
@[simp] theorem State.evt_jtagCe (s : State) (b : Nat) (e : EvtReg) (l : List Fld) (c : List (Fld × Nat)) : (s.evt b e l c).jtagCe = s.jtagCe := (rfl)
@[simp] theorem State.evt_taps (s : State) (b : Nat) (e : EvtReg) (l : List Fld) (c : List (Fld × Nat)) : (s.evt b e l c).taps = s.taps := (rfl)
@[simp] theorem State.evt_lanes (s : State) (b : Nat) (e : EvtReg) (l : List Fld) (c : List (Fld × Nat)) : (s.evt b e l c).lanes = s.lanes := (rfl)
@[simp] theorem State.evt_lmap (s : State) (b : Nat) (e : EvtReg) (l : List Fld) (c : List (Fld × Nat)) : (s.evt b e l c).lmap = s.lmap := (rfl)
@[simp] theorem State.evt_swaps (s : State) (b : Nat) (e : EvtReg) (l : List Fld) (c : List (Fld × Nat)) : (s.evt b e l c).swaps = s.swaps := (rfl)
@[simp] theorem State.evt_links (s : State) (b : Nat) (e : EvtReg) (l : List Fld) (c : List (Fld × Nat)) : (s.evt b e l c).links = s.links := (rfl)
@[simp] theorem State.evt_chans (s : State) (b : Nat) (e : EvtReg) (l : List Fld) (c : List (Fld × Nat)) : (s.evt b e l c).chans = s.chans := (rfl)
@[simp] theorem State.evt_sets (s : State) (b : Nat) (e : EvtReg) (l : List Fld) (c : List (Fld × Nat)) : (s.evt b e l c).sets = s.sets := (rfl)
@[simp] theorem State.evt_sources (s : State) (b : Nat) (e : EvtReg) (l : List Fld) (c : List (Fld × Nat)) : (s.evt b e l c).sources = s.sources := (rfl)
@[simp] theorem State.evt_reps (s : State) (b : Nat) (e : EvtReg) (l : List Fld) (c : List (Fld × Nat)) : (s.evt b e l c).reps = s.reps := (rfl)
@[simp] theorem State.evt_gens (s : State) (b : Nat) (e : EvtReg) (l : List Fld) (c : List (Fld × Nat)) : (s.evt b e l c).gens = s.gens := (rfl)
@[simp] theorem State.evt_windows (s : State) (b : Nat) (e : EvtReg) (l : List Fld) (c : List (Fld × Nat)) : (s.evt b e l c).windows = s.windows := (rfl)
@[simp] theorem State.evt_exch (s : State) (b : Nat) (e : EvtReg) (l : List Fld) (c : List (Fld × Nat)) : (s.evt b e l c).exch = s.exch := (rfl)
@[simp] theorem State.evt_cors (s : State) (b : Nat) (e : EvtReg) (l : List Fld) (c : List (Fld × Nat)) : (s.evt b e l c).cors = s.cors := (rfl)
@[simp] theorem State.evt_sliceQ (s : State) (b : Nat) (e : EvtReg) (l : List Fld) (c : List (Fld × Nat)) : (s.evt b e l c).sliceQ = s.sliceQ := (rfl)
@[simp] theorem State.evt_smap (s : State) (b : Nat) (e : EvtReg) (l : List Fld) (c : List (Fld × Nat)) : (s.evt b e l c).smap = s.smap := (rfl)
@[simp] theorem State.evt_stas (s : State) (b : Nat) (e : EvtReg) (l : List Fld) (c : List (Fld × Nat)) : (s.evt b e l c).stas = s.stas := (rfl)
@[simp] theorem State.evt_staNext (s : State) (b : Nat) (e : EvtReg) (l : List Fld) (c : List (Fld × Nat)) : (s.evt b e l c).staNext = s.staNext := (rfl)
@[simp] theorem State.evt_grps (s : State) (b : Nat) (e : EvtReg) (l : List Fld) (c : List (Fld × Nat)) : (s.evt b e l c).grps = s.grps := (rfl)
@[simp] theorem State.evt_handoffs (s : State) (b : Nat) (e : EvtReg) (l : List Fld) (c : List (Fld × Nat)) : (s.evt b e l c).handoffs = s.handoffs := (rfl)
@[simp] theorem State.evt_recs (s : State) (b : Nat) (e : EvtReg) (l : List Fld) (c : List (Fld × Nat)) : (s.evt b e l c).recs = s.recs := (rfl)
@[simp] theorem State.evt_nextRec (s : State) (b : Nat) (e : EvtReg) (l : List Fld) (c : List (Fld × Nat)) : (s.evt b e l c).nextRec = s.nextRec := (rfl)
@[simp] theorem State.evt_ctxs (s : State) (b : Nat) (e : EvtReg) (l : List Fld) (c : List (Fld × Nat)) : (s.evt b e l c).ctxs = s.ctxs := (rfl)
@[simp] theorem State.evt_lastGrant (s : State) (b : Nat) (e : EvtReg) (l : List Fld) (c : List (Fld × Nat)) : (s.evt b e l c).lastGrant = s.lastGrant := (rfl)
@[simp] theorem State.evt_rings (s : State) (b : Nat) (e : EvtReg) (l : List Fld) (c : List (Fld × Nat)) : (s.evt b e l c).rings = s.rings := (rfl)
@[simp] theorem State.evt_msixFm (s : State) (b : Nat) (e : EvtReg) (l : List Fld) (c : List (Fld × Nat)) : (s.evt b e l c).msixFm = s.msixFm := (rfl)
@[simp] theorem State.evt_vecs (s : State) (b : Nat) (e : EvtReg) (l : List Fld) (c : List (Fld × Nat)) : (s.evt b e l c).vecs = s.vecs := (rfl)
@[simp] theorem State.evt_bars (s : State) (b : Nat) (e : EvtReg) (l : List Fld) (c : List (Fld × Nat)) : (s.evt b e l c).bars = s.bars := (rfl)
@[simp] theorem State.evt_msixPend (s : State) (b : Nat) (e : EvtReg) (l : List Fld) (c : List (Fld × Nat)) : (s.evt b e l c).msixPend = s.msixPend := (rfl)
@[simp] theorem State.evt_pciLim (s : State) (b : Nat) (e : EvtReg) (l : List Fld) (c : List (Fld × Nat)) : (s.evt b e l c).pciLim = s.pciLim := (rfl)
@[simp] theorem State.evt_trkWait (s : State) (b : Nat) (e : EvtReg) (l : List Fld) (c : List (Fld × Nat)) : (s.evt b e l c).trkWait = s.trkWait := (rfl)
@[simp] theorem State.evt_launches (s : State) (b : Nat) (e : EvtReg) (l : List Fld) (c : List (Fld × Nat)) : (s.evt b e l c).launches = s.launches := (rfl)
@[simp] theorem State.evt_lastLaunch (s : State) (b : Nat) (e : EvtReg) (l : List Fld) (c : List (Fld × Nat)) : (s.evt b e l c).lastLaunch = s.lastLaunch := (rfl)
@[simp] theorem State.evt_sessions (s : State) (b : Nat) (e : EvtReg) (l : List Fld) (c : List (Fld × Nat)) : (s.evt b e l c).sessions = s.sessions := (rfl)
@[simp] theorem State.evt_vols (s : State) (b : Nat) (e : EvtReg) (l : List Fld) (c : List (Fld × Nat)) : (s.evt b e l c).vols = s.vols := (rfl)
@[simp] theorem State.evt_srcs (s : State) (b : Nat) (e : EvtReg) (l : List Fld) (c : List (Fld × Nat)) : (s.evt b e l c).srcs = s.srcs := (rfl)
@[simp] theorem State.evt_recon (s : State) (b : Nat) (e : EvtReg) (l : List Fld) (c : List (Fld × Nat)) : (s.evt b e l c).recon = s.recon := (rfl)
@[simp] theorem State.evt_remaps (s : State) (b : Nat) (e : EvtReg) (l : List Fld) (c : List (Fld × Nat)) : (s.evt b e l c).remaps = s.remaps := (rfl)
@[simp] theorem State.evt_corrected (s : State) (b : Nat) (e : EvtReg) (l : List Fld) (c : List (Fld × Nat)) : (s.evt b e l c).corrected = s.corrected := (rfl)
@[simp] theorem State.evt_sevSet (s : State) (b : Nat) (e : EvtReg) (l : List Fld) (c : List (Fld × Nat)) : (s.evt b e l c).sevSet = s.sevSet := (rfl)
@[simp] theorem State.evt_cans (s : State) (b : Nat) (e : EvtReg) (l : List Fld) (c : List (Fld × Nat)) : (s.evt b e l c).cans = s.cans := (rfl)
@[simp] theorem State.evt_todo (s : State) (b : Nat) (e : EvtReg) (l : List Fld) (c : List (Fld × Nat)) : (s.evt b e l c).todo = s.todo := (rfl)
@[simp] theorem State.evt_free (s : State) (b : Nat) (e : EvtReg) (l : List Fld) (c : List (Fld × Nat)) : (s.evt b e l c).free = s.free := (rfl)
@[simp] theorem State.evt_out (s : State) (b : Nat) (e : EvtReg) (l : List Fld) (c : List (Fld × Nat)) : (s.evt b e l c).out = s.out := (rfl)
@[simp] theorem State.evt_pending (s : State) (b : Nat) (e : EvtReg) (l : List Fld) (c : List (Fld × Nat)) : (s.evt b e l c).pending = s.pending := (rfl)

/-! ### A word is stored in all three copies -/

@[simp] theorem State.put_part (s : State) (a : Nat) (v : Word) : (s.put a v).part = s.part := (rfl)
@[simp] theorem State.put_live (s : State) (a : Nat) (v : Word) : (s.put a v).live = s.live := (rfl)
@[simp] theorem State.put_inj (s : State) (a : Nat) (v : Word) : (s.put a v).inj = s.inj := (rfl)
@[simp] theorem State.put_indq (s : State) (a : Nat) (v : Word) : (s.put a v).indq = s.indq := (rfl)
@[simp] theorem State.put_prt (s : State) (a : Nat) (v : Word) : (s.put a v).prt = s.prt := (rfl)
@[simp] theorem State.put_commits (s : State) (a : Nat) (v : Word) : (s.put a v).commits = s.commits := (rfl)
@[simp] theorem State.put_slots (s : State) (a : Nat) (v : Word) : (s.put a v).slots = s.slots := (rfl)
@[simp] theorem State.put_journal (s : State) (a : Nat) (v : Word) : (s.put a v).journal = s.journal := (rfl)
@[simp] theorem State.put_ringNo (s : State) (a : Nat) (v : Word) : (s.put a v).ringNo = s.ringNo := (rfl)
@[simp] theorem State.put_leader (s : State) (a : Nat) (v : Word) : (s.put a v).leader = s.leader := (rfl)
@[simp] theorem State.put_leaderSt (s : State) (a : Nat) (v : Word) : (s.put a v).leaderSt = s.leaderSt := (rfl)
@[simp] theorem State.put_epoch (s : State) (a : Nat) (v : Word) : (s.put a v).epoch = s.epoch := (rfl)
@[simp] theorem State.put_clusters (s : State) (a : Nat) (v : Word) : (s.put a v).clusters = s.clusters := (rfl)
@[simp] theorem State.put_isolated (s : State) (a : Nat) (v : Word) : (s.put a v).isolated = s.isolated := (rfl)
@[simp] theorem State.put_outUnits (s : State) (a : Nat) (v : Word) : (s.put a v).outUnits = s.outUnits := (rfl)
@[simp] theorem State.put_halted (s : State) (a : Nat) (v : Word) : (s.put a v).halted = s.halted := (rfl)
@[simp] theorem State.put_aliveOn (s : State) (a : Nat) (v : Word) : (s.put a v).aliveOn = s.aliveOn := (rfl)
@[simp] theorem State.put_irqAt (s : State) (a : Nat) (v : Word) : (s.put a v).irqAt = s.irqAt := (rfl)
@[simp] theorem State.put_irqHeld (s : State) (a : Nat) (v : Word) : (s.put a v).irqHeld = s.irqHeld := (rfl)
@[simp] theorem State.put_knb (s : State) (a : Nat) (v : Word) : (s.put a v).knb = s.knb := (rfl)
@[simp] theorem State.put_clock (s : State) (a : Nat) (v : Word) : (s.put a v).clock = s.clock := (rfl)
@[simp] theorem State.put_ptp (s : State) (a : Nat) (v : Word) : (s.put a v).ptp = s.ptp := (rfl)
@[simp] theorem State.put_boot (s : State) (a : Nat) (v : Word) : (s.put a v).boot = s.boot := (rfl)
@[simp] theorem State.put_jtagCe (s : State) (a : Nat) (v : Word) : (s.put a v).jtagCe = s.jtagCe := (rfl)
@[simp] theorem State.put_taps (s : State) (a : Nat) (v : Word) : (s.put a v).taps = s.taps := (rfl)
@[simp] theorem State.put_lanes (s : State) (a : Nat) (v : Word) : (s.put a v).lanes = s.lanes := (rfl)
@[simp] theorem State.put_lmap (s : State) (a : Nat) (v : Word) : (s.put a v).lmap = s.lmap := (rfl)
@[simp] theorem State.put_swaps (s : State) (a : Nat) (v : Word) : (s.put a v).swaps = s.swaps := (rfl)
@[simp] theorem State.put_links (s : State) (a : Nat) (v : Word) : (s.put a v).links = s.links := (rfl)
@[simp] theorem State.put_chans (s : State) (a : Nat) (v : Word) : (s.put a v).chans = s.chans := (rfl)
@[simp] theorem State.put_sets (s : State) (a : Nat) (v : Word) : (s.put a v).sets = s.sets := (rfl)
@[simp] theorem State.put_sources (s : State) (a : Nat) (v : Word) : (s.put a v).sources = s.sources := (rfl)
@[simp] theorem State.put_reps (s : State) (a : Nat) (v : Word) : (s.put a v).reps = s.reps := (rfl)
@[simp] theorem State.put_gens (s : State) (a : Nat) (v : Word) : (s.put a v).gens = s.gens := (rfl)
@[simp] theorem State.put_windows (s : State) (a : Nat) (v : Word) : (s.put a v).windows = s.windows := (rfl)
@[simp] theorem State.put_exch (s : State) (a : Nat) (v : Word) : (s.put a v).exch = s.exch := (rfl)
@[simp] theorem State.put_cors (s : State) (a : Nat) (v : Word) : (s.put a v).cors = s.cors := (rfl)
@[simp] theorem State.put_sliceQ (s : State) (a : Nat) (v : Word) : (s.put a v).sliceQ = s.sliceQ := (rfl)
@[simp] theorem State.put_smap (s : State) (a : Nat) (v : Word) : (s.put a v).smap = s.smap := (rfl)
@[simp] theorem State.put_stas (s : State) (a : Nat) (v : Word) : (s.put a v).stas = s.stas := (rfl)
@[simp] theorem State.put_staNext (s : State) (a : Nat) (v : Word) : (s.put a v).staNext = s.staNext := (rfl)
@[simp] theorem State.put_grps (s : State) (a : Nat) (v : Word) : (s.put a v).grps = s.grps := (rfl)
@[simp] theorem State.put_handoffs (s : State) (a : Nat) (v : Word) : (s.put a v).handoffs = s.handoffs := (rfl)
@[simp] theorem State.put_recs (s : State) (a : Nat) (v : Word) : (s.put a v).recs = s.recs := (rfl)
@[simp] theorem State.put_nextRec (s : State) (a : Nat) (v : Word) : (s.put a v).nextRec = s.nextRec := (rfl)
@[simp] theorem State.put_ctxs (s : State) (a : Nat) (v : Word) : (s.put a v).ctxs = s.ctxs := (rfl)
@[simp] theorem State.put_lastGrant (s : State) (a : Nat) (v : Word) : (s.put a v).lastGrant = s.lastGrant := (rfl)
@[simp] theorem State.put_rings (s : State) (a : Nat) (v : Word) : (s.put a v).rings = s.rings := (rfl)
@[simp] theorem State.put_msixFm (s : State) (a : Nat) (v : Word) : (s.put a v).msixFm = s.msixFm := (rfl)
@[simp] theorem State.put_vecs (s : State) (a : Nat) (v : Word) : (s.put a v).vecs = s.vecs := (rfl)
@[simp] theorem State.put_bars (s : State) (a : Nat) (v : Word) : (s.put a v).bars = s.bars := (rfl)
@[simp] theorem State.put_msixPend (s : State) (a : Nat) (v : Word) : (s.put a v).msixPend = s.msixPend := (rfl)
@[simp] theorem State.put_pciLim (s : State) (a : Nat) (v : Word) : (s.put a v).pciLim = s.pciLim := (rfl)
@[simp] theorem State.put_trkWait (s : State) (a : Nat) (v : Word) : (s.put a v).trkWait = s.trkWait := (rfl)
@[simp] theorem State.put_launches (s : State) (a : Nat) (v : Word) : (s.put a v).launches = s.launches := (rfl)
@[simp] theorem State.put_lastLaunch (s : State) (a : Nat) (v : Word) : (s.put a v).lastLaunch = s.lastLaunch := (rfl)
@[simp] theorem State.put_sessions (s : State) (a : Nat) (v : Word) : (s.put a v).sessions = s.sessions := (rfl)
@[simp] theorem State.put_vols (s : State) (a : Nat) (v : Word) : (s.put a v).vols = s.vols := (rfl)
@[simp] theorem State.put_srcs (s : State) (a : Nat) (v : Word) : (s.put a v).srcs = s.srcs := (rfl)
@[simp] theorem State.put_recon (s : State) (a : Nat) (v : Word) : (s.put a v).recon = s.recon := (rfl)
@[simp] theorem State.put_remaps (s : State) (a : Nat) (v : Word) : (s.put a v).remaps = s.remaps := (rfl)
@[simp] theorem State.put_corrected (s : State) (a : Nat) (v : Word) : (s.put a v).corrected = s.corrected := (rfl)
@[simp] theorem State.put_sevSet (s : State) (a : Nat) (v : Word) : (s.put a v).sevSet = s.sevSet := (rfl)
@[simp] theorem State.put_cans (s : State) (a : Nat) (v : Word) : (s.put a v).cans = s.cans := (rfl)
@[simp] theorem State.put_todo (s : State) (a : Nat) (v : Word) : (s.put a v).todo = s.todo := (rfl)
@[simp] theorem State.put_free (s : State) (a : Nat) (v : Word) : (s.put a v).free = s.free := (rfl)
@[simp] theorem State.put_out (s : State) (a : Nat) (v : Word) : (s.put a v).out = s.out := (rfl)
@[simp] theorem State.put_pending (s : State) (a : Nat) (v : Word) : (s.put a v).pending = s.pending := (rfl)

/-! ### A counter counts -/

@[simp] theorem State.bump_part (s : State) (a n : Nat) : (s.bump a n).part = s.part := (rfl)
@[simp] theorem State.bump_regs (s : State) (a n : Nat) : (s.bump a n).regs = s.regs := (rfl)
@[simp] theorem State.bump_inj (s : State) (a n : Nat) : (s.bump a n).inj = s.inj := (rfl)
@[simp] theorem State.bump_tmr (s : State) (a n : Nat) : (s.bump a n).tmr = s.tmr := (rfl)
@[simp] theorem State.bump_indq (s : State) (a n : Nat) : (s.bump a n).indq = s.indq := (rfl)
@[simp] theorem State.bump_prt (s : State) (a n : Nat) : (s.bump a n).prt = s.prt := (rfl)
@[simp] theorem State.bump_commits (s : State) (a n : Nat) : (s.bump a n).commits = s.commits := (rfl)
@[simp] theorem State.bump_slots (s : State) (a n : Nat) : (s.bump a n).slots = s.slots := (rfl)
@[simp] theorem State.bump_journal (s : State) (a n : Nat) : (s.bump a n).journal = s.journal := (rfl)
@[simp] theorem State.bump_ringNo (s : State) (a n : Nat) : (s.bump a n).ringNo = s.ringNo := (rfl)
@[simp] theorem State.bump_leader (s : State) (a n : Nat) : (s.bump a n).leader = s.leader := (rfl)
@[simp] theorem State.bump_leaderSt (s : State) (a n : Nat) : (s.bump a n).leaderSt = s.leaderSt := (rfl)
@[simp] theorem State.bump_epoch (s : State) (a n : Nat) : (s.bump a n).epoch = s.epoch := (rfl)
@[simp] theorem State.bump_clusters (s : State) (a n : Nat) : (s.bump a n).clusters = s.clusters := (rfl)
@[simp] theorem State.bump_isolated (s : State) (a n : Nat) : (s.bump a n).isolated = s.isolated := (rfl)
@[simp] theorem State.bump_outUnits (s : State) (a n : Nat) : (s.bump a n).outUnits = s.outUnits := (rfl)
@[simp] theorem State.bump_halted (s : State) (a n : Nat) : (s.bump a n).halted = s.halted := (rfl)
@[simp] theorem State.bump_aliveOn (s : State) (a n : Nat) : (s.bump a n).aliveOn = s.aliveOn := (rfl)
@[simp] theorem State.bump_irqAt (s : State) (a n : Nat) : (s.bump a n).irqAt = s.irqAt := (rfl)
@[simp] theorem State.bump_irqHeld (s : State) (a n : Nat) : (s.bump a n).irqHeld = s.irqHeld := (rfl)
@[simp] theorem State.bump_knb (s : State) (a n : Nat) : (s.bump a n).knb = s.knb := (rfl)
@[simp] theorem State.bump_clock (s : State) (a n : Nat) : (s.bump a n).clock = s.clock := (rfl)
@[simp] theorem State.bump_ptp (s : State) (a n : Nat) : (s.bump a n).ptp = s.ptp := (rfl)
@[simp] theorem State.bump_boot (s : State) (a n : Nat) : (s.bump a n).boot = s.boot := (rfl)
@[simp] theorem State.bump_jtagCe (s : State) (a n : Nat) : (s.bump a n).jtagCe = s.jtagCe := (rfl)
@[simp] theorem State.bump_taps (s : State) (a n : Nat) : (s.bump a n).taps = s.taps := (rfl)
@[simp] theorem State.bump_lanes (s : State) (a n : Nat) : (s.bump a n).lanes = s.lanes := (rfl)
@[simp] theorem State.bump_lmap (s : State) (a n : Nat) : (s.bump a n).lmap = s.lmap := (rfl)
@[simp] theorem State.bump_swaps (s : State) (a n : Nat) : (s.bump a n).swaps = s.swaps := (rfl)
@[simp] theorem State.bump_links (s : State) (a n : Nat) : (s.bump a n).links = s.links := (rfl)
@[simp] theorem State.bump_chans (s : State) (a n : Nat) : (s.bump a n).chans = s.chans := (rfl)
@[simp] theorem State.bump_sets (s : State) (a n : Nat) : (s.bump a n).sets = s.sets := (rfl)
@[simp] theorem State.bump_sources (s : State) (a n : Nat) : (s.bump a n).sources = s.sources := (rfl)
@[simp] theorem State.bump_reps (s : State) (a n : Nat) : (s.bump a n).reps = s.reps := (rfl)
@[simp] theorem State.bump_gens (s : State) (a n : Nat) : (s.bump a n).gens = s.gens := (rfl)
@[simp] theorem State.bump_windows (s : State) (a n : Nat) : (s.bump a n).windows = s.windows := (rfl)
@[simp] theorem State.bump_exch (s : State) (a n : Nat) : (s.bump a n).exch = s.exch := (rfl)
@[simp] theorem State.bump_cors (s : State) (a n : Nat) : (s.bump a n).cors = s.cors := (rfl)
@[simp] theorem State.bump_sliceQ (s : State) (a n : Nat) : (s.bump a n).sliceQ = s.sliceQ := (rfl)
@[simp] theorem State.bump_smap (s : State) (a n : Nat) : (s.bump a n).smap = s.smap := (rfl)
@[simp] theorem State.bump_stas (s : State) (a n : Nat) : (s.bump a n).stas = s.stas := (rfl)
@[simp] theorem State.bump_staNext (s : State) (a n : Nat) : (s.bump a n).staNext = s.staNext := (rfl)
@[simp] theorem State.bump_grps (s : State) (a n : Nat) : (s.bump a n).grps = s.grps := (rfl)
@[simp] theorem State.bump_handoffs (s : State) (a n : Nat) : (s.bump a n).handoffs = s.handoffs := (rfl)
@[simp] theorem State.bump_recs (s : State) (a n : Nat) : (s.bump a n).recs = s.recs := (rfl)
@[simp] theorem State.bump_nextRec (s : State) (a n : Nat) : (s.bump a n).nextRec = s.nextRec := (rfl)
@[simp] theorem State.bump_ctxs (s : State) (a n : Nat) : (s.bump a n).ctxs = s.ctxs := (rfl)
@[simp] theorem State.bump_lastGrant (s : State) (a n : Nat) : (s.bump a n).lastGrant = s.lastGrant := (rfl)
@[simp] theorem State.bump_rings (s : State) (a n : Nat) : (s.bump a n).rings = s.rings := (rfl)
@[simp] theorem State.bump_msixFm (s : State) (a n : Nat) : (s.bump a n).msixFm = s.msixFm := (rfl)
@[simp] theorem State.bump_vecs (s : State) (a n : Nat) : (s.bump a n).vecs = s.vecs := (rfl)
@[simp] theorem State.bump_bars (s : State) (a n : Nat) : (s.bump a n).bars = s.bars := (rfl)
@[simp] theorem State.bump_msixPend (s : State) (a n : Nat) : (s.bump a n).msixPend = s.msixPend := (rfl)
@[simp] theorem State.bump_pciLim (s : State) (a n : Nat) : (s.bump a n).pciLim = s.pciLim := (rfl)
@[simp] theorem State.bump_trkWait (s : State) (a n : Nat) : (s.bump a n).trkWait = s.trkWait := (rfl)
@[simp] theorem State.bump_launches (s : State) (a n : Nat) : (s.bump a n).launches = s.launches := (rfl)
@[simp] theorem State.bump_lastLaunch (s : State) (a n : Nat) : (s.bump a n).lastLaunch = s.lastLaunch := (rfl)
@[simp] theorem State.bump_sessions (s : State) (a n : Nat) : (s.bump a n).sessions = s.sessions := (rfl)
@[simp] theorem State.bump_vols (s : State) (a n : Nat) : (s.bump a n).vols = s.vols := (rfl)
@[simp] theorem State.bump_srcs (s : State) (a n : Nat) : (s.bump a n).srcs = s.srcs := (rfl)
@[simp] theorem State.bump_recon (s : State) (a n : Nat) : (s.bump a n).recon = s.recon := (rfl)
@[simp] theorem State.bump_remaps (s : State) (a n : Nat) : (s.bump a n).remaps = s.remaps := (rfl)
@[simp] theorem State.bump_corrected (s : State) (a n : Nat) : (s.bump a n).corrected = s.corrected := (rfl)
@[simp] theorem State.bump_sevSet (s : State) (a n : Nat) : (s.bump a n).sevSet = s.sevSet := (rfl)
@[simp] theorem State.bump_cans (s : State) (a n : Nat) : (s.bump a n).cans = s.cans := (rfl)
@[simp] theorem State.bump_todo (s : State) (a n : Nat) : (s.bump a n).todo = s.todo := (rfl)
@[simp] theorem State.bump_free (s : State) (a n : Nat) : (s.bump a n).free = s.free := (rfl)
@[simp] theorem State.bump_out (s : State) (a n : Nat) : (s.bump a n).out = s.out := (rfl)
@[simp] theorem State.bump_pending (s : State) (a n : Nat) : (s.bump a n).pending = s.pending := (rfl)

/-! ### The part puts something out -/

@[simp] theorem State.emit_part (s : State) (o : Out) : (s.emit o).part = s.part := (rfl)
@[simp] theorem State.emit_regs (s : State) (o : Out) : (s.emit o).regs = s.regs := (rfl)
@[simp] theorem State.emit_live (s : State) (o : Out) : (s.emit o).live = s.live := (rfl)
@[simp] theorem State.emit_inj (s : State) (o : Out) : (s.emit o).inj = s.inj := (rfl)
@[simp] theorem State.emit_tmr (s : State) (o : Out) : (s.emit o).tmr = s.tmr := (rfl)
@[simp] theorem State.emit_indq (s : State) (o : Out) : (s.emit o).indq = s.indq := (rfl)
@[simp] theorem State.emit_prt (s : State) (o : Out) : (s.emit o).prt = s.prt := (rfl)
@[simp] theorem State.emit_commits (s : State) (o : Out) : (s.emit o).commits = s.commits := (rfl)
@[simp] theorem State.emit_slots (s : State) (o : Out) : (s.emit o).slots = s.slots := (rfl)
@[simp] theorem State.emit_journal (s : State) (o : Out) : (s.emit o).journal = s.journal := (rfl)
@[simp] theorem State.emit_ringNo (s : State) (o : Out) : (s.emit o).ringNo = s.ringNo := (rfl)
@[simp] theorem State.emit_leader (s : State) (o : Out) : (s.emit o).leader = s.leader := (rfl)
@[simp] theorem State.emit_leaderSt (s : State) (o : Out) : (s.emit o).leaderSt = s.leaderSt := (rfl)
@[simp] theorem State.emit_epoch (s : State) (o : Out) : (s.emit o).epoch = s.epoch := (rfl)
@[simp] theorem State.emit_clusters (s : State) (o : Out) : (s.emit o).clusters = s.clusters := (rfl)
@[simp] theorem State.emit_isolated (s : State) (o : Out) : (s.emit o).isolated = s.isolated := (rfl)
@[simp] theorem State.emit_outUnits (s : State) (o : Out) : (s.emit o).outUnits = s.outUnits := (rfl)
@[simp] theorem State.emit_halted (s : State) (o : Out) : (s.emit o).halted = s.halted := (rfl)
@[simp] theorem State.emit_aliveOn (s : State) (o : Out) : (s.emit o).aliveOn = s.aliveOn := (rfl)
@[simp] theorem State.emit_irqAt (s : State) (o : Out) : (s.emit o).irqAt = s.irqAt := (rfl)
@[simp] theorem State.emit_irqHeld (s : State) (o : Out) : (s.emit o).irqHeld = s.irqHeld := (rfl)
@[simp] theorem State.emit_knb (s : State) (o : Out) : (s.emit o).knb = s.knb := (rfl)
@[simp] theorem State.emit_clock (s : State) (o : Out) : (s.emit o).clock = s.clock := (rfl)
@[simp] theorem State.emit_ptp (s : State) (o : Out) : (s.emit o).ptp = s.ptp := (rfl)
@[simp] theorem State.emit_boot (s : State) (o : Out) : (s.emit o).boot = s.boot := (rfl)
@[simp] theorem State.emit_jtagCe (s : State) (o : Out) : (s.emit o).jtagCe = s.jtagCe := (rfl)
@[simp] theorem State.emit_taps (s : State) (o : Out) : (s.emit o).taps = s.taps := (rfl)
@[simp] theorem State.emit_lanes (s : State) (o : Out) : (s.emit o).lanes = s.lanes := (rfl)
@[simp] theorem State.emit_lmap (s : State) (o : Out) : (s.emit o).lmap = s.lmap := (rfl)
@[simp] theorem State.emit_swaps (s : State) (o : Out) : (s.emit o).swaps = s.swaps := (rfl)
@[simp] theorem State.emit_links (s : State) (o : Out) : (s.emit o).links = s.links := (rfl)
@[simp] theorem State.emit_chans (s : State) (o : Out) : (s.emit o).chans = s.chans := (rfl)
@[simp] theorem State.emit_sets (s : State) (o : Out) : (s.emit o).sets = s.sets := (rfl)
@[simp] theorem State.emit_sources (s : State) (o : Out) : (s.emit o).sources = s.sources := (rfl)
@[simp] theorem State.emit_reps (s : State) (o : Out) : (s.emit o).reps = s.reps := (rfl)
@[simp] theorem State.emit_gens (s : State) (o : Out) : (s.emit o).gens = s.gens := (rfl)
@[simp] theorem State.emit_windows (s : State) (o : Out) : (s.emit o).windows = s.windows := (rfl)
@[simp] theorem State.emit_exch (s : State) (o : Out) : (s.emit o).exch = s.exch := (rfl)
@[simp] theorem State.emit_cors (s : State) (o : Out) : (s.emit o).cors = s.cors := (rfl)
@[simp] theorem State.emit_sliceQ (s : State) (o : Out) : (s.emit o).sliceQ = s.sliceQ := (rfl)
@[simp] theorem State.emit_smap (s : State) (o : Out) : (s.emit o).smap = s.smap := (rfl)
@[simp] theorem State.emit_stas (s : State) (o : Out) : (s.emit o).stas = s.stas := (rfl)
@[simp] theorem State.emit_staNext (s : State) (o : Out) : (s.emit o).staNext = s.staNext := (rfl)
@[simp] theorem State.emit_grps (s : State) (o : Out) : (s.emit o).grps = s.grps := (rfl)
@[simp] theorem State.emit_handoffs (s : State) (o : Out) : (s.emit o).handoffs = s.handoffs := (rfl)
@[simp] theorem State.emit_recs (s : State) (o : Out) : (s.emit o).recs = s.recs := (rfl)
@[simp] theorem State.emit_nextRec (s : State) (o : Out) : (s.emit o).nextRec = s.nextRec := (rfl)
@[simp] theorem State.emit_ctxs (s : State) (o : Out) : (s.emit o).ctxs = s.ctxs := (rfl)
@[simp] theorem State.emit_lastGrant (s : State) (o : Out) : (s.emit o).lastGrant = s.lastGrant := (rfl)
@[simp] theorem State.emit_rings (s : State) (o : Out) : (s.emit o).rings = s.rings := (rfl)
@[simp] theorem State.emit_msixFm (s : State) (o : Out) : (s.emit o).msixFm = s.msixFm := (rfl)
@[simp] theorem State.emit_vecs (s : State) (o : Out) : (s.emit o).vecs = s.vecs := (rfl)
@[simp] theorem State.emit_bars (s : State) (o : Out) : (s.emit o).bars = s.bars := (rfl)
@[simp] theorem State.emit_msixPend (s : State) (o : Out) : (s.emit o).msixPend = s.msixPend := (rfl)
@[simp] theorem State.emit_pciLim (s : State) (o : Out) : (s.emit o).pciLim = s.pciLim := (rfl)
@[simp] theorem State.emit_trkWait (s : State) (o : Out) : (s.emit o).trkWait = s.trkWait := (rfl)
@[simp] theorem State.emit_launches (s : State) (o : Out) : (s.emit o).launches = s.launches := (rfl)
@[simp] theorem State.emit_lastLaunch (s : State) (o : Out) : (s.emit o).lastLaunch = s.lastLaunch := (rfl)
@[simp] theorem State.emit_sessions (s : State) (o : Out) : (s.emit o).sessions = s.sessions := (rfl)
@[simp] theorem State.emit_vols (s : State) (o : Out) : (s.emit o).vols = s.vols := (rfl)
@[simp] theorem State.emit_srcs (s : State) (o : Out) : (s.emit o).srcs = s.srcs := (rfl)
@[simp] theorem State.emit_recon (s : State) (o : Out) : (s.emit o).recon = s.recon := (rfl)
@[simp] theorem State.emit_remaps (s : State) (o : Out) : (s.emit o).remaps = s.remaps := (rfl)
@[simp] theorem State.emit_corrected (s : State) (o : Out) : (s.emit o).corrected = s.corrected := (rfl)
@[simp] theorem State.emit_sevSet (s : State) (o : Out) : (s.emit o).sevSet = s.sevSet := (rfl)
@[simp] theorem State.emit_cans (s : State) (o : Out) : (s.emit o).cans = s.cans := (rfl)
@[simp] theorem State.emit_todo (s : State) (o : Out) : (s.emit o).todo = s.todo := (rfl)
@[simp] theorem State.emit_free (s : State) (o : Out) : (s.emit o).free = s.free := (rfl)
@[simp] theorem State.emit_pending (s : State) (o : Out) : (s.emit o).pending = s.pending := (rfl)

/-! ### A mailbox slot changes -/

@[simp] theorem State.setSlot_part (s : State) (w k : Nat) (x : Slot) : (s.setSlot w k x).part = s.part := (rfl)
@[simp] theorem State.setSlot_regs (s : State) (w k : Nat) (x : Slot) : (s.setSlot w k x).regs = s.regs := (rfl)
@[simp] theorem State.setSlot_live (s : State) (w k : Nat) (x : Slot) : (s.setSlot w k x).live = s.live := (rfl)
@[simp] theorem State.setSlot_inj (s : State) (w k : Nat) (x : Slot) : (s.setSlot w k x).inj = s.inj := (rfl)
@[simp] theorem State.setSlot_tmr (s : State) (w k : Nat) (x : Slot) : (s.setSlot w k x).tmr = s.tmr := (rfl)
@[simp] theorem State.setSlot_indq (s : State) (w k : Nat) (x : Slot) : (s.setSlot w k x).indq = s.indq := (rfl)
@[simp] theorem State.setSlot_prt (s : State) (w k : Nat) (x : Slot) : (s.setSlot w k x).prt = s.prt := (rfl)
@[simp] theorem State.setSlot_commits (s : State) (w k : Nat) (x : Slot) : (s.setSlot w k x).commits = s.commits := (rfl)
@[simp] theorem State.setSlot_journal (s : State) (w k : Nat) (x : Slot) : (s.setSlot w k x).journal = s.journal := (rfl)
@[simp] theorem State.setSlot_ringNo (s : State) (w k : Nat) (x : Slot) : (s.setSlot w k x).ringNo = s.ringNo := (rfl)
@[simp] theorem State.setSlot_leader (s : State) (w k : Nat) (x : Slot) : (s.setSlot w k x).leader = s.leader := (rfl)
@[simp] theorem State.setSlot_leaderSt (s : State) (w k : Nat) (x : Slot) : (s.setSlot w k x).leaderSt = s.leaderSt := (rfl)
@[simp] theorem State.setSlot_epoch (s : State) (w k : Nat) (x : Slot) : (s.setSlot w k x).epoch = s.epoch := (rfl)
@[simp] theorem State.setSlot_clusters (s : State) (w k : Nat) (x : Slot) : (s.setSlot w k x).clusters = s.clusters := (rfl)
@[simp] theorem State.setSlot_isolated (s : State) (w k : Nat) (x : Slot) : (s.setSlot w k x).isolated = s.isolated := (rfl)
@[simp] theorem State.setSlot_outUnits (s : State) (w k : Nat) (x : Slot) : (s.setSlot w k x).outUnits = s.outUnits := (rfl)
@[simp] theorem State.setSlot_halted (s : State) (w k : Nat) (x : Slot) : (s.setSlot w k x).halted = s.halted := (rfl)
@[simp] theorem State.setSlot_aliveOn (s : State) (w k : Nat) (x : Slot) : (s.setSlot w k x).aliveOn = s.aliveOn := (rfl)
@[simp] theorem State.setSlot_irqAt (s : State) (w k : Nat) (x : Slot) : (s.setSlot w k x).irqAt = s.irqAt := (rfl)
@[simp] theorem State.setSlot_irqHeld (s : State) (w k : Nat) (x : Slot) : (s.setSlot w k x).irqHeld = s.irqHeld := (rfl)
@[simp] theorem State.setSlot_knb (s : State) (w k : Nat) (x : Slot) : (s.setSlot w k x).knb = s.knb := (rfl)
@[simp] theorem State.setSlot_clock (s : State) (w k : Nat) (x : Slot) : (s.setSlot w k x).clock = s.clock := (rfl)
@[simp] theorem State.setSlot_ptp (s : State) (w k : Nat) (x : Slot) : (s.setSlot w k x).ptp = s.ptp := (rfl)
@[simp] theorem State.setSlot_boot (s : State) (w k : Nat) (x : Slot) : (s.setSlot w k x).boot = s.boot := (rfl)
@[simp] theorem State.setSlot_jtagCe (s : State) (w k : Nat) (x : Slot) : (s.setSlot w k x).jtagCe = s.jtagCe := (rfl)
@[simp] theorem State.setSlot_taps (s : State) (w k : Nat) (x : Slot) : (s.setSlot w k x).taps = s.taps := (rfl)
@[simp] theorem State.setSlot_lanes (s : State) (w k : Nat) (x : Slot) : (s.setSlot w k x).lanes = s.lanes := (rfl)
@[simp] theorem State.setSlot_lmap (s : State) (w k : Nat) (x : Slot) : (s.setSlot w k x).lmap = s.lmap := (rfl)
@[simp] theorem State.setSlot_swaps (s : State) (w k : Nat) (x : Slot) : (s.setSlot w k x).swaps = s.swaps := (rfl)
@[simp] theorem State.setSlot_links (s : State) (w k : Nat) (x : Slot) : (s.setSlot w k x).links = s.links := (rfl)
@[simp] theorem State.setSlot_chans (s : State) (w k : Nat) (x : Slot) : (s.setSlot w k x).chans = s.chans := (rfl)
@[simp] theorem State.setSlot_sets (s : State) (w k : Nat) (x : Slot) : (s.setSlot w k x).sets = s.sets := (rfl)
@[simp] theorem State.setSlot_sources (s : State) (w k : Nat) (x : Slot) : (s.setSlot w k x).sources = s.sources := (rfl)
@[simp] theorem State.setSlot_reps (s : State) (w k : Nat) (x : Slot) : (s.setSlot w k x).reps = s.reps := (rfl)
@[simp] theorem State.setSlot_gens (s : State) (w k : Nat) (x : Slot) : (s.setSlot w k x).gens = s.gens := (rfl)
@[simp] theorem State.setSlot_windows (s : State) (w k : Nat) (x : Slot) : (s.setSlot w k x).windows = s.windows := (rfl)
@[simp] theorem State.setSlot_exch (s : State) (w k : Nat) (x : Slot) : (s.setSlot w k x).exch = s.exch := (rfl)
@[simp] theorem State.setSlot_cors (s : State) (w k : Nat) (x : Slot) : (s.setSlot w k x).cors = s.cors := (rfl)
@[simp] theorem State.setSlot_sliceQ (s : State) (w k : Nat) (x : Slot) : (s.setSlot w k x).sliceQ = s.sliceQ := (rfl)
@[simp] theorem State.setSlot_smap (s : State) (w k : Nat) (x : Slot) : (s.setSlot w k x).smap = s.smap := (rfl)
@[simp] theorem State.setSlot_stas (s : State) (w k : Nat) (x : Slot) : (s.setSlot w k x).stas = s.stas := (rfl)
@[simp] theorem State.setSlot_staNext (s : State) (w k : Nat) (x : Slot) : (s.setSlot w k x).staNext = s.staNext := (rfl)
@[simp] theorem State.setSlot_grps (s : State) (w k : Nat) (x : Slot) : (s.setSlot w k x).grps = s.grps := (rfl)
@[simp] theorem State.setSlot_handoffs (s : State) (w k : Nat) (x : Slot) : (s.setSlot w k x).handoffs = s.handoffs := (rfl)
@[simp] theorem State.setSlot_recs (s : State) (w k : Nat) (x : Slot) : (s.setSlot w k x).recs = s.recs := (rfl)
@[simp] theorem State.setSlot_nextRec (s : State) (w k : Nat) (x : Slot) : (s.setSlot w k x).nextRec = s.nextRec := (rfl)
@[simp] theorem State.setSlot_ctxs (s : State) (w k : Nat) (x : Slot) : (s.setSlot w k x).ctxs = s.ctxs := (rfl)
@[simp] theorem State.setSlot_lastGrant (s : State) (w k : Nat) (x : Slot) : (s.setSlot w k x).lastGrant = s.lastGrant := (rfl)
@[simp] theorem State.setSlot_rings (s : State) (w k : Nat) (x : Slot) : (s.setSlot w k x).rings = s.rings := (rfl)
@[simp] theorem State.setSlot_msixFm (s : State) (w k : Nat) (x : Slot) : (s.setSlot w k x).msixFm = s.msixFm := (rfl)
@[simp] theorem State.setSlot_vecs (s : State) (w k : Nat) (x : Slot) : (s.setSlot w k x).vecs = s.vecs := (rfl)
@[simp] theorem State.setSlot_bars (s : State) (w k : Nat) (x : Slot) : (s.setSlot w k x).bars = s.bars := (rfl)
@[simp] theorem State.setSlot_msixPend (s : State) (w k : Nat) (x : Slot) : (s.setSlot w k x).msixPend = s.msixPend := (rfl)
@[simp] theorem State.setSlot_pciLim (s : State) (w k : Nat) (x : Slot) : (s.setSlot w k x).pciLim = s.pciLim := (rfl)
@[simp] theorem State.setSlot_trkWait (s : State) (w k : Nat) (x : Slot) : (s.setSlot w k x).trkWait = s.trkWait := (rfl)
@[simp] theorem State.setSlot_launches (s : State) (w k : Nat) (x : Slot) : (s.setSlot w k x).launches = s.launches := (rfl)
@[simp] theorem State.setSlot_lastLaunch (s : State) (w k : Nat) (x : Slot) : (s.setSlot w k x).lastLaunch = s.lastLaunch := (rfl)
@[simp] theorem State.setSlot_sessions (s : State) (w k : Nat) (x : Slot) : (s.setSlot w k x).sessions = s.sessions := (rfl)
@[simp] theorem State.setSlot_vols (s : State) (w k : Nat) (x : Slot) : (s.setSlot w k x).vols = s.vols := (rfl)
@[simp] theorem State.setSlot_srcs (s : State) (w k : Nat) (x : Slot) : (s.setSlot w k x).srcs = s.srcs := (rfl)
@[simp] theorem State.setSlot_recon (s : State) (w k : Nat) (x : Slot) : (s.setSlot w k x).recon = s.recon := (rfl)
@[simp] theorem State.setSlot_remaps (s : State) (w k : Nat) (x : Slot) : (s.setSlot w k x).remaps = s.remaps := (rfl)
@[simp] theorem State.setSlot_corrected (s : State) (w k : Nat) (x : Slot) : (s.setSlot w k x).corrected = s.corrected := (rfl)
@[simp] theorem State.setSlot_sevSet (s : State) (w k : Nat) (x : Slot) : (s.setSlot w k x).sevSet = s.sevSet := (rfl)
@[simp] theorem State.setSlot_cans (s : State) (w k : Nat) (x : Slot) : (s.setSlot w k x).cans = s.cans := (rfl)
@[simp] theorem State.setSlot_todo (s : State) (w k : Nat) (x : Slot) : (s.setSlot w k x).todo = s.todo := (rfl)
@[simp] theorem State.setSlot_free (s : State) (w k : Nat) (x : Slot) : (s.setSlot w k x).free = s.free := (rfl)
@[simp] theorem State.setSlot_out (s : State) (w k : Nat) (x : Slot) : (s.setSlot w k x).out = s.out := (rfl)
@[simp] theorem State.setSlot_pending (s : State) (w k : Nat) (x : Slot) : (s.setSlot w k x).pending = s.pending := (rfl)

/-! ### Another queue -/

@[simp] theorem State.queue_part (s : State) (l : List Instr) : (s.queue l).part = s.part := (rfl)
@[simp] theorem State.queue_regs (s : State) (l : List Instr) : (s.queue l).regs = s.regs := (rfl)
@[simp] theorem State.queue_live (s : State) (l : List Instr) : (s.queue l).live = s.live := (rfl)
@[simp] theorem State.queue_inj (s : State) (l : List Instr) : (s.queue l).inj = s.inj := (rfl)
@[simp] theorem State.queue_tmr (s : State) (l : List Instr) : (s.queue l).tmr = s.tmr := (rfl)
@[simp] theorem State.queue_indq (s : State) (l : List Instr) : (s.queue l).indq = s.indq := (rfl)
@[simp] theorem State.queue_prt (s : State) (l : List Instr) : (s.queue l).prt = s.prt := (rfl)
@[simp] theorem State.queue_commits (s : State) (l : List Instr) : (s.queue l).commits = s.commits := (rfl)
@[simp] theorem State.queue_slots (s : State) (l : List Instr) : (s.queue l).slots = s.slots := (rfl)
@[simp] theorem State.queue_journal (s : State) (l : List Instr) : (s.queue l).journal = s.journal := (rfl)
@[simp] theorem State.queue_ringNo (s : State) (l : List Instr) : (s.queue l).ringNo = s.ringNo := (rfl)
@[simp] theorem State.queue_leader (s : State) (l : List Instr) : (s.queue l).leader = s.leader := (rfl)
@[simp] theorem State.queue_leaderSt (s : State) (l : List Instr) : (s.queue l).leaderSt = s.leaderSt := (rfl)
@[simp] theorem State.queue_epoch (s : State) (l : List Instr) : (s.queue l).epoch = s.epoch := (rfl)
@[simp] theorem State.queue_clusters (s : State) (l : List Instr) : (s.queue l).clusters = s.clusters := (rfl)
@[simp] theorem State.queue_isolated (s : State) (l : List Instr) : (s.queue l).isolated = s.isolated := (rfl)
@[simp] theorem State.queue_outUnits (s : State) (l : List Instr) : (s.queue l).outUnits = s.outUnits := (rfl)
@[simp] theorem State.queue_halted (s : State) (l : List Instr) : (s.queue l).halted = s.halted := (rfl)
@[simp] theorem State.queue_aliveOn (s : State) (l : List Instr) : (s.queue l).aliveOn = s.aliveOn := (rfl)
@[simp] theorem State.queue_irqAt (s : State) (l : List Instr) : (s.queue l).irqAt = s.irqAt := (rfl)
@[simp] theorem State.queue_irqHeld (s : State) (l : List Instr) : (s.queue l).irqHeld = s.irqHeld := (rfl)
@[simp] theorem State.queue_knb (s : State) (l : List Instr) : (s.queue l).knb = s.knb := (rfl)
@[simp] theorem State.queue_clock (s : State) (l : List Instr) : (s.queue l).clock = s.clock := (rfl)
@[simp] theorem State.queue_ptp (s : State) (l : List Instr) : (s.queue l).ptp = s.ptp := (rfl)
@[simp] theorem State.queue_boot (s : State) (l : List Instr) : (s.queue l).boot = s.boot := (rfl)
@[simp] theorem State.queue_jtagCe (s : State) (l : List Instr) : (s.queue l).jtagCe = s.jtagCe := (rfl)
@[simp] theorem State.queue_taps (s : State) (l : List Instr) : (s.queue l).taps = s.taps := (rfl)
@[simp] theorem State.queue_lanes (s : State) (l : List Instr) : (s.queue l).lanes = s.lanes := (rfl)
@[simp] theorem State.queue_lmap (s : State) (l : List Instr) : (s.queue l).lmap = s.lmap := (rfl)
@[simp] theorem State.queue_swaps (s : State) (l : List Instr) : (s.queue l).swaps = s.swaps := (rfl)
@[simp] theorem State.queue_links (s : State) (l : List Instr) : (s.queue l).links = s.links := (rfl)
@[simp] theorem State.queue_chans (s : State) (l : List Instr) : (s.queue l).chans = s.chans := (rfl)
@[simp] theorem State.queue_sets (s : State) (l : List Instr) : (s.queue l).sets = s.sets := (rfl)
@[simp] theorem State.queue_sources (s : State) (l : List Instr) : (s.queue l).sources = s.sources := (rfl)
@[simp] theorem State.queue_reps (s : State) (l : List Instr) : (s.queue l).reps = s.reps := (rfl)
@[simp] theorem State.queue_gens (s : State) (l : List Instr) : (s.queue l).gens = s.gens := (rfl)
@[simp] theorem State.queue_windows (s : State) (l : List Instr) : (s.queue l).windows = s.windows := (rfl)
@[simp] theorem State.queue_exch (s : State) (l : List Instr) : (s.queue l).exch = s.exch := (rfl)
@[simp] theorem State.queue_cors (s : State) (l : List Instr) : (s.queue l).cors = s.cors := (rfl)
@[simp] theorem State.queue_sliceQ (s : State) (l : List Instr) : (s.queue l).sliceQ = s.sliceQ := (rfl)
@[simp] theorem State.queue_smap (s : State) (l : List Instr) : (s.queue l).smap = s.smap := (rfl)
@[simp] theorem State.queue_stas (s : State) (l : List Instr) : (s.queue l).stas = s.stas := (rfl)
@[simp] theorem State.queue_staNext (s : State) (l : List Instr) : (s.queue l).staNext = s.staNext := (rfl)
@[simp] theorem State.queue_grps (s : State) (l : List Instr) : (s.queue l).grps = s.grps := (rfl)
@[simp] theorem State.queue_handoffs (s : State) (l : List Instr) : (s.queue l).handoffs = s.handoffs := (rfl)
@[simp] theorem State.queue_recs (s : State) (l : List Instr) : (s.queue l).recs = s.recs := (rfl)
@[simp] theorem State.queue_nextRec (s : State) (l : List Instr) : (s.queue l).nextRec = s.nextRec := (rfl)
@[simp] theorem State.queue_ctxs (s : State) (l : List Instr) : (s.queue l).ctxs = s.ctxs := (rfl)
@[simp] theorem State.queue_lastGrant (s : State) (l : List Instr) : (s.queue l).lastGrant = s.lastGrant := (rfl)
@[simp] theorem State.queue_rings (s : State) (l : List Instr) : (s.queue l).rings = s.rings := (rfl)
@[simp] theorem State.queue_msixFm (s : State) (l : List Instr) : (s.queue l).msixFm = s.msixFm := (rfl)
@[simp] theorem State.queue_vecs (s : State) (l : List Instr) : (s.queue l).vecs = s.vecs := (rfl)
@[simp] theorem State.queue_bars (s : State) (l : List Instr) : (s.queue l).bars = s.bars := (rfl)
@[simp] theorem State.queue_msixPend (s : State) (l : List Instr) : (s.queue l).msixPend = s.msixPend := (rfl)
@[simp] theorem State.queue_pciLim (s : State) (l : List Instr) : (s.queue l).pciLim = s.pciLim := (rfl)
@[simp] theorem State.queue_trkWait (s : State) (l : List Instr) : (s.queue l).trkWait = s.trkWait := (rfl)
@[simp] theorem State.queue_launches (s : State) (l : List Instr) : (s.queue l).launches = s.launches := (rfl)
@[simp] theorem State.queue_lastLaunch (s : State) (l : List Instr) : (s.queue l).lastLaunch = s.lastLaunch := (rfl)
@[simp] theorem State.queue_sessions (s : State) (l : List Instr) : (s.queue l).sessions = s.sessions := (rfl)
@[simp] theorem State.queue_vols (s : State) (l : List Instr) : (s.queue l).vols = s.vols := (rfl)
@[simp] theorem State.queue_srcs (s : State) (l : List Instr) : (s.queue l).srcs = s.srcs := (rfl)
@[simp] theorem State.queue_recon (s : State) (l : List Instr) : (s.queue l).recon = s.recon := (rfl)
@[simp] theorem State.queue_remaps (s : State) (l : List Instr) : (s.queue l).remaps = s.remaps := (rfl)
@[simp] theorem State.queue_corrected (s : State) (l : List Instr) : (s.queue l).corrected = s.corrected := (rfl)
@[simp] theorem State.queue_sevSet (s : State) (l : List Instr) : (s.queue l).sevSet = s.sevSet := (rfl)
@[simp] theorem State.queue_cans (s : State) (l : List Instr) : (s.queue l).cans = s.cans := (rfl)
@[simp] theorem State.queue_todo (s : State) (l : List Instr) : (s.queue l).todo = s.todo := (rfl)
@[simp] theorem State.queue_free (s : State) (l : List Instr) : (s.queue l).free = s.free := (rfl)
@[simp] theorem State.queue_out (s : State) (l : List Instr) : (s.queue l).out = s.out := (rfl)
@[simp] theorem State.queue_pending (s : State) (l : List Instr) : (s.queue l).pending = l := (rfl)

/-! ### What every command keeps -/

@[simp] theorem State.own_part (t s : State) : (t.own s).part = s.part := (rfl)
@[simp] theorem State.own_regs (t s : State) : (t.own s).regs = t.regs := (rfl)
@[simp] theorem State.own_live (t s : State) : (t.own s).live = t.live := (rfl)
@[simp] theorem State.own_inj (t s : State) : (t.own s).inj = t.inj := (rfl)
@[simp] theorem State.own_tmr (t s : State) : (t.own s).tmr = t.tmr := (rfl)
@[simp] theorem State.own_indq (t s : State) : (t.own s).indq = t.indq := (rfl)
@[simp] theorem State.own_prt (t s : State) : (t.own s).prt = t.prt := (rfl)
@[simp] theorem State.own_commits (t s : State) : (t.own s).commits = t.commits := (rfl)
@[simp] theorem State.own_slots (t s : State) : (t.own s).slots = t.slots := (rfl)
@[simp] theorem State.own_journal (t s : State) : (t.own s).journal = t.journal := (rfl)
@[simp] theorem State.own_ringNo (t s : State) : (t.own s).ringNo = t.ringNo := (rfl)
@[simp] theorem State.own_leader (t s : State) : (t.own s).leader = t.leader := (rfl)
@[simp] theorem State.own_leaderSt (t s : State) : (t.own s).leaderSt = t.leaderSt := (rfl)
@[simp] theorem State.own_epoch (t s : State) : (t.own s).epoch = t.epoch := (rfl)
@[simp] theorem State.own_clusters (t s : State) : (t.own s).clusters = t.clusters := (rfl)
@[simp] theorem State.own_isolated (t s : State) : (t.own s).isolated = t.isolated := (rfl)
@[simp] theorem State.own_outUnits (t s : State) : (t.own s).outUnits = t.outUnits := (rfl)
@[simp] theorem State.own_halted (t s : State) : (t.own s).halted = t.halted := (rfl)
@[simp] theorem State.own_aliveOn (t s : State) : (t.own s).aliveOn = t.aliveOn := (rfl)
@[simp] theorem State.own_irqAt (t s : State) : (t.own s).irqAt = t.irqAt := (rfl)
@[simp] theorem State.own_irqHeld (t s : State) : (t.own s).irqHeld = t.irqHeld := (rfl)
@[simp] theorem State.own_knb (t s : State) : (t.own s).knb = t.knb := (rfl)
@[simp] theorem State.own_clock (t s : State) : (t.own s).clock = t.clock := (rfl)
@[simp] theorem State.own_ptp (t s : State) : (t.own s).ptp = t.ptp := (rfl)
@[simp] theorem State.own_boot (t s : State) : (t.own s).boot = t.boot := (rfl)
@[simp] theorem State.own_jtagCe (t s : State) : (t.own s).jtagCe = t.jtagCe := (rfl)
@[simp] theorem State.own_taps (t s : State) : (t.own s).taps = t.taps := (rfl)
@[simp] theorem State.own_lanes (t s : State) : (t.own s).lanes = t.lanes := (rfl)
@[simp] theorem State.own_lmap (t s : State) : (t.own s).lmap = t.lmap := (rfl)
@[simp] theorem State.own_swaps (t s : State) : (t.own s).swaps = t.swaps := (rfl)
@[simp] theorem State.own_links (t s : State) : (t.own s).links = t.links := (rfl)
@[simp] theorem State.own_chans (t s : State) : (t.own s).chans = t.chans := (rfl)
@[simp] theorem State.own_sets (t s : State) : (t.own s).sets = t.sets := (rfl)
@[simp] theorem State.own_sources (t s : State) : (t.own s).sources = t.sources := (rfl)
@[simp] theorem State.own_reps (t s : State) : (t.own s).reps = t.reps := (rfl)
@[simp] theorem State.own_gens (t s : State) : (t.own s).gens = t.gens := (rfl)
@[simp] theorem State.own_windows (t s : State) : (t.own s).windows = t.windows := (rfl)
@[simp] theorem State.own_exch (t s : State) : (t.own s).exch = t.exch := (rfl)
@[simp] theorem State.own_cors (t s : State) : (t.own s).cors = t.cors := (rfl)
@[simp] theorem State.own_sliceQ (t s : State) : (t.own s).sliceQ = t.sliceQ := (rfl)
@[simp] theorem State.own_smap (t s : State) : (t.own s).smap = t.smap := (rfl)
@[simp] theorem State.own_stas (t s : State) : (t.own s).stas = t.stas := (rfl)
@[simp] theorem State.own_staNext (t s : State) : (t.own s).staNext = t.staNext := (rfl)
@[simp] theorem State.own_grps (t s : State) : (t.own s).grps = t.grps := (rfl)
@[simp] theorem State.own_handoffs (t s : State) : (t.own s).handoffs = t.handoffs := (rfl)
@[simp] theorem State.own_recs (t s : State) : (t.own s).recs = t.recs := (rfl)
@[simp] theorem State.own_nextRec (t s : State) : (t.own s).nextRec = t.nextRec := (rfl)
@[simp] theorem State.own_ctxs (t s : State) : (t.own s).ctxs = t.ctxs := (rfl)
@[simp] theorem State.own_lastGrant (t s : State) : (t.own s).lastGrant = t.lastGrant := (rfl)
@[simp] theorem State.own_rings (t s : State) : (t.own s).rings = t.rings := (rfl)
@[simp] theorem State.own_msixFm (t s : State) : (t.own s).msixFm = t.msixFm := (rfl)
@[simp] theorem State.own_vecs (t s : State) : (t.own s).vecs = t.vecs := (rfl)
@[simp] theorem State.own_bars (t s : State) : (t.own s).bars = t.bars := (rfl)
@[simp] theorem State.own_msixPend (t s : State) : (t.own s).msixPend = t.msixPend := (rfl)
@[simp] theorem State.own_pciLim (t s : State) : (t.own s).pciLim = t.pciLim := (rfl)
@[simp] theorem State.own_trkWait (t s : State) : (t.own s).trkWait = t.trkWait := (rfl)
@[simp] theorem State.own_launches (t s : State) : (t.own s).launches = t.launches := (rfl)
@[simp] theorem State.own_lastLaunch (t s : State) : (t.own s).lastLaunch = t.lastLaunch := (rfl)
@[simp] theorem State.own_sessions (t s : State) : (t.own s).sessions = t.sessions := (rfl)
@[simp] theorem State.own_vols (t s : State) : (t.own s).vols = t.vols := (rfl)
@[simp] theorem State.own_srcs (t s : State) : (t.own s).srcs = t.srcs := (rfl)
@[simp] theorem State.own_recon (t s : State) : (t.own s).recon = t.recon := (rfl)
@[simp] theorem State.own_remaps (t s : State) : (t.own s).remaps = t.remaps := (rfl)
@[simp] theorem State.own_corrected (t s : State) : (t.own s).corrected = t.corrected := (rfl)
@[simp] theorem State.own_sevSet (t s : State) : (t.own s).sevSet = t.sevSet := (rfl)
@[simp] theorem State.own_cans (t s : State) : (t.own s).cans = t.cans := (rfl)
@[simp] theorem State.own_todo (t s : State) : (t.own s).todo = t.todo := (rfl)
@[simp] theorem State.own_free (t s : State) : (t.own s).free = t.free := (rfl)
@[simp] theorem State.own_out (t s : State) : (t.own s).out = t.out := (rfl)
@[simp] theorem State.own_pending (t s : State) : (t.own s).pending = s.pending := (rfl)

/-! ### What only a commit or a reset changes besides -/

@[simp] theorem State.keeps_part (t s : State) : (t.keeps s).part = s.part := (rfl)
@[simp] theorem State.keeps_regs (t s : State) : (t.keeps s).regs = t.regs := (rfl)
@[simp] theorem State.keeps_live (t s : State) : (t.keeps s).live = t.live := (rfl)
@[simp] theorem State.keeps_inj (t s : State) : (t.keeps s).inj = t.inj := (rfl)
@[simp] theorem State.keeps_tmr (t s : State) : (t.keeps s).tmr = t.tmr := (rfl)
@[simp] theorem State.keeps_indq (t s : State) : (t.keeps s).indq = t.indq := (rfl)
@[simp] theorem State.keeps_prt (t s : State) : (t.keeps s).prt = s.prt := (rfl)
@[simp] theorem State.keeps_commits (t s : State) : (t.keeps s).commits = s.commits := (rfl)
@[simp] theorem State.keeps_slots (t s : State) : (t.keeps s).slots = t.slots := (rfl)
@[simp] theorem State.keeps_journal (t s : State) : (t.keeps s).journal = t.journal := (rfl)
@[simp] theorem State.keeps_ringNo (t s : State) : (t.keeps s).ringNo = t.ringNo := (rfl)
@[simp] theorem State.keeps_leader (t s : State) : (t.keeps s).leader = t.leader := (rfl)
@[simp] theorem State.keeps_leaderSt (t s : State) : (t.keeps s).leaderSt = t.leaderSt := (rfl)
@[simp] theorem State.keeps_epoch (t s : State) : (t.keeps s).epoch = t.epoch := (rfl)
@[simp] theorem State.keeps_clusters (t s : State) : (t.keeps s).clusters = t.clusters := (rfl)
@[simp] theorem State.keeps_isolated (t s : State) : (t.keeps s).isolated = t.isolated := (rfl)
@[simp] theorem State.keeps_outUnits (t s : State) : (t.keeps s).outUnits = t.outUnits := (rfl)
@[simp] theorem State.keeps_halted (t s : State) : (t.keeps s).halted = t.halted := (rfl)
@[simp] theorem State.keeps_aliveOn (t s : State) : (t.keeps s).aliveOn = t.aliveOn := (rfl)
@[simp] theorem State.keeps_irqAt (t s : State) : (t.keeps s).irqAt = t.irqAt := (rfl)
@[simp] theorem State.keeps_irqHeld (t s : State) : (t.keeps s).irqHeld = t.irqHeld := (rfl)
@[simp] theorem State.keeps_knb (t s : State) : (t.keeps s).knb = t.knb := (rfl)
@[simp] theorem State.keeps_clock (t s : State) : (t.keeps s).clock = t.clock := (rfl)
@[simp] theorem State.keeps_ptp (t s : State) : (t.keeps s).ptp = t.ptp := (rfl)
@[simp] theorem State.keeps_boot (t s : State) : (t.keeps s).boot = t.boot := (rfl)
@[simp] theorem State.keeps_jtagCe (t s : State) : (t.keeps s).jtagCe = t.jtagCe := (rfl)
@[simp] theorem State.keeps_taps (t s : State) : (t.keeps s).taps = t.taps := (rfl)
@[simp] theorem State.keeps_lanes (t s : State) : (t.keeps s).lanes = t.lanes := (rfl)
@[simp] theorem State.keeps_lmap (t s : State) : (t.keeps s).lmap = t.lmap := (rfl)
@[simp] theorem State.keeps_swaps (t s : State) : (t.keeps s).swaps = t.swaps := (rfl)
@[simp] theorem State.keeps_links (t s : State) : (t.keeps s).links = t.links := (rfl)
@[simp] theorem State.keeps_chans (t s : State) : (t.keeps s).chans = t.chans := (rfl)
@[simp] theorem State.keeps_sets (t s : State) : (t.keeps s).sets = t.sets := (rfl)
@[simp] theorem State.keeps_sources (t s : State) : (t.keeps s).sources = t.sources := (rfl)
@[simp] theorem State.keeps_reps (t s : State) : (t.keeps s).reps = t.reps := (rfl)
@[simp] theorem State.keeps_gens (t s : State) : (t.keeps s).gens = t.gens := (rfl)
@[simp] theorem State.keeps_windows (t s : State) : (t.keeps s).windows = t.windows := (rfl)
@[simp] theorem State.keeps_exch (t s : State) : (t.keeps s).exch = t.exch := (rfl)
@[simp] theorem State.keeps_cors (t s : State) : (t.keeps s).cors = t.cors := (rfl)
@[simp] theorem State.keeps_sliceQ (t s : State) : (t.keeps s).sliceQ = t.sliceQ := (rfl)
@[simp] theorem State.keeps_smap (t s : State) : (t.keeps s).smap = t.smap := (rfl)
@[simp] theorem State.keeps_stas (t s : State) : (t.keeps s).stas = t.stas := (rfl)
@[simp] theorem State.keeps_staNext (t s : State) : (t.keeps s).staNext = t.staNext := (rfl)
@[simp] theorem State.keeps_grps (t s : State) : (t.keeps s).grps = t.grps := (rfl)
@[simp] theorem State.keeps_handoffs (t s : State) : (t.keeps s).handoffs = t.handoffs := (rfl)
@[simp] theorem State.keeps_recs (t s : State) : (t.keeps s).recs = t.recs := (rfl)
@[simp] theorem State.keeps_nextRec (t s : State) : (t.keeps s).nextRec = t.nextRec := (rfl)
@[simp] theorem State.keeps_ctxs (t s : State) : (t.keeps s).ctxs = t.ctxs := (rfl)
@[simp] theorem State.keeps_lastGrant (t s : State) : (t.keeps s).lastGrant = t.lastGrant := (rfl)
@[simp] theorem State.keeps_rings (t s : State) : (t.keeps s).rings = t.rings := (rfl)
@[simp] theorem State.keeps_msixFm (t s : State) : (t.keeps s).msixFm = t.msixFm := (rfl)
@[simp] theorem State.keeps_vecs (t s : State) : (t.keeps s).vecs = t.vecs := (rfl)
@[simp] theorem State.keeps_bars (t s : State) : (t.keeps s).bars = t.bars := (rfl)
@[simp] theorem State.keeps_msixPend (t s : State) : (t.keeps s).msixPend = t.msixPend := (rfl)
@[simp] theorem State.keeps_pciLim (t s : State) : (t.keeps s).pciLim = t.pciLim := (rfl)
@[simp] theorem State.keeps_trkWait (t s : State) : (t.keeps s).trkWait = t.trkWait := (rfl)
@[simp] theorem State.keeps_launches (t s : State) : (t.keeps s).launches = t.launches := (rfl)
@[simp] theorem State.keeps_lastLaunch (t s : State) : (t.keeps s).lastLaunch = t.lastLaunch := (rfl)
@[simp] theorem State.keeps_sessions (t s : State) : (t.keeps s).sessions = t.sessions := (rfl)
@[simp] theorem State.keeps_vols (t s : State) : (t.keeps s).vols = t.vols := (rfl)
@[simp] theorem State.keeps_srcs (t s : State) : (t.keeps s).srcs = t.srcs := (rfl)
@[simp] theorem State.keeps_recon (t s : State) : (t.keeps s).recon = t.recon := (rfl)
@[simp] theorem State.keeps_remaps (t s : State) : (t.keeps s).remaps = t.remaps := (rfl)
@[simp] theorem State.keeps_corrected (t s : State) : (t.keeps s).corrected = t.corrected := (rfl)
@[simp] theorem State.keeps_sevSet (t s : State) : (t.keeps s).sevSet = t.sevSet := (rfl)
@[simp] theorem State.keeps_cans (t s : State) : (t.keeps s).cans = t.cans := (rfl)
@[simp] theorem State.keeps_todo (t s : State) : (t.keeps s).todo = t.todo := (rfl)
@[simp] theorem State.keeps_free (t s : State) : (t.keeps s).free = t.free := (rfl)
@[simp] theorem State.keeps_out (t s : State) : (t.keeps s).out = t.out := (rfl)
@[simp] theorem State.keeps_pending (t s : State) : (t.keeps s).pending = s.pending := (rfl)

/-! ### A port counts packets -/

@[simp] theorem State.tlps_part (s : State) (d m n : Nat) : (s.tlps d m n).part = s.part := by unfold State.tlps; dsimp only; split <;> split <;> rfl
@[simp] theorem State.tlps_regs (s : State) (d m n : Nat) : (s.tlps d m n).regs = s.regs := by unfold State.tlps; dsimp only; split <;> split <;> rfl
@[simp] theorem State.tlps_inj (s : State) (d m n : Nat) : (s.tlps d m n).inj = s.inj := by unfold State.tlps; dsimp only; split <;> split <;> rfl
@[simp] theorem State.tlps_tmr (s : State) (d m n : Nat) : (s.tlps d m n).tmr = s.tmr := by unfold State.tlps; dsimp only; split <;> split <;> rfl
@[simp] theorem State.tlps_indq (s : State) (d m n : Nat) : (s.tlps d m n).indq = s.indq := by unfold State.tlps; dsimp only; split <;> split <;> rfl
@[simp] theorem State.tlps_prt (s : State) (d m n : Nat) : (s.tlps d m n).prt = s.prt := by unfold State.tlps; dsimp only; split <;> split <;> rfl
@[simp] theorem State.tlps_commits (s : State) (d m n : Nat) : (s.tlps d m n).commits = s.commits := by unfold State.tlps; dsimp only; split <;> split <;> rfl
@[simp] theorem State.tlps_slots (s : State) (d m n : Nat) : (s.tlps d m n).slots = s.slots := by unfold State.tlps; dsimp only; split <;> split <;> rfl
@[simp] theorem State.tlps_journal (s : State) (d m n : Nat) : (s.tlps d m n).journal = s.journal := by unfold State.tlps; dsimp only; split <;> split <;> rfl
@[simp] theorem State.tlps_ringNo (s : State) (d m n : Nat) : (s.tlps d m n).ringNo = s.ringNo := by unfold State.tlps; dsimp only; split <;> split <;> rfl
@[simp] theorem State.tlps_leader (s : State) (d m n : Nat) : (s.tlps d m n).leader = s.leader := by unfold State.tlps; dsimp only; split <;> split <;> rfl
@[simp] theorem State.tlps_leaderSt (s : State) (d m n : Nat) : (s.tlps d m n).leaderSt = s.leaderSt := by unfold State.tlps; dsimp only; split <;> split <;> rfl
@[simp] theorem State.tlps_epoch (s : State) (d m n : Nat) : (s.tlps d m n).epoch = s.epoch := by unfold State.tlps; dsimp only; split <;> split <;> rfl
@[simp] theorem State.tlps_clusters (s : State) (d m n : Nat) : (s.tlps d m n).clusters = s.clusters := by unfold State.tlps; dsimp only; split <;> split <;> rfl
@[simp] theorem State.tlps_isolated (s : State) (d m n : Nat) : (s.tlps d m n).isolated = s.isolated := by unfold State.tlps; dsimp only; split <;> split <;> rfl
@[simp] theorem State.tlps_outUnits (s : State) (d m n : Nat) : (s.tlps d m n).outUnits = s.outUnits := by unfold State.tlps; dsimp only; split <;> split <;> rfl
@[simp] theorem State.tlps_halted (s : State) (d m n : Nat) : (s.tlps d m n).halted = s.halted := by unfold State.tlps; dsimp only; split <;> split <;> rfl
@[simp] theorem State.tlps_aliveOn (s : State) (d m n : Nat) : (s.tlps d m n).aliveOn = s.aliveOn := by unfold State.tlps; dsimp only; split <;> split <;> rfl
@[simp] theorem State.tlps_irqAt (s : State) (d m n : Nat) : (s.tlps d m n).irqAt = s.irqAt := by unfold State.tlps; dsimp only; split <;> split <;> rfl
@[simp] theorem State.tlps_irqHeld (s : State) (d m n : Nat) : (s.tlps d m n).irqHeld = s.irqHeld := by unfold State.tlps; dsimp only; split <;> split <;> rfl
@[simp] theorem State.tlps_knb (s : State) (d m n : Nat) : (s.tlps d m n).knb = s.knb := by unfold State.tlps; dsimp only; split <;> split <;> rfl
@[simp] theorem State.tlps_clock (s : State) (d m n : Nat) : (s.tlps d m n).clock = s.clock := by unfold State.tlps; dsimp only; split <;> split <;> rfl
@[simp] theorem State.tlps_ptp (s : State) (d m n : Nat) : (s.tlps d m n).ptp = s.ptp := by unfold State.tlps; dsimp only; split <;> split <;> rfl
@[simp] theorem State.tlps_boot (s : State) (d m n : Nat) : (s.tlps d m n).boot = s.boot := by unfold State.tlps; dsimp only; split <;> split <;> rfl
@[simp] theorem State.tlps_jtagCe (s : State) (d m n : Nat) : (s.tlps d m n).jtagCe = s.jtagCe := by unfold State.tlps; dsimp only; split <;> split <;> rfl
@[simp] theorem State.tlps_taps (s : State) (d m n : Nat) : (s.tlps d m n).taps = s.taps := by unfold State.tlps; dsimp only; split <;> split <;> rfl
@[simp] theorem State.tlps_lanes (s : State) (d m n : Nat) : (s.tlps d m n).lanes = s.lanes := by unfold State.tlps; dsimp only; split <;> split <;> rfl
@[simp] theorem State.tlps_lmap (s : State) (d m n : Nat) : (s.tlps d m n).lmap = s.lmap := by unfold State.tlps; dsimp only; split <;> split <;> rfl
@[simp] theorem State.tlps_swaps (s : State) (d m n : Nat) : (s.tlps d m n).swaps = s.swaps := by unfold State.tlps; dsimp only; split <;> split <;> rfl
@[simp] theorem State.tlps_links (s : State) (d m n : Nat) : (s.tlps d m n).links = s.links := by unfold State.tlps; dsimp only; split <;> split <;> rfl
@[simp] theorem State.tlps_chans (s : State) (d m n : Nat) : (s.tlps d m n).chans = s.chans := by unfold State.tlps; dsimp only; split <;> split <;> rfl
@[simp] theorem State.tlps_sets (s : State) (d m n : Nat) : (s.tlps d m n).sets = s.sets := by unfold State.tlps; dsimp only; split <;> split <;> rfl
@[simp] theorem State.tlps_sources (s : State) (d m n : Nat) : (s.tlps d m n).sources = s.sources := by unfold State.tlps; dsimp only; split <;> split <;> rfl
@[simp] theorem State.tlps_reps (s : State) (d m n : Nat) : (s.tlps d m n).reps = s.reps := by unfold State.tlps; dsimp only; split <;> split <;> rfl
@[simp] theorem State.tlps_gens (s : State) (d m n : Nat) : (s.tlps d m n).gens = s.gens := by unfold State.tlps; dsimp only; split <;> split <;> rfl
@[simp] theorem State.tlps_windows (s : State) (d m n : Nat) : (s.tlps d m n).windows = s.windows := by unfold State.tlps; dsimp only; split <;> split <;> rfl
@[simp] theorem State.tlps_exch (s : State) (d m n : Nat) : (s.tlps d m n).exch = s.exch := by unfold State.tlps; dsimp only; split <;> split <;> rfl
@[simp] theorem State.tlps_cors (s : State) (d m n : Nat) : (s.tlps d m n).cors = s.cors := by unfold State.tlps; dsimp only; split <;> split <;> rfl
@[simp] theorem State.tlps_sliceQ (s : State) (d m n : Nat) : (s.tlps d m n).sliceQ = s.sliceQ := by unfold State.tlps; dsimp only; split <;> split <;> rfl
@[simp] theorem State.tlps_smap (s : State) (d m n : Nat) : (s.tlps d m n).smap = s.smap := by unfold State.tlps; dsimp only; split <;> split <;> rfl
@[simp] theorem State.tlps_stas (s : State) (d m n : Nat) : (s.tlps d m n).stas = s.stas := by unfold State.tlps; dsimp only; split <;> split <;> rfl
@[simp] theorem State.tlps_staNext (s : State) (d m n : Nat) : (s.tlps d m n).staNext = s.staNext := by unfold State.tlps; dsimp only; split <;> split <;> rfl
@[simp] theorem State.tlps_grps (s : State) (d m n : Nat) : (s.tlps d m n).grps = s.grps := by unfold State.tlps; dsimp only; split <;> split <;> rfl
@[simp] theorem State.tlps_handoffs (s : State) (d m n : Nat) : (s.tlps d m n).handoffs = s.handoffs := by unfold State.tlps; dsimp only; split <;> split <;> rfl
@[simp] theorem State.tlps_recs (s : State) (d m n : Nat) : (s.tlps d m n).recs = s.recs := by unfold State.tlps; dsimp only; split <;> split <;> rfl
@[simp] theorem State.tlps_nextRec (s : State) (d m n : Nat) : (s.tlps d m n).nextRec = s.nextRec := by unfold State.tlps; dsimp only; split <;> split <;> rfl
@[simp] theorem State.tlps_ctxs (s : State) (d m n : Nat) : (s.tlps d m n).ctxs = s.ctxs := by unfold State.tlps; dsimp only; split <;> split <;> rfl
@[simp] theorem State.tlps_lastGrant (s : State) (d m n : Nat) : (s.tlps d m n).lastGrant = s.lastGrant := by unfold State.tlps; dsimp only; split <;> split <;> rfl
@[simp] theorem State.tlps_rings (s : State) (d m n : Nat) : (s.tlps d m n).rings = s.rings := by unfold State.tlps; dsimp only; split <;> split <;> rfl
@[simp] theorem State.tlps_msixFm (s : State) (d m n : Nat) : (s.tlps d m n).msixFm = s.msixFm := by unfold State.tlps; dsimp only; split <;> split <;> rfl
@[simp] theorem State.tlps_vecs (s : State) (d m n : Nat) : (s.tlps d m n).vecs = s.vecs := by unfold State.tlps; dsimp only; split <;> split <;> rfl
@[simp] theorem State.tlps_bars (s : State) (d m n : Nat) : (s.tlps d m n).bars = s.bars := by unfold State.tlps; dsimp only; split <;> split <;> rfl
@[simp] theorem State.tlps_msixPend (s : State) (d m n : Nat) : (s.tlps d m n).msixPend = s.msixPend := by unfold State.tlps; dsimp only; split <;> split <;> rfl
@[simp] theorem State.tlps_pciLim (s : State) (d m n : Nat) : (s.tlps d m n).pciLim = s.pciLim := by unfold State.tlps; dsimp only; split <;> split <;> rfl
@[simp] theorem State.tlps_trkWait (s : State) (d m n : Nat) : (s.tlps d m n).trkWait = s.trkWait := by unfold State.tlps; dsimp only; split <;> split <;> rfl
@[simp] theorem State.tlps_launches (s : State) (d m n : Nat) : (s.tlps d m n).launches = s.launches := by unfold State.tlps; dsimp only; split <;> split <;> rfl
@[simp] theorem State.tlps_lastLaunch (s : State) (d m n : Nat) : (s.tlps d m n).lastLaunch = s.lastLaunch := by unfold State.tlps; dsimp only; split <;> split <;> rfl
@[simp] theorem State.tlps_sessions (s : State) (d m n : Nat) : (s.tlps d m n).sessions = s.sessions := by unfold State.tlps; dsimp only; split <;> split <;> rfl
@[simp] theorem State.tlps_vols (s : State) (d m n : Nat) : (s.tlps d m n).vols = s.vols := by unfold State.tlps; dsimp only; split <;> split <;> rfl
@[simp] theorem State.tlps_srcs (s : State) (d m n : Nat) : (s.tlps d m n).srcs = s.srcs := by unfold State.tlps; dsimp only; split <;> split <;> rfl
@[simp] theorem State.tlps_recon (s : State) (d m n : Nat) : (s.tlps d m n).recon = s.recon := by unfold State.tlps; dsimp only; split <;> split <;> rfl
@[simp] theorem State.tlps_remaps (s : State) (d m n : Nat) : (s.tlps d m n).remaps = s.remaps := by unfold State.tlps; dsimp only; split <;> split <;> rfl
@[simp] theorem State.tlps_corrected (s : State) (d m n : Nat) : (s.tlps d m n).corrected = s.corrected := by unfold State.tlps; dsimp only; split <;> split <;> rfl
@[simp] theorem State.tlps_sevSet (s : State) (d m n : Nat) : (s.tlps d m n).sevSet = s.sevSet := by unfold State.tlps; dsimp only; split <;> split <;> rfl
@[simp] theorem State.tlps_cans (s : State) (d m n : Nat) : (s.tlps d m n).cans = s.cans := by unfold State.tlps; dsimp only; split <;> split <;> rfl
@[simp] theorem State.tlps_todo (s : State) (d m n : Nat) : (s.tlps d m n).todo = s.todo := by unfold State.tlps; dsimp only; split <;> split <;> rfl
@[simp] theorem State.tlps_free (s : State) (d m n : Nat) : (s.tlps d m n).free = s.free := by unfold State.tlps; dsimp only; split <;> split <;> rfl
@[simp] theorem State.tlps_out (s : State) (d m n : Nat) : (s.tlps d m n).out = s.out := by unfold State.tlps; dsimp only; split <;> split <;> rfl
@[simp] theorem State.tlps_pending (s : State) (d m n : Nat) : (s.tlps d m n).pending = s.pending := by unfold State.tlps; dsimp only; split <;> split <;> rfl

end Sys2Proof.Machine
end

