-- ==== Sys2Proof/Laws/Store.lean ====
section
/-!
SUPPORT. The laws of sparse tables: a read after a write, the canonical form, and of bit fields.
-/
namespace Sys2Proof.Machine
open Sys2Proof

variable {α : Type}

@[simp] theorem tget_nil (k : Nat) : tget ([] : Tbl α) k = none := rfl

theorem tget_cons (k' : Nat) (v : α) (t : Tbl α) (k : Nat) : tget ((k', v) :: t) k = if k = k' then some v else tget t k := rfl

@[simp] theorem tget_tset_same (t : Tbl α) (k : Nat) (v : α) : tget (tset t k v) k = some v := by
  induction t with
  | nil => simp [tset, tget_cons]
  | cons e t ih =>
    obtain ⟨k', v'⟩ := e
    unfold tset
    split
    · simp [tget_cons]
    · split
      · simp [tget_cons]
      · simp [tget_cons, *]

theorem tget_tset_ne (t : Tbl α) {k j : Nat} (v : α) (h : j ≠ k) : tget (tset t k v) j = tget t j := by
  induction t with
  | nil => simp [tset, tget_cons, h]
  | cons e t ih =>
    obtain ⟨k', v'⟩ := e
    unfold tset
    split
    · simp [tget_cons, h]
    · split
      · rename_i h1; subst h1; simp [tget_cons, h]
      · simp [tget_cons, ih]

@[simp] theorem tget_tdel_same (t : Tbl α) (k : Nat) : tget (tdel t k) k = none := by
  induction t with
  | nil => rfl
  | cons e t ih =>
    obtain ⟨k', v'⟩ := e
    unfold tdel
    split
    · exact ih
    · simp [tget_cons, *]

theorem tget_tdel_ne (t : Tbl α) {k j : Nat} (h : j ≠ k) : tget (tdel t k) j = tget t j := by
  induction t with
  | nil => rfl
  | cons e t ih =>
    obtain ⟨k', v'⟩ := e
    unfold tdel
    split
    · rename_i h1; subst h1; simp [tget_cons, h, ih]
    · simp [tget_cons, ih]

variable [DecidableEq α]

/-- Reading a key after a write of it gives the value, the default included. -/
@[simp] theorem tput_get_same (t : Tbl α) (k : Nat) (d v : α) : (tget (tput t k d v) k).getD d = v := by
  unfold tput
  split
  · rename_i h; subst h; simp
  · simp

theorem tput_get_ne (t : Tbl α) {k j : Nat} (d v : α) (h : j ≠ k) : tget (tput t k d v) j = tget t j := by
  unfold tput
  split
  · exact tget_tdel_ne t h
  · exact tget_tset_ne t v h

/-! ### The canonical form -/

omit [DecidableEq α] in
theorem rising_cons {a : Nat × α} {t : Tbl α} : Tbl.rising (a :: t) = true ↔ (∀ b ∈ t.head?, a.1 < b.1) ∧ Tbl.rising t = true := by
  cases t <;> simp [Tbl.rising]

omit [DecidableEq α] in
theorem tset_head (t : Tbl α) (k : Nat) (v : α) (m : Nat) (hm : m < k) (h : ∀ b ∈ t.head?, m < b.1) :
    ∀ b ∈ (tset t k v).head?, m < b.1 := by
  cases t with
  | nil => simpa [tset] using hm
  | cons e t =>
    obtain ⟨k', v'⟩ := e
    have h' : m < k' := by simpa using h
    unfold tset
    split
    · simpa using hm
    · split <;> simpa using by omega

omit [DecidableEq α] in
/-- Writing a key keeps the keys strictly rising. -/
theorem tset_rising (t : Tbl α) (k : Nat) (v : α) (h : Tbl.rising t = true) : Tbl.rising (tset t k v) = true := by
  induction t with
  | nil => rfl
  | cons e t ih =>
    obtain ⟨k', v'⟩ := e
    have h2 := rising_cons.mp h
    unfold tset
    split
    · refine rising_cons.mpr ⟨?_, h⟩; simpa
    · split
      · rename_i h3; subst h3; exact rising_cons.mpr ⟨h2.1, h2.2⟩
      · exact rising_cons.mpr ⟨tset_head t k v k' (by omega) h2.1, ih h2.2⟩

omit [DecidableEq α] in
theorem rising_lt {t : Tbl α} {m : Nat} (h : Tbl.rising t = true) (hm : ∀ b ∈ t.head?, m < b.1) : ∀ b ∈ t, m < b.1 := by
  induction t generalizing m with
  | nil => simp
  | cons e t ih =>
    have h2 := rising_cons.mp h
    have h1 : m < e.1 := by simpa using hm
    intro b hb
    rcases List.mem_cons.mp hb with rfl | hb
    · exact h1
    · exact lt_trans h1 (ih h2.2 h2.1 b hb)

omit [DecidableEq α] in
theorem tdel_sub (t : Tbl α) (k : Nat) : ∀ b ∈ tdel t k, b ∈ t := by
  induction t with
  | nil => simp [tdel]
  | cons e t ih =>
    obtain ⟨k', v'⟩ := e
    intro b hb
    unfold tdel at hb
    split at hb
    · exact List.mem_cons_of_mem _ (ih b hb)
    · rcases List.mem_cons.mp hb with rfl | hb
      · simp
      · exact List.mem_cons_of_mem _ (ih b hb)

omit [DecidableEq α] in
/-- Removing a key keeps the keys strictly rising. -/
theorem tdel_rising (t : Tbl α) (k : Nat) (h : Tbl.rising t = true) : Tbl.rising (tdel t k) = true := by
  induction t with
  | nil => rfl
  | cons e t ih =>
    obtain ⟨k', v'⟩ := e
    have h2 := rising_cons.mp h
    unfold tdel
    split
    · exact ih h2.2
    · refine rising_cons.mpr ⟨fun b hb => ?_, ih h2.2⟩
      exact rising_lt h2.2 h2.1 b (tdel_sub t k b (List.mem_of_mem_head? hb))

/-- A write of a register keeps the keys strictly rising. -/
theorem tput_rising (t : Tbl α) (k : Nat) (d v : α) (h : Tbl.rising t = true) : Tbl.rising (tput t k d v) = true := by
  unfold tput
  split
  · exact tdel_rising t k h
  · exact tset_rising t k v h

/-! ### Bit fields -/

theorem bits_lt (w : Word) (hi lo : Nat) : bits w hi lo < 2 ^ (hi + 1 - lo) := Nat.mod_lt _ (by positivity)

theorem bits_one (w : Word) (i : Nat) : bits w i i = (w.getLsbD i).toNat := by
  simp only [bits, BitVec.getLsbD, Nat.testBit_eq_decide_div_mod_eq]
  rw [show i + 1 - i = 1 by omega]
  rcases Nat.mod_two_eq_zero_or_one (w.toNat / 2 ^ i) with h | h <;> simp [h]

theorem bitMask_getLsbD (hi lo i : Nat) (h : i < 32) : (bitMask hi lo).getLsbD i = (decide (lo ≤ i) && decide (i ≤ hi)) := by
  simp only [bitMask, BitVec.getLsbD_ofNat, h, decide_true, Bool.true_and]
  rw [Nat.testBit_mul_two_pow]
  by_cases h1 : lo ≤ i
  · simp only [h1, decide_true, Bool.true_and]
    rw [Nat.testBit_two_pow_sub_one]
    congr 1
    apply propext
    constructor <;> intro <;> omega
  · simp [h1]

/-- The bits of a word with a field replaced. -/
theorem putBits_getLsbD (w : Word) (hi lo v i : Nat) (h : i < 32) :
    (putBits w hi lo v).getLsbD i = if lo ≤ i ∧ i ≤ hi then v.testBit (i - lo) else w.getLsbD i := by
  have h2 : (BitVec.ofNat 32 (v % 2 ^ (hi + 1 - lo) * 2 ^ lo) : Word).getLsbD i = (decide (lo ≤ i) && (decide (i ≤ hi) && v.testBit (i - lo))) := by
    simp only [BitVec.getLsbD_ofNat, h, decide_true, Bool.true_and]
    rw [Nat.testBit_mul_two_pow, Nat.testBit_mod_two_pow]
    by_cases h1 : lo ≤ i
    · simp only [h1, decide_true, Bool.true_and]
      congr 2
      apply propext
      constructor <;> intro <;> omega
    · simp [h1]
  simp only [putBits, BitVec.getLsbD_or, BitVec.getLsbD_and, BitVec.getLsbD_not, h, decide_true, Bool.true_and, bitMask_getLsbD _ _ _ h, h2]
  by_cases h1 : lo ≤ i <;> by_cases h3 : i ≤ hi <;> simp [h1, h3]

theorem bits_testBit (w : Word) (hi lo j : Nat) : (bits w hi lo).testBit j = (decide (j < hi + 1 - lo) && w.getLsbD (lo + j)) := by
  simp only [bits, Nat.testBit_mod_two_pow, ← Nat.shiftRight_eq_div_pow, Nat.testBit_shiftRight, BitVec.testBit_toNat]

/-- Two words with equal bits in a field have equal fields. -/
theorem bits_ext {w u : Word} {hi lo : Nat} (h : ∀ i, lo ≤ i → i ≤ hi → i < 32 → w.getLsbD i = u.getLsbD i) : bits w hi lo = bits u hi lo := by
  apply Nat.eq_of_testBit_eq
  intro j
  rw [bits_testBit, bits_testBit]
  by_cases hj : j < hi + 1 - lo
  · simp only [hj, decide_true, Bool.true_and]
    by_cases h2 : lo + j < 32
    · exact h _ (by omega) (by omega) h2
    · rw [BitVec.getLsbD_of_ge _ _ (by omega), BitVec.getLsbD_of_ge _ _ (by omega)]
  · simp [hj]

/-- A field that was replaced reads as its new value. -/
theorem bits_putBits_same (w : Word) {hi lo : Nat} (v : Nat) (h : hi < 32) : bits (putBits w hi lo v) hi lo = v % 2 ^ (hi + 1 - lo) := by
  apply Nat.eq_of_testBit_eq
  intro j
  rw [bits_testBit, Nat.testBit_mod_two_pow]
  by_cases hj : j < hi + 1 - lo
  · rw [putBits_getLsbD _ _ _ _ _ (by omega), if_pos (by omega), Nat.add_sub_cancel_left]
  · simp [hj]

/-- A field that does not overlap it keeps its value. -/
theorem bits_putBits_other (w : Word) {hi lo hi' lo' : Nat} (v : Nat) (h : hi' < lo ∨ hi < lo') : bits (putBits w hi lo v) hi' lo' = bits w hi' lo' :=
  bits_ext fun i h1 h2 h3 => by rw [putBits_getLsbD _ _ _ _ _ h3, if_neg (by omega)]

end Sys2Proof.Machine
end

