-- ==== Sys2Proof/Laws/Mail.lean ====
section
/-!
SUPPORT. What the shared operations over registers, set events and mailbox slots do, once each.
-/
namespace Sys2Proof.Machine
open Sys2Proof

/-! ### Registers -/

@[simp] theorem State.rd_wr_same (s : State) (a : Nat) (v : Word) : (s.wr a v).rd a = v := by
  simp [State.rd, State.wr]

theorem State.rd_wr_ne (s : State) {a x : Nat} (v : Word) (h : x ≠ a) : (s.wr a v).rd x = s.rd x := by
  simp [State.rd, State.wr, tput_get_ne _ _ _ h]

/-- A register that no write has changed reads as before whatever else has. -/
theorem State.rd_congr {s t : State} (hp : t.part = s.part) (hr : t.regs = s.regs) (a : Nat) : t.rd a = s.rd a := by
  simp [State.rd, hp, hr]

@[simp] theorem State.rd_bump (s : State) (a n x : Nat) : (s.bump a n).rd x = s.rd x := (rfl)
@[simp] theorem State.rd_emit (s : State) (o : Out) (x : Nat) : (s.emit o).rd x = s.rd x := (rfl)
@[simp] theorem State.rd_setSlot (s : State) (w k : Nat) (y : Slot) (x : Nat) : (s.setSlot w k y).rd x = s.rd x := (rfl)
@[simp] theorem State.rd_tlps (s : State) (d m n x : Nat) : (s.tlps d m n).rd x = s.rd x := by
  simp [State.rd]

@[simp] theorem State.rd_linkCount (s : State) (a x : Nat) : (s.linkCount a).rd x = s.rd x := (rfl)
theorem State.rd_p_ne (s : State) {b x : Nat} (f : Fld) (v : Nat) (h : x ≠ b + f.off) : (s.p b f v).rd x = s.rd x := by
  simpa [State.p, State.rd] using State.rd_wr_ne s _ h

theorem State.rd_p_same (s : State) (b : Nat) (f : Fld) (v : Nat) :
    (s.p b f v).rd (b + f.off) = putBits (s.rd (b + f.off)) f.hi f.lo v := by
  simpa [State.p, State.rd] using State.rd_wr_same s (b + f.off) (putBits (s.rd (b + f.off)) f.hi f.lo v)

/-- A field that was stored reads as its new value; a field of another register, or of other bits, reads as before. -/
theorem State.g_p_same (s : State) (b : Nat) (f : Fld) (v : Nat) (h : f.hi < 32) : (s.p b f v).g b f = v % 2 ^ f.width := by
  unfold State.g
  rw [State.rd_p_same, bits_putBits_same _ _ h]
  rfl

theorem State.g_p_ne (s : State) {b b' : Nat} (f : Fld) {f' : Fld} (v : Nat) (h : b' + f'.off ≠ b + f.off) : (s.p b f v).g b' f' = s.g b' f' := by
  unfold State.g
  rw [State.rd_p_ne s f v h]

theorem State.g_p_other (s : State) {b b' : Nat} (f : Fld) {f' : Fld} (v : Nat) (h : f'.hi < f.lo ∨ f.hi < f'.lo) :
    (s.p b f v).g b' f' = s.g b' f' := by
  by_cases h2 : b' + f'.off = b + f.off
  · unfold State.g
    rw [h2, State.rd_p_same, bits_putBits_other _ _ h]
  · exact State.g_p_ne s f v h2

theorem State.rd_evt_ne (s : State) {b x : Nat} (e : EvtReg) (l : List Fld) (c : List (Fld × Nat)) (h : x ≠ b + e.off) :
    (s.evt b e l c).rd x = s.rd x := State.rd_wr_ne s _ h

/-- Several events of one cycle keep whatever a write of one register keeps. -/
theorem State.evtN_keeps {β : Type} (f : State → β) (hw : ∀ s a v, f (State.wr s a v) = f s) (s : State) (b : Nat) (e : EvtReg) (l : List Fld)
    (c : List (Fld × Nat)) (n : Nat) : f (s.evtN b e l c n) = f s := by
  unfold State.evtN
  split
  · rfl
  · dsimp only
    split
    · exact hw _ _ _
    · rw [hw]; exact hw _ _ _

theorem State.rd_evtN_ne (s : State) {b x : Nat} (e : EvtReg) (l : List Fld) (c : List (Fld × Nat)) (n : Nat) (h : x ≠ b + e.off) :
    (s.evtN b e l c n).rd x = s.rd x := by
  unfold State.evtN
  split
  · rfl
  · dsimp only
    split
    · exact State.rd_evt_ne s e l c h
    · rw [State.rd_wr_ne _ _ h]; exact State.rd_evt_ne s e l c h

theorem State.rd_own (t s : State) (h : t.part = s.part) (a : Nat) : (t.own s).rd a = t.rd a := State.rd_congr (by simp [h]) (by simp) a
theorem State.rd_keeps (t s : State) (h : t.part = s.part) (a : Nat) : (t.keeps s).rd a = t.rd a := State.rd_congr (by simp [h]) (by simp) a

/-- A measured field changes its own register alone. -/
theorem State.rd_measured_ne (s : State) {b x : Nat} (f : Fld) (h : x ≠ b + f.off) : (s.measured b f).rd x = s.rd x :=
  State.rd_p_ne s.fresh.2 f s.fresh.1 h

/-! ### Reactions -/

/-- With no fault reaction in hand a command ends as its effect left it. -/
@[simp] theorem State.settle_nil (s : State) (h : s.todo = []) : s.settle = s := by
  unfold State.settle State.settleN
  simp [h]

/-! ### MSI-X: only the counters, the messages put out and those pending change -/

theorem State.msix_keeps {β : Type} (f : State → β) (he : ∀ s o, f (State.emit s o) = f s) (ht : ∀ s d m n, f (State.tlps s d m n) = f s)
    (hp : ∀ (s : State) l, f { s with msixPend := l } = f s) (s : State) (d v : Nat) : f (s.msix d v) = f s := by
  unfold State.msix
  split
  · rfl
  · split
    · split
      · rfl
      · exact hp s _
    · rw [ht, he]

/-! ### Slots -/

@[simp] theorem State.slot_setSlot_same (s : State) (w k : Nat) (x : Slot) : (s.setSlot w k x).slot w k = x := by
  simp [State.slot, State.setSlot, tgetD]

theorem State.slot_setSlot_ne (s : State) {w k w' k' : Nat} (x : Slot) (h : slotKey w' k' ≠ slotKey w k) :
    (s.setSlot w k x).slot w' k' = s.slot w' k' := by
  simp [State.slot, State.setSlot, tgetD, tget_tset_ne _ _ h]

/-- Two slots of the part have different keys. -/
theorem slotKey_inj {w k w' k' : Nat} (hk : k < 16) (hk' : k' < 16) (h : slotKey w' k' = slotKey w k) : w' = w ∧ k' = k := by
  unfold slotKey at h; omega

/-! ### Response areas -/

/-- Writing bytes word by word keeps whatever a write of one register keeps. -/
theorem State.wrBytes_keeps {β : Type} (f : State → β) (h : ∀ s a v, f (State.wr s a v) = f s) (l : List Byte) (s : State) (a : Nat) :
    f (s.wrBytes a l) = f s := by
  match l with
  | [] => rfl
  | [_] => rfl
  | [_, _] => rfl
  | [_, _, _] => rfl
  | b0 :: b1 :: b2 :: b3 :: t => rw [State.wrBytes, State.wrBytes_keeps f h t, h]

/-- It changes the words of the bytes alone. -/
theorem State.wrBytes_frame (l : List Byte) (s : State) (a x : Nat) (hx : x < a ∨ a + l.length ≤ x) : (s.wrBytes a l).rd x = s.rd x := by
  match l with
  | [] => rfl
  | [_] => rfl
  | [_, _] => rfl
  | [_, _, _] => rfl
  | b0 :: b1 :: b2 :: b3 :: t =>
    have hx' : x < a ∨ a + (t.length + 4) ≤ x := by simpa using hx
    rw [State.wrBytes, State.wrBytes_frame t _ (a + 4) x (by omega), State.rd_wr_ne _ _ (by omega)]

/-- The word at each place of bytes that were written. -/
theorem State.wrBytes_word (l : List Byte) (s : State) (a i : Nat) (h : 4 * i + 4 ≤ l.length) :
    (s.wrBytes a l).rd (a + 4 * i) = BitVec.ofNat 32 (leAt l (4 * i) 4) := by
  match l, i with
  | [], i => simp at h
  | [_], i => simp at h
  | [_, _], i => simp at h
  | [_, _, _], i => simp at h
  | b0 :: b1 :: b2 :: b3 :: t, 0 =>
    rw [State.wrBytes, Nat.mul_zero, show a + 0 = a from rfl, State.wrBytes_frame t _ (a + 4) a (by omega), State.rd_wr_same]
    simp [leAt, bytesAt]
  | b0 :: b1 :: b2 :: b3 :: t, i + 1 =>
    have ht : 4 * i + 4 ≤ t.length := by simp at h; omega
    rw [State.wrBytes, show a + 4 * (i + 1) = (a + 4) + 4 * i by ring, State.wrBytes_word t _ (a + 4) i ht]
    simp [leAt, bytesAt, Nat.mul_add, List.drop]

theorem leBytes_length (n v : Nat) : (leBytes n v).length = n := by
  induction n generalizing v with
  | zero => rfl
  | succ n ih => simp [leBytes, ih]

theorem bytesAt_length (l : List Byte) (o n : Nat) : (bytesAt l o n).length = n := by
  simp [bytesAt]

theorem rspBytes_length (status tag opc detail rflags epoch : Nat) (result : List Byte) :
    (rspBytes status tag opc detail rflags epoch result).length = 256 := by
  simp [rspBytes, leBytes_length, bytesAt_length]

end Sys2Proof.Machine
end

