-- ==== Sys2Proof/Laws/Commands.lean ====
section
/-!
SUPPORT. How each kind of command ends, and what the end of a mailbox command does.
-/
namespace Sys2Proof.Machine
open Sys2Proof

/-! ### The kinds of command -/

theorem State.having_next {s t : State} {has : Bool} {f : State → State} (h : s.having has f = .next t) :
    has = true ∧ t = (f s).keeps s := by
  unfold State.having at h
  split at h
  · exact ⟨by assumption, by injection h with h; exact h.symm⟩
  · cases h

theorem State.reaching_next {s t : State} {has : Bool} {f : State → State} (h : s.reaching has f = .next t) :
    has = true ∧ t = (f s).own s := by
  unfold State.reaching at h
  split at h
  · exact ⟨by assumption, by injection h with h; exact h.symm⟩
  · cases h

/-- A mailbox command that answers next has kept what every command keeps. -/
theorem cmdRun_next {opc w k : Nat} {body : Nat → Nat → State → Rsp} {s t : State} (h : cmdRun opc body w k s = .next t) :
    ∃ u : State, t = u.keeps s := ⟨_, (State.having_next h).2⟩

theorem State.onDie_next {s t : State} {d : Nat} {has : Bool} {f : State → State} (h : s.onDie d has f = .next t) :
    ∃ u : State, t = u.keeps s := ⟨_, (State.having_next h).2⟩

theorem State.onPart_next {s t : State} {has : Bool} {f : State → State} (h : s.onPart has f = .next t) :
    ∃ u : State, t = u.keeps s := ⟨_, (State.having_next h).2⟩

theorem State.onReset_next {s t : State} {f : State → State} (h : s.onReset f = .next t) : t = (f s).own s := (State.reaching_next h).2

/-- A started command of a slot is carried out. -/
theorem cmdRun_runs {opc w k : Nat} {s : State} (body : Nat → Nat → State → Rsp) (hw : w < 4) (hk : k < 16) (hr : s.runs w k opc = true) :
    cmdRun opc body w k s = .next (s.answered w k opc (body w k s)) := by
  simp [cmdRun, State.having, State.answered, hw, hk, hr]

/-- An event on a die that is there is carried out. -/
theorem State.onDie_up {s : State} {d : Nat} {has : Bool} (f : State → State) (hd : s.dieUp d = true) (hh : has = true) :
    s.onDie d has f = .next (s.reacted f) := by
  have h1 : d < s.nd := by
    unfold State.dieUp at hd
    simp at hd
    exact hd.1
  simp [State.onDie, State.having, State.reacted, hd, hh, h1]

theorem State.onPart_has {s : State} {has : Bool} (f : State → State) (hh : has = true) : s.onPart has f = .next (s.reacted f) := by
  simp [State.onPart, State.having, State.reacted, hh]

/-! ### The end of a mailbox command -/

theorem mbx_doneEv_below (w k : Nat) : mbxBase w + R.MBX_DONE_EV_E.off < rspBase w k := by
  simp [mbxBase, rspBase, R.MBX_DONE_EV_E]; omega

/-- Completing a slot keeps what neither a register, a counter, a message nor the slots change. -/
theorem State.finish_keeps {β : Type} (f : State → β) (hw : ∀ s a v, f (State.wr s a v) = f s) (hb : ∀ s a n, f (State.bump s a n) = f s)
    (hs : ∀ s w k x, f (State.setSlot s w k x) = f s) (he : ∀ s o, f (State.emit s o) = f s)
    (ht : ∀ s d m n, f (State.tlps s d m n) = f s) (hp : ∀ (s : State) l, f { s with msixPend := l } = f s)
    (s : State) (w k status detail rflags : Nat) (result : List Byte) : f (s.finish w k status detail result rflags) = f s := by
  have hv : ∀ s b e l c, f (State.evt s b e l c) = f s := fun s b e l c => hw s _ _
  unfold State.finish
  dsimp only
  split
  · rw [State.msix_keeps f he ht hp, hb, hv, hs, State.wrBytes_keeps f hw]
  · rw [hb, hv, hs, State.wrBytes_keeps f hw]

theorem State.finish_part (s : State) (w k status detail rflags : Nat) (result : List Byte) :
    (s.finish w k status detail result rflags).part = s.part :=
  State.finish_keeps State.part (by simp) (by simp) (by simp) (by simp) (by simp) (fun _ _ => rfl) ..

theorem State.finish_todo (s : State) (w k status detail rflags : Nat) (result : List Byte) :
    (s.finish w k status detail result rflags).todo = s.todo :=
  State.finish_keeps State.todo (by simp) (by simp) (by simp) (by simp) (by simp) (fun _ _ => rfl) ..

/-- The slot becomes DONE; no other slot changes. -/
theorem State.finish_slots (s : State) (w k status detail rflags : Nat) (result : List Byte) :
    (s.finish w k status detail result rflags).slots = tset s.slots (slotKey w k) { s.slot w k with st := .done, held := false } := by
  have hr : ∀ l, (s.wrBytes (rspBase w k) l).slots = s.slots := fun l => State.wrBytes_keeps State.slots (by simp) l s _
  unfold State.finish
  dsimp only
  split
  · rw [State.msix_keeps State.slots (by simp) (by simp) (fun _ _ => rfl)]
    simp [State.setSlot, hr]
  · simp [State.setSlot, hr]

/-- What the registers hold after a completion: the response area, the set event of MBX_DONE_EV, and all others as before. -/
theorem State.finish_rd (s : State) (w k status detail rflags : Nat) (result : List Byte) (x : Nat) (hx : x ≠ mbxBase w + R.MBX_DONE_EV_E.off) :
    (s.finish w k status detail result rflags).rd x
      = (s.wrBytes (rspBase w k) (rspBytes status (s.slot w k).tag (s.opcode w k) detail rflags s.epoch result)).rd x := by
  have hm : ∀ (s : State) d v, (s.msix d v).rd x = s.rd x :=
    State.msix_keeps (fun s => s.rd x) (by simp) (by simp) (fun _ _ => rfl)
  unfold State.finish
  dsimp only
  split
  · rw [hm, State.rd_bump, State.rd_evt_ne _ _ _ _ hx, State.rd_setSlot]
  · rw [State.rd_bump, State.rd_evt_ne _ _ _ _ hx, State.rd_setSlot]

theorem State.finish_response (s : State) (w k status detail rflags : Nat) (result : List Byte) (i : Nat) (hi : i < 64) :
    (s.finish w k status detail result rflags).rd (rspBase w k + 4 * i)
      = BitVec.ofNat 32 (leAt (rspBytes status (s.slot w k).tag (s.opcode w k) detail rflags s.epoch result) (4 * i) 4) := by
  have := mbx_doneEv_below w k
  rw [State.finish_rd _ _ _ _ _ _ _ _ (by omega), State.wrBytes_word _ _ _ _ (by rw [rspBytes_length]; omega)]

theorem State.finish_frame (s : State) (w k status detail rflags : Nat) (result : List Byte) (x : Nat)
    (hx : x ≠ mbxBase w + R.MBX_DONE_EV_E.off) (hr : x < rspBase w k ∨ rspBase w k + 256 ≤ x) :
    (s.finish w k status detail result rflags).rd x = s.rd x := by
  rw [State.finish_rd _ _ _ _ _ _ _ _ hx, State.wrBytes_frame _ _ _ _ (by rw [rspBytes_length]; exact hr)]

end Sys2Proof.Machine
end

