-- ==== Sys2Proof/Laws/Access.lean ====
section
/-!
SUPPORT. What an access of a port does: the words it touches, what every access keeps, and a permitted write of one register.
-/
namespace Sys2Proof.Machine
open Sys2Proof

/-! ### The words of an aligned access -/

theorem accWords_write (a : WAcc) (h : a.addr % 4 = 0) : accWords (accWrite a) = [a.addr] := by
  have h1 : (a.addr + 4 + 3) / 4 - a.addr / 4 = 1 := by omega
  have h2 : 4 * (a.addr / 4) = a.addr := by omega
  simp [accWords, accEnables, accWrite, h1, h2, List.range_succ]

theorem accWords_read (a : WAcc) (h : a.addr % 4 = 0) : accWords (accRead a) = [a.addr] := by
  have h1 : (a.addr + 4 + 3) / 4 - a.addr / 4 = 1 := by omega
  have h2 : 4 * (a.addr / 4) = a.addr := by omega
  simp [accWords, accEnables, accRead, h1, h2, List.range_succ]

theorem accWord_write (a : WAcc) : accWord (accWrite a) a.addr = (a.val, 0xFFFFFFFF#32) := by
  have hv := a.val.isLt
  have h8 : ∀ v : Nat, v % 256 + v / 256 % 256 * 256 + v / 65536 % 256 * 65536 + v / 16777216 % 256 * 16777216 = v % 4294967296 := by
    intro v; omega
  have : BitVec.ofNat 32 (a.val.toNat % 256 + a.val.toNat / 256 % 256 * 256 + a.val.toNat / 65536 % 256 * 65536
      + a.val.toNat / 16777216 % 256 * 16777216) = a.val := by
    rw [h8, Nat.mod_eq_of_lt hv]; simp
  simpa [accWord, accEnables, accWrite, leBytes, Nat.div_div_eq_div_mul] using this

theorem accWord_read_mask (a : WAcc) : (accWord (accRead a) a.addr).2 = 0xFFFFFFFF#32 := by
  simp [accWord, accEnables, accRead]

/-! ### What every access keeps -/

/-- One word of an access leaves the table in force, and adds at most its own accepted commit to the commits on their way. -/
theorem State.accessWord_spec (s : State) (x : Access) (a : Nat) :
    (s.accessWord x a).part = s.part ∧ (s.accessWord x a).pending = s.pending ∧ (s.accessWord x a).prt = s.prt
      ∧ ((s.accessWord x a).commits = s.commits ∨
          (s.commits? x.port x.rid a (accWord x a).1 ((accWord x a).2 = 0xFFFFFFFF) = true
            ∧ (s.accessWord x a).commits = s.commits ++ [{ table := s.stagedPrt }])) := by
  unfold State.accessWord
  dsimp only
  split
  · rename_i h
    simp only [Bool.and_eq_true] at h
    exact ⟨rfl, rfl, rfl, .inr ⟨h.2, rfl⟩⟩
  · exact ⟨rfl, rfl, rfl, .inl rfl⟩

/-- The ends of an access. -/
theorem State.access_cases {s t : State} {x : Access} {ok : Bool} (h : s.access x ok = .next t) :
    t = s ∨ t = ((s.accessWords x).settle).keeps (s.accessWords x) := by
  unfold State.access at h
  split at h
  · cases h
  · split at h
    · cases h
    · split at h
      · injection h with h; exact .inl h.symm
      · injection h with h; exact .inr h.symm

/-! ### A permitted write of one register -/

/-- Counting packets changes the live counts alone. -/
theorem State.tlps_live (s : State) (d m n : Nat) : ∃ L, s.tlps d m n = { s with live := L } := by
  unfold State.tlps
  dsimp only
  split
  · split
    · exact ⟨s.live, rfl⟩
    · exact ⟨_, rfl⟩
  · split
    · exact ⟨_, rfl⟩
    · exact ⟨_, rfl⟩

/-- The word of a write that reaches its register. -/
theorem Reaches.writeWord {s : State} {a : WAcc} {b : Blk} {r : RegRow} {sa : Nat} (h : Reaches s a b r sa) :
    s.writeWord a.port a.rid a.addr a.val true = s.writeReg (s.grantOf a.port a.rid) a.port a.rid (targetOf a.addr) b sa r a.val := by
  have hk : ((targetOf a.addr).blk == some Blk.knb) = false := by
    rw [h.blk]; simpa using h.notKnb
  have hb := h.blk
  unfold State.writeWord
  dsimp only
  rw [h.granted, h.noBody, hk, h.there, hb]
  simp [h.noAlias, h.place]

/-- The same write once the port has counted its request. -/
theorem Reaches.live {s : State} {a : WAcc} {b : Blk} {r : RegRow} {sa : Nat} (h : Reaches s a b r sa) (L : Tbl Nat) :
    Reaches { s with live := L } a b r sa :=
  ⟨h.portUp, h.aligned, h.inside, h.blk, h.notKnb, h.noBody, h.there, h.noAlias, h.place, h.granted⟩

theorem Reaches.arrived {s : State} {a : WAcc} {b : Blk} {r : RegRow} {sa : Nat} (h : Reaches s a b r sa) :
    Reaches (s.arrived a) a b r sa := by
  obtain ⟨L, hL⟩ := s.tlps_live a.port 0 1
  rw [State.arrived, hL]
  exact h.live L

theorem State.arrived_grant (s : State) (a : WAcc) (port rid : Nat) : (s.arrived a).grantOf port rid = s.grantOf port rid := by
  simp [State.grantOf, State.arrived]

/-- The one word of a write of a register that is no PRT_COMMIT. -/
theorem Reaches.accessWord {v : State} {a : WAcc} {b : Blk} {r : RegRow} {sa : Nat} (h : Reaches v a b r sa) (hc : a.addr ≠ prtBase + 0x40) :
    v.accessWord (accWrite a) a.addr
      = (v.writeReg (v.grantOf a.port a.rid) a.port a.rid (targetOf a.addr) b sa r a.val).keeps v := by
  have hcm : ∀ c, v.commits? a.port a.rid a.addr a.val c = false := by
    intro c; unfold State.commits?; simp [hc]
  have hd : decide ((0xFFFFFFFF#32 : Word) = 0xFFFFFFFF) = true := by decide
  unfold State.accessWord
  rw [accWord_write]
  show (if (true && v.commits? a.port a.rid a.addr a.val _) = true then _ else _) = _
  rw [hcm, Bool.and_false, if_neg (by decide)]
  show (v.writeWord a.port a.rid a.addr a.val (decide ((0xFFFFFFFF#32 : Word) = 0xFFFFFFFF))).keeps v = _
  rw [hd, h.writeWord]

/-- A permitted write of a register that is no PRT_COMMIT has the effect of the register's rule. -/
theorem Reaches.access {s : State} {a : WAcc} {b : Blk} {r : RegRow} {sa : Nat} (h : Reaches s a b r sa) (ok : Bool) (hok : ok = true)
    (hc : a.addr ≠ prtBase + 0x40) :
    s.access (accWrite a) ok
      = .next (s.written a fun u => u.writeReg (s.grantOf a.port a.rid) a.port a.rid (targetOf a.addr) b sa r a.val) := by
  have hnd : ¬ s.nd ≤ a.port := by
    have := h.portUp
    unfold State.dieUp at this
    simp at this
    omega
  have hw : s.accessWords (accWrite a)
      = ((s.arrived a).writeReg (s.grantOf a.port a.rid) a.port a.rid (targetOf a.addr) b sa r a.val).keeps (s.arrived a) := by
    unfold State.accessWords
    rw [accWords_write a h.aligned]
    show (s.arrived a).accessWord (accWrite a) a.addr = _
    rw [h.arrived.accessWord hc, State.arrived_grant]
  have hin : ¬ 0x40000000 < (accWrite a).addr + (accWrite a).len := by
    have := h.inside
    show ¬ 0x40000000 < a.addr + 4
    omega
  have hp : s.dieUp (accWrite a).port = true := h.portUp
  unfold State.access
  rw [if_neg hin, if_neg (by exact hnd), hp, hok, if_neg (by decide), hw]
  rfl

end Sys2Proof.Machine
end

