-- ==== Sys2Proof/Laws/Forms.lean ====
section
/-!
SUPPORT. What each form of command and the shared operations under it answer, said once.
-/
namespace Sys2Proof.Laws
open Sys2Proof Sys2Proof.Machine

theorem notCommit {s : State} {a : WAcc} {b : Blk} {r : RegRow} {sa : Nat} (h : Reaches s a b r sa) (hb : b ≠ .prt) :
    a.addr ≠ prtBase + 0x40 := by
  intro e
  have := h.blk
  rw [e] at this
  have h2 : (targetOf (prtBase + 0x40)).blk = some .prt := by decide
  rw [h2] at this
  injection this with this
  exact hb this.symm

/-- A permitted write of a register of its own row answers the part after that write. -/
theorem lands {s : State} {a : WAcc} {b : Blk} {r : RegRow} {sa : Nat} (h : Reaches s a b r sa) (ok : Bool) (hok : ok = true)
    (hc : a.addr ≠ prtBase + 0x40) {f : State → State}
    (hf : ∀ u : State, (u.grantOf a.port a.rid = s.grantOf a.port a.rid) → u.writeReg (u.grantOf a.port a.rid) a.port a.rid (targetOf a.addr) b sa r a.val = f u) :
    s.access (accWrite a) ok = .next (s.written a f) := by
  rw [h.access ok hok hc]
  unfold State.written
  have := hf (s.arrived a) (State.arrived_grant ..)
  rw [State.arrived_grant] at this
  rw [← this]

/-- The same for a row over plain offsets, in the form of Lands. -/
theorem landsR {c : WAcc → Instr} {b : Blk} {p : Nat → Bool} {f : WAcc → RegRow → Nat → State → State} (hcx : ∀ a s, exec (c a) s = s.regWrite a b p) (hb : b ≠ .prt)
    (hf : ∀ a r sa (u : State), (targetOf a.addr).blk = some b → p (targetOf a.addr).plain = true → u.writeReg (u.grantOf a.port a.rid) a.port a.rid (targetOf a.addr) b sa r a.val = f a r sa u) :
    Lands c b p f := by
  intro s a r sa h hp
  rw [hcx]
  unfold State.regWrite
  refine lands h _ ?_ (notCommit h hb) ?_
  · have := h.aligned
    simp [accAt, h.blk, hp, this]
  · intro u hu
    exact hf a r sa u h.blk hp

/-- A permitted write of IND_DATA of a row over indirect registers answers the part after the post and the drain, in the form of Posts. -/
theorem posts {c : WAcc → Instr} {b : Blk} {p : State → WAcc → Nat → Bool} {q : State → WAcc → Nat → Bool}
    (hcx : ∀ a s, exec (c a) s = s.indRegWrite a b (q s a)) (hpq : ∀ s a i, p s a i = true → q s a i = true) (hb : b ≠ .prt) :
    Posts c b p := by
  intro s a r sa h ho hd hp
  rw [hcx]
  have hpl : (targetOf a.addr).plain = 0x1C := by simp [Target.plain, ho]
  have hok : accAt a b (· == 0x1C) = true := by simp [accAt, h.blk, hpl, h.aligned]
  unfold State.indRegWrite
  simp only [hok, ho, hd, hpq _ _ _ hp, decide_true, Bool.and_true]
  rw [if_pos (by simp)]
  have := lands h true rfl (notCommit h hb) (f := fun v => v.indPost (targetOf a.addr).base a.val (v.grantOf a.port a.rid).level a.port) (by
    intro u _
    simp [State.writeReg, hpl])
  rw [this]
  rfl

theorem notCommitOff {s : State} {a : WAcc} {b : Blk} {r : RegRow} {sa : Nat} (h : Reaches s a b r sa) (ho : (targetOf a.addr).off ≠ 0x40) :
    a.addr ≠ prtBase + 0x40 := by
  intro e
  rw [e] at ho
  exact ho (by decide)

/-- An event of a block of a working die. -/
theorem onBlock_up {s : State} {base : Nat} (f : State → State) (h1 : base < 0x20000000) (h2 : s.dieUp (base / 0x4000000) = true) :
    s.onBlock base f = .next (s.reacted f) := by
  have hd : (targetOf base).die = base / 0x4000000 := by simp [targetOf, h1]
  have h3 : base / 0x4000000 < s.nd := by
    unfold State.dieUp at h2; simp at h2; exact h2.1
  simp [State.onBlock, State.having, hd, h2, h3, State.reacted]

/-- An event of a base outside the dies changes nothing. -/
theorem onBlock_global {s : State} {base : Nat} (f : State → State) (h1 : 0x20000000 ≤ base) : s.onBlock base f = .next s := by
  have hd : (targetOf base).die = 8 := by
    have : ¬ base < 0x20000000 := by omega
    simp [targetOf, this]
  have hn : ¬ (8 < s.nd ∧ s.dieUp 8 = true) := by
    intro h
    have := h.1
    unfold State.nd at this
    cases hp : s.part <;> simp [Part.dies, hp] at this
  have : decide (base / 67108864 < s.nd) || decide (536870912 ≤ base) = true := by simp [h1]
  simp only [State.onBlock, State.having, hd]
  simp [h1]
  rw [if_neg hn]
  rfl

theorem offered_plain (r : RegRow) (old v : Word) : offered (formOf 0x40) r old v = v := rfl

theorem off_commit : (targetOf (prtBase + 0x40)).off = 0x40 := by decide

theorem commit_carried {s : State} {a : WAcc} {r : RegRow} {sa : Nat} (h : Reaches s a .prt r sa) (he : a.addr = prtBase + 0x40) :
    s.carried (targetOf a.addr) a.val = a.val := by
  unfold State.carried; rw [h.blk]; dsimp only; rw [h.place]; dsimp only; rw [he, off_commit, offered_plain]

theorem live_keep (s : State) (a : WAcc) {β : Type} (f : State → β) (hf : ∀ (s : State) L, f { s with live := L } = f s) : f (s.arrived a) = f s := by
  obtain ⟨L, hL⟩ := s.tlps_live a.port 0 1
  rw [State.arrived, hL, hf]

/-- What one aligned word of a write does. -/
theorem accessWord_eq (s : State) (a : WAcc) : s.accessWord (accWrite a) a.addr
        = (if s.commits? a.port a.rid a.addr a.val true = true
            then ({ (s.writeWord a.port a.rid a.addr a.val true).keeps s with commits := s.commits ++ [{ table := s.stagedPrt }] } : State)
            else (s.writeWord a.port a.rid a.addr a.val true).keeps s) := by
  have hd : decide ((0xFFFFFFFF#32 : Word) = 0xFFFFFFFF) = true := by decide
  have hun : s.accessWord (accWrite a) a.addr
        = (if (true && s.commits? a.port a.rid a.addr (accWord (accWrite a) a.addr).1 ((accWord (accWrite a) a.addr).2 = 0xFFFFFFFF)) = true
            then ({ (s.writeWord a.port a.rid a.addr (accWord (accWrite a) a.addr).1 ((accWord (accWrite a) a.addr).2 = 0xFFFFFFFF)).keeps s with
              commits := s.commits ++ [{ table := s.stagedPrt }] } : State)
            else (s.writeWord a.port a.rid a.addr (accWord (accWrite a) a.addr).1 ((accWord (accWrite a) a.addr).2 = 0xFFFFFFFF)).keeps s) := by
    unfold State.accessWord
    rfl
  rw [hun, accWord_write, Bool.true_and]
  dsimp only
  rw [hd]

theorem commit_write {s : State} {a : WAcc} {r : RegRow} {sa : Nat} (h : Reaches s a .prt r sa) (he : a.addr = prtBase + 0x40)
    (hv : a.val.getLsbD 0 = true) : s.writeWord a.port a.rid a.addr a.val true
      = (if s.commitOk a.port a.rid then s else s.evt prtBase R.PRT_CSTAT_E [R.PRT_CSTAT_LOCKOUT]) := by
  have hpl : (targetOf a.addr).plain = 0x40 := by rw [he]; decide
  have hf : (formOf (targetOf a.addr).off == .plain) = true := by rw [he]; decide
  rw [h.writeWord]
  unfold State.writeReg State.writePrt State.prtCommit
  simp only [hpl, hf, hv]
  simp

theorem commit_asked {s : State} {a : WAcc} {r : RegRow} {sa : Nat} (h : Reaches s a .prt r sa) (he : a.addr = prtBase + 0x40)
    (hv : a.val.getLsbD 0 = true) : s.commits? a.port a.rid a.addr a.val true = s.commitOk a.port a.rid := by
  have h2 := h.granted
  rw [commit_carried h he] at h2
  unfold State.commits?
  rw [h2, hv, he]
  simp

theorem staged_congr {s t : State} (hp : t.part = s.part) (hr : t.regs = s.regs) : t.stagedPrt = s.stagedPrt := by
  have h : ∀ a, t.rd a = s.rd a := State.rd_congr hp hr
  have : (fun a => t.rd a) = fun a => s.rd a := funext h
  unfold State.stagedPrt
  refine congrArg (fun f => prtAddrs.filterMap f) ?_
  funext a
  simp only [h, hp]

theorem ending (u v : State) (c : Bool) (C : List Commit) :
    (if c = true then ({ (if c = true then u else v).keeps u with commits := C } : State) else (if c = true then u else v).keeps u)
      = if c = true then ({ u with commits := C } : State) else v.keeps u := by cases c <;> rfl

/-- A permitted write of 1 to PRT_COMMIT: the staged table joins the commits on their way exactly when the lock-out rule lets it. -/
theorem commit_access {s : State} {a : WAcc} {r : RegRow} {sa : Nat} (h : Reaches s a .prt r sa) (he : a.addr = prtBase + 0x40)
    (hv : a.val.getLsbD 0 = true) : s.access (accWrite a) true
      = .next ((if s.commitOk a.port a.rid then { s.arrived a with commits := s.commits ++ [{ table := s.stagedPrt }] }
          else ((s.arrived a).evt prtBase R.PRT_CSTAT_E [R.PRT_CSTAT_LOCKOUT]).keeps (s.arrived a)) : State).settled := by
  have hnd : ¬ s.nd ≤ a.port := by
    have := h.portUp
    unfold State.dieUp at this
    simp at this
    omega
  have hco : (s.arrived a).commitOk a.port a.rid = s.commitOk a.port a.rid := by
    unfold State.commitOk
    rw [staged_congr (t := s.arrived a) (s := s) (by simp [State.arrived]) (by simp [State.arrived]), show (s.arrived a).part = s.part by simp [State.arrived]]
  have hst : (s.arrived a).stagedPrt = s.stagedPrt := staged_congr (by simp [State.arrived]) (by simp [State.arrived])
  have hcm : (s.arrived a).commits = s.commits := live_keep s a State.commits (fun _ _ => rfl)
  have hw : s.accessWords (accWrite a)
      = (if s.commitOk a.port a.rid then { s.arrived a with commits := s.commits ++ [{ table := s.stagedPrt }] }
          else ((s.arrived a).evt prtBase R.PRT_CSTAT_E [R.PRT_CSTAT_LOCKOUT]).keeps (s.arrived a)) := by
    unfold State.accessWords
    rw [accWords_write a h.aligned]
    show (s.arrived a).accessWord (accWrite a) a.addr = _
    rw [accessWord_eq, commit_asked h.arrived he hv, commit_write h.arrived he hv, hco, hst, hcm]
    exact ending ..
  have hin : ¬ 0x40000000 < (accWrite a).addr + (accWrite a).len := by
    have := h.inside
    show ¬ 0x40000000 < a.addr + 4
    omega
  have hp : s.dieUp (accWrite a).port = true := h.portUp
  unfold State.access
  rw [if_neg hin, if_neg (by exact hnd), hp, if_neg (by decide), hw]
  simp only [State.settled]

/-- The words of an access keep the part and the queue, and at most add commits. -/
theorem words_spec (l : List Nat) (x : Access) : ∀ s : State, (each l (fun a s => s.accessWord x a) s).part = s.part
    ∧ (each l (fun a s => s.accessWord x a) s).pending = s.pending ∧ (each l (fun a s => s.accessWord x a) s).prt = s.prt
    ∧ ∃ c, (each l (fun a s => s.accessWord x a) s).commits = s.commits ++ c := by
  induction l with
  | nil => intro s; exact ⟨rfl, rfl, rfl, [], by simp [each]⟩
  | cons a l ih =>
    intro s
    obtain ⟨h1, h2, h3, c, h4⟩ := ih (s.accessWord x a)
    obtain ⟨g1, g2, g3, g4⟩ := s.accessWord_spec x a
    refine ⟨h1.trans g1, h2.trans g2, h3.trans g3, ?_⟩
    rcases g4 with g4 | ⟨_, g4⟩
    · exact ⟨c, h4.trans (by rw [g4])⟩
    · exact ⟨_, h4.trans (by rw [g4, List.append_assoc])⟩

theorem accessWords_spec (s : State) (x : Access) : (s.accessWords x).part = s.part ∧ (s.accessWords x).pending = s.pending
    ∧ (s.accessWords x).prt = s.prt ∧ ∃ c, (s.accessWords x).commits = s.commits ++ c := by
  obtain ⟨h1, h2, h3, h4⟩ := words_spec (accWords x) x (s.tlps x.port (if x.wr then 0 else 1) 1)
  exact ⟨by simpa [State.accessWords] using h1, by simpa [State.accessWords] using h2, by simpa [State.accessWords] using h3, by simpa [State.accessWords] using h4⟩

theorem staged_word (w r : Nat → Word) (a : Nat) : ∀ L : List Nat, (tget (L.filterMap fun x => if w x = r x then none else some (x, w x)) a).getD (r a)
    = if a ∈ L then w a else r a := by
  intro L
  induction L with
  | nil => rfl
  | cons x L ih =>
    by_cases h : w x = r x
    · rw [List.filterMap_cons_none (by simp [h]), ih]
      by_cases hx : a = x
      · subst hx; simp [h]
      · simp [hx]
    · rw [List.filterMap_cons_some (b := (x, w x)) (by simp [h]), tget_cons]
      by_cases hx : a = x
      · subst hx; simp
      · simp [hx, ih]

/-- The staged table at an address of the table (R56, R57). -/
theorem staged_at (s : State) (a : Nat) (h : prtAddrs.contains a = true) : tableWord s.part s.stagedPrt a = fixedWord a (s.rd a) := by
  have := staged_word (fun a => fixedWord a (s.rd a)) (resetWord s.part) a prtAddrs
  unfold tableWord State.stagedPrt
  rw [show (if a ∈ prtAddrs then fixedWord a (s.rd a) else resetWord s.part a) = fixedWord a (s.rd a) from if_pos (by simpa using h)] at this
  exact this

/-- The fixed fields hold in every staged table (R56). -/
theorem staged_fixed (s : State) : fixedTable s.part s.stagedPrt = true := by
  unfold fixedTable
  rw [staged_at _ _ (by decide +kernel), staged_at _ _ (by decide +kernel), staged_at _ _ (by decide +kernel)]
  have h1 : ∀ w : Word, fixedWord (prtBase + 0x100) w = putBits w 1 0 0 := fun w => rfl
  have h2 : ∀ w : Word, fixedWord (prtBase + 0x108) w = putBits w 1 0 0 := fun w => rfl
  have h3 : ∀ w : Word, fixedWord (prtBase + 0x104) w = 0x33 := fun w => rfl
  rw [h1, h2, h3, bits_putBits_same _ _ (by decide), bits_putBits_same _ _ (by decide)]
  rfl

/-- The words of an access keep the table guarded. -/
theorem words_guard (l : List Nat) (x : Access) : ∀ s : State, s.guarded = true → (each l (fun a s => s.accessWord x a) s).guarded = true := by
  induction l with
  | nil => intro s h; exact h
  | cons a l ih =>
    intro s h
    refine ih _ ?_
    obtain ⟨g1, g2, g3, g4⟩ := s.accessWord_spec x a
    unfold State.guarded at h ⊢
    rw [g1, g3]
    rcases g4 with g4 | ⟨_, g4⟩
    · rw [g4]; exact h
    · rw [g4, List.all_append]
      simp only [Bool.and_eq_true] at h
      simp [h.1, h.2, staged_fixed]

theorem guard_of {s t : State} (h1 : t.part = s.part) (h2 : t.prt = s.prt) (h3 : t.commits = s.commits) (h : s.guarded = true) : t.guarded = true := by
  unfold State.guarded at h ⊢
  rw [h1, h2, h3]; exact h

theorem ps_keep {β : Type} (f : State → β) (hf : ∀ s b x v, f (State.p s b x v) = f s) (b : Nat) (l : List (Fld × Nat)) : ∀ s : State, f (s.ps b l) = f s := by
  induction l with
  | nil => intro s; rfl
  | cons e l ih => intro s; exact (ih _).trans (hf _ _ _ _)

theorem upTo_keep {α β : Type} (f : α → β) (g : Nat → α → α) (hf : ∀ i a, f (g i a) = f a) (n : Nat) (a : α) : f (upTo n g a) = f a := by
  unfold upTo
  induction (List.range n) generalizing a with
  | nil => rfl
  | cons x l ih => exact (ih _).trans (hf _ _)

/-- Storing fields leaves the registers at other addresses. -/
theorem ps_rd_ne (l : List (Fld × Nat)) : ∀ (s : State) (b x : Nat), (∀ e ∈ l, x ≠ b + e.1.off) → (s.ps b l).rd x = s.rd x := by
  induction l with
  | nil => intros; rfl
  | cons e l ih =>
    intro s b x h
    refine (ih _ _ _ fun e' he' => h e' (by simp [he'])).trans ?_
    exact State.rd_p_ne _ _ _ (h e (by simp))

/-- In a guarded table only Root writes SYS and PRT. -/
theorem guard_policy {s : State} (h : s.guarded = true) (b : Blk) (hb : b = .prt ∨ b = .sys) : s.policy (some b) true = 0 := by
  unfold State.guarded fixedTable at h
  simp only [Bool.and_eq_true, beq_iff_eq] at h
  unfold State.policy
  rcases hb with rfl | rfl
  · exact h.1.1.2
  · exact h.1.1.1

/-- A write below Root to SYS or PRT is not permitted. -/
theorem below_denied {s : State} (h : s.guarded = true) (g : Grant) (hg : g.level ≠ 0) (t : Target) (ht : t.blk = some .prt ∨ t.blk = some .sys) (hb : t.body = false) (v : Word) :
    s.permitted g t true v = false := by
  have hs : s.scoped g t true v = none := by
    unfold State.scoped
    rcases ht with ht | ht <;> (dsimp only; rw [ht]; split <;> rfl)
  have hk : (t.blk == some .knb) = false := by rcases ht with ht | ht <;> (rw [ht]; rfl)
  have hp : s.policy t.blk true = 0 := by rcases ht with ht | ht <;> (rw [ht]; exact guard_policy h _ (by simp))
  unfold State.permitted
  rw [hb, hk, hs, hp]
  simp [hg]

theorem target_body (a : Nat) (b : Blk) (h : (targetOf a).blk = some b) (hb : b = .prt ∨ b = .sys) : (targetOf a).body = false := by
  unfold targetOf at h ⊢
  split
  · rfl
  · rename_i h1
    simp only [h1, if_false] at h
    simp only
    by_contra h2
    simp at h2
    have : globalBlk ((a - 536870912) / 65536) = none := by
      unfold globalBlk
      generalize (a - 536870912) / 65536 = c at h2
      rw [if_neg (by omega), if_neg (by omega), if_neg (by omega), if_neg (by simp; omega)]
    rw [this] at h; cases h

/-- An access of one aligned word. -/
theorem access_one {s : State} {a : WAcc} (hu : s.dieUp a.port = true) (hi : a.addr + 4 ≤ 0x40000000) (x : Access) (hx : x.addr = a.addr) (hl : x.len = 4) (hp : x.port = a.port) :
    s.access x true = .next (s.accessWords x).settled := by
  have hnd : ¬ s.nd ≤ x.port := by
    unfold State.dieUp at hu
    simp at hu
    omega
  unfold State.access
  rw [if_neg (by omega), if_neg hnd, hp, hu, if_neg (by decide)]
  rfl

/-- An access that reads one aligned word. -/
theorem accWordRead (s : State) (a : WAcc) : s.accessWord (accRead a) a.addr = (s.readWord a.port a.rid a.addr 0xFFFFFFFF#32).keeps s := by
  have hun : s.accessWord (accRead a) a.addr = (if (false && s.commits? a.port a.rid a.addr (accWord (accRead a) a.addr).1 ((accWord (accRead a) a.addr).2 = 0xFFFFFFFF)) = true
      then ({ (s.readWord a.port a.rid a.addr (accWord (accRead a) a.addr).2).keeps s with commits := s.commits ++ [{ table := s.stagedPrt }] } : State)
      else (s.readWord a.port a.rid a.addr (accWord (accRead a) a.addr).2).keeps s) := by
    unfold State.accessWord
    rfl
  rw [hun, accWord_read_mask]
  rfl

theorem evt_gb {s : State} {b : Nat} {e : EvtReg} {f : Fld} {c : List (Fld × Nat)} (ho : f.off = e.off) (h1 : f.lo = f.hi) (h2 : f.hi < 24) : (s.evt b e [f] c).gb b f = true := by
  unfold State.gb State.g
  rw [ho, h1, bits_one]
  have : ((s.evt b e [f] c).rd (b + e.off)).getLsbD f.hi = true := by
    unfold State.evt
    dsimp only
    rw [State.rd_wr_same, putBits_getLsbD _ _ _ _ _ (by omega), if_neg (by omega)]
    simp only [BitVec.getLsbD_or, flagMask, List.map_cons, List.map_nil, List.foldl_cons, List.foldl_nil, Nat.zero_add, h1]
    have : (BitVec.ofNat 32 (2 ^ f.hi)).getLsbD f.hi = true := by
      simp only [BitVec.getLsbD_ofNat, Nat.testBit_two_pow_self, Bool.and_true, decide_eq_true_eq]; omega
    rw [this]; simp
  rw [this]; rfl

theorem staged_eq {s t : State} (hp : t.part = s.part) (hr : ∀ a, prtAddrs.contains a = true → t.rd a = s.rd a) : t.stagedPrt = s.stagedPrt := by
  unfold State.stagedPrt
  refine List.filterMap_congr ?_
  intro a ha
  simp only [hr a (by simpa using ha), hp]

theorem settled_nil {s : State} (h : s.todo = []) : s.settled = s := by
  unfold State.settled
  rw [State.settle_nil _ h]
  rfl

/-- Where a register of the common header is stored (R38). -/
theorem header_place {s : State} {a : WAcc} {b : Blk} {r : RegRow} {sa : Nat} (h : Reaches s a b r sa) (o : Nat) (ho : (targetOf a.addr).plain = o) (hlt : o < 0x40) :
    sa = (targetOf a.addr).base + o ∧ rowAt b.rows o = some r := by
  have hp := h.place
  have hk := h.notKnb
  rw [ho] at hp
  have hpl : ∀ {x : Nat}, (match plainRow (targetOf a.addr).die (targetOf a.addr).slot b o with
      | some r => Place.reg r x
      | none => .none) = .reg r sa → sa = x ∧ rowAt b.rows o = some r := by
    intro x hm
    split at hm
    · rename_i r' hr
      injection hm with h1 h2
      refine ⟨h2.symm, ?_⟩
      unfold plainRow at hr
      split at hr
      · cases hr
      · split at hr
        · cases hr
        · split at hr
          · cases hr
          · rw [hr, h1]
    · cases hm
  have hg : ∀ {u : State} {d slot base : Nat}, u.place d slot b base o = (match plainRow d slot b o with
      | some r => Place.reg r (base + o)
      | none => .none) := by
    intro u d slot base
    have e1 : ¬ 256 ≤ o := by omega
    have e2 : ¬ 8192 ≤ o := by omega
    have e3 : ¬ 512 ≤ o := by omega
    cases b <;> simp [State.place, e1, e2, e3] <;> (cases plainRow d slot _ o <;> rfl)
  rw [hg] at hp
  exact hpl hp

theorem header_row (b : Blk) (hb : b ≠ .knb) (r : RegRow) (h : rowAt b.rows 8 = some r) :
    r.flags = 7 ∧ r.caps = 0x3FFF8 ∧ r.off = 8 ∧ r.isSeq = true ∧ r.maskOf (· == .rwd) = 0 ∧ ∀ s base, State.taken s base r = 0 := by
  have : rowAt b.rows 8 = some ⟨0x8, 0x0, 1, 1, [R.HDR_CFGERR_SEQ, R.HDR_CFGERR_LEVEL, R.HDR_CFGERR_OFFSET, R.HDR_CFGERR_BOUND_REJ, R.HDR_CFGERR_OVF, R.HDR_CFGERR_RWD_REJ]⟩ := by
    have hh : ∀ X, rowAt (R.mapHDR ++ X) 8 = some ⟨0x8, 0x0, 1, 1, [R.HDR_CFGERR_SEQ, R.HDR_CFGERR_LEVEL, R.HDR_CFGERR_OFFSET, R.HDR_CFGERR_BOUND_REJ, R.HDR_CFGERR_OVF, R.HDR_CFGERR_RWD_REJ]⟩ := by
      intro X
      have : R.mapHDR.find? (fun r => r.has 8) = some ⟨0x8, 0x0, 1, 1, [R.HDR_CFGERR_SEQ, R.HDR_CFGERR_LEVEL, R.HDR_CFGERR_OFFSET, R.HDR_CFGERR_BOUND_REJ, R.HDR_CFGERR_OVF, R.HDR_CFGERR_RWD_REJ]⟩ := by decide
      unfold rowAt
      rw [List.find?_append, this]
      rfl
    cases b <;> first | exact absurd rfl hb | exact hh _
  rw [this] at h
  injection h with h
  subst h
  refine ⟨by decide, by decide, rfl, by decide, by decide, ?_⟩
  intro s base
  simp [State.taken, RegRow.maskOf, R.HDR_CFGERR_SEQ, R.HDR_CFGERR_LEVEL, R.HDR_CFGERR_OFFSET, R.HDR_CFGERR_BOUND_REJ, R.HDR_CFGERR_OVF, R.HDR_CFGERR_RWD_REJ]

theorem keeps_self (u : State) : u.keeps u = u := by cases u; rfl

theorem written_nil {s : State} {a : WAcc} {f : State → State} (h : (f (s.arrived a)).todo = []) : s.written a f = (f (s.arrived a)).keeps (s.arrived a) := by
  unfold State.written
  dsimp only
  rw [State.settle_nil _ (by simp [h]), keeps_self]

/-- A register after a permitted write whose effect calls for no fault reaction. -/
theorem written_rd {s : State} {a : WAcc} {f : State → State} (hp : (f (s.arrived a)).part = s.part) (h : (f (s.arrived a)).todo = []) (x : Nat) : (s.written a f).rd x = (f (s.arrived a)).rd x := by
  rw [written_nil h]
  exact State.rd_keeps _ _ (by rw [hp]; simp [State.arrived]) x

theorem arr_rd (s : State) (a : WAcc) (x : Nat) : (s.arrived a).rd x = s.rd x := by simp [State.arrived]

theorem wr_rd (s : State) (k x : Nat) (v : Word) : (s.wr k v).rd x = if x = k then v else s.rd x := by
  split
  · rename_i h; subst h; simp
  · rename_i h; exact State.rd_wr_ne _ _ h

theorem store_none (s : State) (sa : Nat) (w : Word) (x : Nat) : (s.store sa 0 w).rd x = s.rd x := by
  have h : (s.store sa 0 w).rd x = (s.wr sa ((s.rd sa &&& ~~~0) ||| (w &&& 0))).rd x := by
    exact State.rd_congr (by rfl) (by rfl) x
  rw [h, wr_rd]
  split
  · rename_i h; subst h
    apply BitVec.eq_of_getLsbD_eq
    intro i hi
    simp only [BitVec.getLsbD_or, BitVec.getLsbD_and, BitVec.getLsbD_not, BitVec.getLsbD_zero, hi]
    simp
  · rfl

theorem row_keep {β : Type} (f : State → β) (hw : ∀ s a v, f (State.wr s a v) = f s) (ht : ∀ (s : State) l, f { s with tmr := l } = f s) (s : State) (base sa : Nat) (r : RegRow) (fm : Form) (v : Word) (level off : Nat) :
    f (s.writeRow base sa r fm v level off) = f s := by
  have hv : ∀ s b e l c, f (State.evt s b e l c) = f s := fun s b e l c => hw s _ _
  have hs : ∀ s sa m w, f (State.store s sa m w) = f s := by
    intro s sa m w
    unfold State.store
    dsimp only
    rw [ht, hw]
  have hc : ∀ s b sa r w l o, f (State.rwdCheck s b sa r w l o) = f s := by
    intro s b sa r w l o
    unfold State.rwdCheck
    dsimp only
    split
    · exact hv _ _ _ _ _
    · rfl
  unfold State.writeRow
  dsimp only
  rw [hs]
  split
  · rw [hw, hc]
  · rw [hc]

/-- A register after a masked store. -/
theorem store_rd (s : State) (sa : Nat) (m w : Word) (x : Nat) : (s.store sa m w).rd x = if x = sa then (s.rd sa &&& ~~~m) ||| (w &&& m) else s.rd x := by
  have h : (s.store sa m w).rd x = (s.wr sa ((s.rd sa &&& ~~~m) ||| (w &&& m))).rd x := by
    exact State.rd_congr (by rfl) (by rfl) x
  rw [h, wr_rd]

/-- The holding registers of a snapshot (R45). -/
theorem hold_fold (b : Blk) (hw : ∀ a, wideCounter b a = false) (L : List (Nat × Nat)) : ∀ s : State,
    let t := each L (fun e s =>
      let n := s.cnt e.1
      let s := s.wr e.1 (BitVec.ofNat 32 n)
      if wideCounter b e.1 then s.wr (e.1 + 4) (BitVec.ofNat 32 (n / 2 ^ 32)) else s) s
    t.live = s.live ∧ t.part = s.part ∧ t.todo = s.todo ∧ ∀ x, t.rd x = if x ∈ L.map (·.1) then BitVec.ofNat 32 (s.cnt x) else s.rd x := by
  induction L with
  | nil => intro s; exact ⟨rfl, rfl, rfl, fun x => by simp [each]⟩
  | cons e L ih =>
    intro s
    obtain ⟨h1, h2, h3, h4⟩ := ih (s.wr e.1 (BitVec.ofNat 32 (s.cnt e.1)))
    have hst : each (e :: L) (fun e s =>
      let n := s.cnt e.1
      let s := s.wr e.1 (BitVec.ofNat 32 n)
      if wideCounter b e.1 then s.wr (e.1 + 4) (BitVec.ofNat 32 (n / 2 ^ 32)) else s) s = each L (fun e s =>
      let n := s.cnt e.1
      let s := s.wr e.1 (BitVec.ofNat 32 n)
      if wideCounter b e.1 then s.wr (e.1 + 4) (BitVec.ofNat 32 (n / 2 ^ 32)) else s) (s.wr e.1 (BitVec.ofNat 32 (s.cnt e.1))) := by
      simp only [each, List.foldl_cons, hw]; rfl
    rw [hst]
    refine ⟨h1, h2, h3, fun x => ?_⟩
    rw [h4, wr_rd]
    have hc : (s.wr e.1 (BitVec.ofNat 32 (s.cnt e.1))).cnt x = s.cnt x := rfl
    rw [hc]
    by_cases hx : x ∈ L.map (·.1)
    · rw [if_pos hx, if_pos (by simp at hx ⊢; exact .inr hx)]
    · rw [if_neg hx]
      by_cases hxe : x = e.1
      · rw [if_pos hxe, if_pos (by simp [hxe]), hxe]
      · rw [if_neg hxe, if_neg]
        simp only [List.map_cons, List.mem_cons, not_or]
        exact ⟨hxe, hx⟩

theorem clearRsp_keeps {β : Type} (f : State → β) (h : ∀ s a v, f (State.wr s a v) = f s) (s : State) (w k : Nat) : f (s.clearRsp w k) = f s := by
  unfold State.clearRsp
  rw [h, State.wrBytes_keeps f h]

/-- What clearing a response area leaves alone. -/
theorem clearRsp_frame (s : State) (w k x : Nat) (hx : x < rspBase w k ∨ rspBase w k + 256 ≤ x) : (s.clearRsp w k).rd x = s.rd x := by
  unfold State.clearRsp
  rw [State.rd_wr_ne _ _ (by omega), State.wrBytes_frame _ _ _ _ (by rw [List.length_replicate]; exact hx)]

/-- The mailbox window of an address. -/
theorem mbx_slot (w : Nat) (hw : w < 4) (o : Nat) (ho : o < 0x4000) : (targetOf (mbxBase w + o)).slot = w + 4 ∧ (targetOf (mbxBase w + o)).off = o ∧ (targetOf (mbxBase w + o)).base = mbxBase w := by
  have h : ¬ mbxBase w + o < 0x20000000 := by unfold mbxBase; omega
  have h2 : (mbxBase w + o - 0x20000000) / 0x10000 = w + 4 := by unfold mbxBase; omega
  refine ⟨?_, ?_, ?_⟩
  · unfold targetOf; rw [if_neg h]; exact h2
  · unfold targetOf; rw [if_neg h]; show (mbxBase w + o) % 0x10000 = o; unfold mbxBase; omega
  · unfold targetOf Target.base; rw [if_neg h]; dsimp only; rw [if_pos rfl, h2]; unfold mbxBase; omega

/-- A write whose effect calls for no reaction answers its own effect. -/
theorem lands_next {s : State} {a : WAcc} {f : State → State} (htd : s.todo = [])
    (hk : ∀ u : State, u.todo = [] → u.part = s.part → (f u).todo = [] ∧ (f u).part = u.part) :
    s.written a f = (f (s.arrived a)).keeps (s.arrived a) ∧ ∀ x, (s.written a f).rd x = (f (s.arrived a)).rd x := by
  obtain ⟨h1, h2⟩ := hk (s.arrived a) (by simp [State.arrived, htd]) (by simp [State.arrived])
  exact ⟨written_nil h1, written_rd (by rw [h2]; simp [State.arrived]) h1⟩

theorem plain_off {a : WAcc} {o : Nat} (h : (targetOf a.addr).off = o) (ho : o < 0x4000) : (targetOf a.addr).plain = o ∧ formOf (targetOf a.addr).off = .plain := by
  refine ⟨by unfold Target.plain; rw [h]; omega, ?_⟩
  unfold formOf; rw [h, if_pos ho]

theorem bit_one (w : Word) (i : Nat) : bits w i i = 1 ↔ w.getLsbD i = true := by
  rw [bits_one]; cases w.getLsbD i <;> simp

end Sys2Proof.Laws
end

