-- ==== Sys2Proof/Laws/PerInstr.lean ====
section
/-!
SUPPORT. What holds of every command as syntax, one lemma for each constructor.
-/
namespace Sys2Proof.Laws.Units
open Sys2Proof

/-- The numbers by which a command names a die, a unit of a die or of the package, a mailbox slot or a requester, each with the bound that the largest part sets it. -/
def unitsOf : Instr → List (Nat × Nat)
  | .registerWrite a => [(a.port, 8), (a.rid, 65536)]
  | .aliasWrite a => [(a.port, 8), (a.rid, 65536)]
  | .seqClear a => [(a.port, 8), (a.rid, 65536)]
  | .blockEnableWrite a => [(a.port, 8), (a.rid, 65536)]
  | .blockQuiesce base => [(base, 2 ^ 29)]
  | .counterSnapshot a => [(a.port, 8), (a.rid, 65536)]
  | .indDataRead a => [(a.port, 8), (a.rid, 65536)]
  | .indDataWrite a => [(a.port, 8), (a.rid, 65536)]
  | .indWriteApply base => [(base, 2 ^ 29)]
  | .indAccessTimeout base => [(base, 2 ^ 29)]
  | .tmrScrub die => [(die, 8)]
  | .prtCommit a => [(a.port, 8), (a.rid, 65536)]
  | .prtCommitComplete => []
  | .mbxDoorbell a => [(a.port, 8), (a.rid, 65536)]
  | .mbxRelease a => [(a.port, 8), (a.rid, 65536)]
  | .commandAreaWrite a => [(a.port, 8), (a.rid, 65536)]
  | .commandStart w slot => [(w, 4), (slot, 16)]
  | .devNop w slot => [(w, 4), (slot, 16)]
  | .devInfo w slot => [(w, 4), (slot, 16)]
  | .devSetWindowLevel w slot => [(w, 4), (slot, 16)]
  | .devWarmReset w slot => [(w, 4), (slot, 16)]
  | .fwQuery w slot => [(w, 4), (slot, 16)]
  | .fwStage w slot _ => [(w, 4), (slot, 16)]
  | .fwVerify w slot => [(w, 4), (slot, 16)]
  | .fwActivate w slot => [(w, 4), (slot, 16)]
  | .fwSetBoot w slot => [(w, 4), (slot, 16)]
  | .fwRevokeKey w slot => [(w, 4), (slot, 16)]
  | .clusterRestart die => [(die, 8)]
  | .clusterDeclaredFailed die => [(die, 8)]
  | .leaderTakeover => []
  | .knotBookRewrite => []
  | .laneCalDone die lane _ => [(die, 8), (lane, 68)]
  | .laneAligned die x => [(die, 8), (x.lane, 68)]
  | .alignLoss die x => [(die, 8), (x.lane, 68)]
  | .backgroundCalStep die lane _ => [(die, 8), (lane, 68)]
  | .transmitRequest die lane _ => [(die, 8), (lane, 68)]
  | .headWake die lane => [(die, 8), (lane, 68)]
  | .laneExitDone die lane => [(die, 8), (lane, 68)]
  | .lnqLpWrite a => [(a.port, 8), (a.rid, 65536)]
  | .lnqPrbsInject a => [(a.port, 8), (a.rid, 65536)]
  | .holdmaxClear a => [(a.port, 8), (a.rid, 65536)]
  | .cdrLoss die lane => [(die, 8), (lane, 68)]
  | .selfCheckDone die lane _ => [(die, 8), (lane, 68)]
  | .synthUnlock die lane => [(die, 8), (lane, 68)]
  | .spareTxAligned die group => [(die, 8), (group, 4)]
  | .swapRxActive die group => [(die, 8), (group, 4)]
  | .laneQuery w slot => [(w, 4), (slot, 16)]
  | .laneSetMode w slot => [(w, 4), (slot, 16)]
  | .laneSetPower w slot => [(w, 4), (slot, 16)]
  | .lanePrbs w slot bits errs relocks => [(w, 4), (slot, 16), (bits, 2 ^ 48), (errs, 2 ^ 48), (relocks, 2 ^ 16)]
  | .laneSwap w slot => [(w, 4), (slot, 16)]
  | .laneRestore w slot _ => [(w, 4), (slot, 16)]
  | .laneSetEq w slot => [(w, 4), (slot, 16)]
  | .laneRecal w slot _ => [(w, 4), (slot, 16)]
  | .codewordRx die lane _ => [(die, 8), (lane, 68)]
  | .nakRepeat die lane => [(die, 8), (lane, 68)]
  | .ackSend die lane => [(die, 8), (lane, 68)]
  | .linkFlitRx die lane body => [(die, 8), (lane, 68), (body.length, 158)]
  | .tunnelRspRx ch tag status len data => [(ch, 192), (tag, 2 ^ 8), (status, 2 ^ 8), (len, 2 ^ 8), (data.length, 2 ^ 8)]
  | .tunnelTimeout ch tag => [(ch, 192), (tag, 256)]
  | .eventFlitRx ch code value => [(ch, 192), (code, 2 ^ 16), (value, 2 ^ 32)]
  | .csi2PacketRx ch bytes => [(ch, 192), (bytes.length, 2 ^ 16 + 6)]
  | .lineDeadline ch => [(ch, 192)]
  | .linkDown ch => [(ch, 192)]
  | .streamRemoval ch => [(ch, 192)]
  | .strDeadlineWrite a => [(a.port, 8), (a.rid, 65536)]
  | .strSetOpen w slot => [(w, 4), (slot, 16)]
  | .strSetAdd w slot => [(w, 4), (slot, 16)]
  | .strSetCommit w slot => [(w, 4), (slot, 16)]
  | .strSetDiscard w slot => [(w, 4), (slot, 16)]
  | .strRemove w slot => [(w, 4), (slot, 16)]
  | .strTunnel w slot => [(w, 4), (slot, 16)]
  | .strQuery w slot => [(w, 4), (slot, 16)]
  | .encoderEdge die unit _ => [(die, 8), (unit, 4)]
  | .webLoadGo a => [(a.port, 8), (a.rid, 65536)]
  | .encoderStall die unit => [(die, 8), (unit, 4)]
  | .replicaEdgeUpdate die src => [(die, 8), (src, 32)]
  | .srcLost die src => [(die, 8), (src, 32)]
  | .timeAlignLoss die => [(die, 8)]
  | .triggerFire gen => [(gen, 64)]
  | .timeTrigger gen => [(gen, 64)]
  | .trgArm a => [(a.port, 8), (a.rid, 65536)]
  | .outputWindowStart die out => [(die, 8), (out, 16)]
  | .outputWindowEnd die out => [(die, 8), (out, 16)]
  | .delayLineExchange die out => [(die, 8), (out, 16)]
  | .webSetEncoder w slot => [(w, 4), (slot, 16)]
  | .webLoad w slot => [(w, 4), (slot, 16)]
  | .webQuery w slot => [(w, 4), (slot, 16)]
  | .trgSetGen w slot => [(w, 4), (slot, 16)]
  | .trgAttach w slot => [(w, 4), (slot, 16)]
  | .trgStart w slot => [(w, 4), (slot, 16)]
  | .trgStop w slot => [(w, 4), (slot, 16)]
  | .trgSetPitch w slot => [(w, 4), (slot, 16)]
  | .trgSetOutput w slot => [(w, 4), (slot, 16)]
  | .trgQuery w slot => [(w, 4), (slot, 16)]
  | .sliceLineRead die slice _ => [(die, 8), (slice, 4)]
  | .lineRelease ch _ => [(ch, 192)]
  | .takeoverDone die slice tenNs _ => [(die, 8), (slice, 4), (tenNs, 2 ^ 16)]
  | .stagedSetApply ch => [(ch, 192)]
  | .corSetChannel w slot => [(w, 4), (slot, 16)]
  | .corLoadTable w slot _ => [(w, 4), (slot, 16)]
  | .corApply w slot => [(w, 4), (slot, 16)]
  | .corDiscard w slot => [(w, 4), (slot, 16)]
  | .corQuery w slot => [(w, 4), (slot, 16)]
  | .corSliceSwap w slot => [(w, 4), (slot, 16)]
  | .dmsSetChannel w slot => [(w, 4), (slot, 16)]
  | .dmsSetTaps w slot => [(w, 4), (slot, 16)]
  | .dmsQuery w slot => [(w, 4), (slot, 16)]
  | .staRecordDrain die _ => [(die, 8)]
  | .staConfigApply ch => [(ch, 192)]
  | .qmaxClear a => [(a.port, 8), (a.rid, 65536)]
  | .staSetChannel w slot => [(w, 4), (slot, 16)]
  | .staQuery w slot => [(w, 4), (slot, 16)]
  | .staQueryDie w slot => [(w, 4), (slot, 16)]
  | .handoffPacketRx die p => [(die, 8), (p.src, 8), (p.group, 64)]
  | .splLineDeadline grp => [(grp, 64)]
  | .splCloseTimeout grp => [(grp, 64)]
  | .composeWaitExpiry grp => [(grp, 64)]
  | .splGroupApply grp => [(grp, 64)]
  | .splDeadlineWrite a => [(a.port, 8), (a.rid, 65536)]
  | .splSetGroup w slot => [(w, 4), (slot, 16)]
  | .splSetMember w slot => [(w, 4), (slot, 16)]
  | .splApply w slot => [(w, 4), (slot, 16)]
  | .splDiscard w slot => [(w, 4), (slot, 16)]
  | .splRemove w slot => [(w, 4), (slot, 16)]
  | .splQuery w slot => [(w, 4), (slot, 16)]
  | .schedulerGrant _ die unit => [(die, 8), (unit, 8)]
  | .recordExpire cons seq => [(cons, 4096), (seq, 2 ^ 20)]
  | .csmAckWrite a => [(a.port, 8), (a.rid, 65536)]
  | .contextFree cons => [(cons, 4096)]
  | .bindingEffect cons => [(cons, 4096)]
  | .csmBind w slot => [(w, 4), (slot, 16)]
  | .csmUnbind w slot => [(w, 4), (slot, 16)]
  | .csmSetPriority w slot => [(w, 4), (slot, 16)]
  | .csmSetHold w slot => [(w, 4), (slot, 16)]
  | .csmQuery w slot => [(w, 4), (slot, 16)]
  | .hldQuery w slot => [(w, 4), (slot, 16)]
  | .dmaDoorbell a => [(a.port, 8), (a.rid, 65536)]
  | .descriptorFetch die ring _ => [(die, 8), (ring, 1024)]
  | .ownClearRefetch die ring _ => [(die, 8), (ring, 1024)]
  | .flushReadIssue die ring => [(die, 8), (ring, 1024)]
  | .flushReadComplete die ring => [(die, 8), (ring, 1024)]
  | .busError die ring _ => [(die, 8), (ring, 1024)]
  | .ringInterrupt die ring => [(die, 8), (ring, 1024)]
  | .dmaRingCtlRestart a => [(a.port, 8), (a.rid, 65536)]
  | .dmaRingCtlHalt a => [(a.port, 8), (a.rid, 65536)]
  | .trackerEntryGrant die => [(die, 8)]
  | .pcieLinkDown die => [(die, 8)]
  | .busMasterDisable die => [(die, 8)]
  | .functionLevelReset die => [(die, 8)]
  | .pcieLinkDegraded die speed width => [(die, 8), (speed, 256), (width, 256)]
  | .dmaRingSetup w slot => [(w, 4), (slot, 16)]
  | .dmaRingFree w slot => [(w, 4), (slot, 16)]
  | .dmaRingRestart w slot => [(w, 4), (slot, 16)]
  | .dmaRingQuery w slot => [(w, 4), (slot, 16)]
  | .pciQuery w slot => [(w, 4), (slot, 16)]
  | .pciSetPort w slot => [(w, 4), (slot, 16)]
  | .ethStatusRx die mac flow _ => [(die, 8), (mac, 8), (flow, 256)]
  | .ethReceiptTimeout die mac flow => [(die, 8), (mac, 8), (flow, 256)]
  | .stalledResend die mac flow => [(die, 8), (mac, 8), (flow, 256)]
  | .ethLinkDown die mac => [(die, 8), (mac, 8)]
  | .ethLinkUp die mac => [(die, 8), (mac, 8)]
  | .arpRequestRx die mac _ target => [(die, 8), (mac, 8), (target, 2 ^ 128)]
  | .launchDue die mac queue => [(die, 8), (mac, 8), (queue, 4)]
  | .ptpMessageRx _ => []
  | .ptpMessageTx _ => []
  | .secondsRollover => []
  | .calendarSetApply => []
  | .timeChangeApply => []
  | .timeIncWrite a => [(a.port, 8), (a.rid, 65536)]
  | .timeStepGo a => [(a.port, 8), (a.rid, 65536)]
  | .calGo a => [(a.port, 8), (a.rid, 65536)]
  | .ppsInEdge die => [(die, 8)]
  | .ethSetPort w slot => [(w, 4), (slot, 16)]
  | .ethSetFlow w slot => [(w, 4), (slot, 16)]
  | .ethFlowFree w slot => [(w, 4), (slot, 16)]
  | .ethQuery w slot => [(w, 4), (slot, 16)]
  | .ethSend w slot _ => [(w, 4), (slot, 16)]
  | .ptpSet w slot => [(w, 4), (slot, 16)]
  | .ptpQuery w slot => [(w, 4), (slot, 16)]
  | .timeStep w slot => [(w, 4), (slot, 16)]
  | .timeSetInc w slot => [(w, 4), (slot, 16)]
  | .calSet w slot => [(w, 4), (slot, 16)]
  | .ptpSetUtc w slot => [(w, 4), (slot, 16)]
  | .stripeSealTimeout vol => [(vol, 16)]
  | .coilResponseRx vol _ => [(vol, 16)]
  | .shardTimeout vol _ shard => [(vol, 16), (shard, 20)]
  | .durableTimeout vol _ shard => [(vol, 16), (shard, 20)]
  | .targetProbe vol tgt => [(vol, 16), (tgt, 255)]
  | .rebuildStripe vol => [(vol, 16)]
  | .replaceCopyStripe vol => [(vol, 16)]
  | .coilTargetSet w slot => [(w, 4), (slot, 16)]
  | .coilTargetFree w slot => [(w, 4), (slot, 16)]
  | .coilVolSetup w slot _ => [(w, 4), (slot, 16)]
  | .coilVolFree w slot => [(w, 4), (slot, 16)]
  | .coilAddSpare w slot _ => [(w, 4), (slot, 16)]
  | .coilReplace w slot => [(w, 4), (slot, 16)]
  | .coilQuery w slot => [(w, 4), (slot, 16)]
  | .coilTargetQuery w slot => [(w, 4), (slot, 16)]
  | .faultEvent die src inst info => [(die, 8), (src, 65536), (inst, 4096), (info, 2 ^ 32)]
  | .hbmSweepDone die => [(die, 8)]
  | .sramScrub die mno row bit _ => [(die, 8), (mno, 512), (row, 1024), (bit, 256)]
  | .faultEscalation die src inst => [(die, 8), (src, 65536), (inst, 4096)]
  | .faultIrqHoldoffEnd => []
  | .fltSevWrite a => [(a.port, 8), (a.rid, 65536)]
  | .fltSrcInjGo a => [(a.port, 8), (a.rid, 65536)]
  | .fltTmrInjGo a => [(a.port, 8), (a.rid, 65536)]
  | .heartbeatMiss die => [(die, 8)]
  | .tempThreshold die _ _ => [(die, 8)]
  | .supplyExcursion die r => [(die, 8), (r.rail, 10), (r.level, 2 ^ 16)]
  | .referenceLoss => []
  | .fltQuery w slot => [(w, 4), (slot, 16)]
  | .fltSetSeverity w slot => [(w, 4), (slot, 16)]
  | .fltAck w slot => [(w, 4), (slot, 16)]
  | .fltList w slot => [(w, 4), (slot, 16)]
  | .fltInject w slot => [(w, 4), (slot, 16)]
  | .fltUnitReset w slot _ => [(w, 4), (slot, 16)]
  | .fltDieReset w slot => [(w, 4), (slot, 16)]
  | .canFrameRx ch _ => [(ch, 8)]
  | .canDetectDwellExpiry ch => [(ch, 8)]
  | .canArbitrationStart ch => [(ch, 8)]
  | .canTxAttemptEnd ch _ => [(ch, 8)]
  | .canRecoveryDone ch => [(ch, 8)]
  | .canSleepEntry ch _ => [(ch, 8)]
  | .canWakeEvent ch _ => [(ch, 8)]
  | .canIntegrationDone ch => [(ch, 8)]
  | .txbRequest a => [(a.port, 8), (a.rid, 65536)]
  | .txbAbort a => [(a.port, 8), (a.rid, 65536)]
  | .canOpctlSleep a => [(a.port, 8), (a.rid, 65536)]
  | .canOpctlWake a => [(a.port, 8), (a.rid, 65536)]
  | .canOpctlRecover a => [(a.port, 8), (a.rid, 65536)]
  | .canOpctlDetect a => [(a.port, 8), (a.rid, 65536)]
  | .qGetWrite a => [(a.port, 8), (a.rid, 65536)]
  | .objCfgWrite a => [(a.port, 8), (a.rid, 65536)]
  | .canTimingWrite a => [(a.port, 8), (a.rid, 65536)]
  | .canSetPort w slot => [(w, 4), (slot, 16)]
  | .canSetFilter w slot => [(w, 4), (slot, 16)]
  | .canSend w slot => [(w, 4), (slot, 16)]
  | .canRecv w slot => [(w, 4), (slot, 16)]
  | .canQuery w slot => [(w, 4), (slot, 16)]
  | .canDetect w slot => [(w, 4), (slot, 16)]
  | .canSetWake w slot => [(w, 4), (slot, 16)]
  | .canSleep w slot => [(w, 4), (slot, 16)]
  | .canRecover w slot => [(w, 4), (slot, 16)]
  | .mfpCfgWrite a => [(a.port, 8), (a.rid, 65536)]
  | .mfpFunctionSwitch die pin _ => [(die, 8), (pin, 48)]
  | .mfpSet w slot => [(w, 4), (slot, 16)]
  | .mfpQuery w slot => [(w, 4), (slot, 16)]
  | .bootSetPlan w slot => [(w, 4), (slot, 16)]
  | .bootQuery w slot => [(w, 4), (slot, 16)]
  | .coldReset => []
  | .warmReset _ => []
  | .portReset die _ => [(die, 8)]
  | .resetRelease flashModes flashRate _ => [(flashModes, 256), (flashRate, 2 ^ 16)]
  | .bootReady => []
  | .lanesReadyTimeout die => [(die, 8)]
  | .testLogicReset => []
  | .jtagBypass _ _ => []
  | .jtagIdcode _ => []
  | .jtagSamplePreload _ => []
  | .jtagExtest _ => []
  | .jtagClamp _ => []
  | .jtagHighz _ => []
  | .jtagExtestPulse _ => []
  | .jtagExtestTrain _ => []
  | .pcieLinkUp die speed width _ => [(die, 8), (speed, 256), (width, 256)]
  | .pciConfigWrite die _ => [(die, 8)]
  | .canRxError ch _ => [(ch, 8)]
  | .prbsCheckerRelock die lane _ => [(die, 8), (lane, 68)]
  | .ethFrameRxDiscard die mac => [(die, 8), (mac, 8)]
  | .ptpAnnounceTimeout => []
  | .composeStopWaitExpiry grp => [(grp, 64)]
  | .coilReadDataRx vol _ => [(vol, 16)]

/-- A well-formed command names no unit that the largest part does not have. -/
def Statement (i : Instr) : Prop := i.wf = true → (unitsOf i).all (fun p => p.1 < p.2) = true

theorem left {a b : Bool} (h : (a && b) = true) : a = true := by
  simp at h; exact h.1

theorem all1 {a : Bool} (h : (a) = true) : (a && true) = true := by
  simpa [Bool.and_assoc] using h

theorem all2 {a b : Bool} (h : (a && b) = true) : (a && (b && true)) = true := by
  simpa [Bool.and_assoc] using h

theorem all3 {a b c : Bool} (h : (a && b && c) = true) : (a && (b && (c && true))) = true := by
  simpa [Bool.and_assoc] using h

theorem all4 {a b c d : Bool} (h : (a && b && c && d) = true) : (a && (b && (c && (d && true)))) = true := by
  simpa [Bool.and_assoc] using h

theorem all5 {a b c d e : Bool} (h : (a && b && c && d && e) = true) : (a && (b && (c && (d && (e && true))))) = true := by
  simpa [Bool.and_assoc] using h

theorem registerWrite (a : Access) : Statement (.registerWrite a) := fun h => all2 (left (left (left h)))
theorem aliasWrite (a : WAcc) : Statement (.aliasWrite a) := fun h => all2 (left (left h))
theorem seqClear (a : WAcc) : Statement (.seqClear a) := fun h => all2 (left (left h))
theorem blockEnableWrite (a : WAcc) : Statement (.blockEnableWrite a) := fun h => all2 (left (left h))
theorem blockQuiesce (base : Nat) : Statement (.blockQuiesce base) := fun h => all1 h
theorem counterSnapshot (a : WAcc) : Statement (.counterSnapshot a) := fun h => all2 (left (left h))
theorem indDataRead (a : WAcc) : Statement (.indDataRead a) := fun h => all2 (left (left h))
theorem indDataWrite (a : WAcc) : Statement (.indDataWrite a) := fun h => all2 (left (left h))
theorem indWriteApply (base : Nat) : Statement (.indWriteApply base) := fun h => all1 h
theorem indAccessTimeout (base : Nat) : Statement (.indAccessTimeout base) := fun h => all1 h
theorem tmrScrub (die : Nat) : Statement (.tmrScrub die) := fun h => all1 h
theorem prtCommit (a : WAcc) : Statement (.prtCommit a) := fun h => all2 (left (left h))
theorem prtCommitComplete : Statement (.prtCommitComplete) := fun _ => rfl
theorem mbxDoorbell (a : WAcc) : Statement (.mbxDoorbell a) := fun h => all2 (left (left h))
theorem mbxRelease (a : WAcc) : Statement (.mbxRelease a) := fun h => all2 (left (left h))
theorem commandAreaWrite (a : Access) : Statement (.commandAreaWrite a) := fun h => all2 (left (left (left h)))
theorem commandStart (w slot : Nat) : Statement (.commandStart w slot) := fun h => all2 h
theorem devNop (w slot : Nat) : Statement (.devNop w slot) := fun h => all2 h
theorem devInfo (w slot : Nat) : Statement (.devInfo w slot) := fun h => all2 h
theorem devSetWindowLevel (w slot : Nat) : Statement (.devSetWindowLevel w slot) := fun h => all2 h
theorem devWarmReset (w slot : Nat) : Statement (.devWarmReset w slot) := fun h => all2 h
theorem fwQuery (w slot : Nat) : Statement (.fwQuery w slot) := fun h => all2 h
theorem fwStage (w slot : Nat) (image : List (BitVec 8)) : Statement (.fwStage w slot image) := fun h => all2 h
theorem fwVerify (w slot : Nat) : Statement (.fwVerify w slot) := fun h => all2 h
theorem fwActivate (w slot : Nat) : Statement (.fwActivate w slot) := fun h => all2 h
theorem fwSetBoot (w slot : Nat) : Statement (.fwSetBoot w slot) := fun h => all2 h
theorem fwRevokeKey (w slot : Nat) : Statement (.fwRevokeKey w slot) := fun h => all2 h
theorem clusterRestart (die : Nat) : Statement (.clusterRestart die) := fun h => all1 h
theorem clusterDeclaredFailed (die : Nat) : Statement (.clusterDeclaredFailed die) := fun h => all1 h
theorem leaderTakeover : Statement (.leaderTakeover) := fun _ => rfl
theorem knotBookRewrite : Statement (.knotBookRewrite) := fun _ => rfl
theorem laneCalDone (die lane : Nat) (inRange : Bool) : Statement (.laneCalDone die lane inRange) := fun h => all2 h
theorem laneAligned (die : Nat) (x : LaneRx) : Statement (.laneAligned die x) := fun h => all2 h
theorem alignLoss (die : Nat) (x : LaneRx) : Statement (.alignLoss die x) := fun h => all2 h
theorem backgroundCalStep (die lane : Nat) (step : CalStep) : Statement (.backgroundCalStep die lane step) := fun h => all2 h
theorem transmitRequest (die lane unit : Nat) : Statement (.transmitRequest die lane unit) := fun h => all2 h
theorem headWake (die lane : Nat) : Statement (.headWake die lane) := fun h => all2 h
theorem laneExitDone (die lane : Nat) : Statement (.laneExitDone die lane) := fun h => all2 h
theorem lnqLpWrite (a : WAcc) : Statement (.lnqLpWrite a) := fun h => all2 (left (left h))
theorem lnqPrbsInject (a : WAcc) : Statement (.lnqPrbsInject a) := fun h => all2 (left (left h))
theorem holdmaxClear (a : WAcc) : Statement (.holdmaxClear a) := fun h => all2 (left (left h))
theorem cdrLoss (die lane : Nat) : Statement (.cdrLoss die lane) := fun h => all2 h
theorem selfCheckDone (die lane : Nat) (pass : Bool) : Statement (.selfCheckDone die lane pass) := fun h => all2 h
theorem synthUnlock (die lane : Nat) : Statement (.synthUnlock die lane) := fun h => all2 h
theorem spareTxAligned (die group : Nat) : Statement (.spareTxAligned die group) := fun h => all2 h
theorem swapRxActive (die group : Nat) : Statement (.swapRxActive die group) := fun h => all2 h
theorem laneQuery (w slot : Nat) : Statement (.laneQuery w slot) := fun h => all2 h
theorem laneSetMode (w slot : Nat) : Statement (.laneSetMode w slot) := fun h => all2 h
theorem laneSetPower (w slot : Nat) : Statement (.laneSetPower w slot) := fun h => all2 h
theorem lanePrbs (w slot bits errs relocks : Nat) : Statement (.lanePrbs w slot bits errs relocks) := fun h => all5 h
theorem laneSwap (w slot : Nat) : Statement (.laneSwap w slot) := fun h => all2 h
theorem laneRestore (w slot : Nat) (loopOk : Bool) : Statement (.laneRestore w slot loopOk) := fun h => all2 h
theorem laneSetEq (w slot : Nat) : Statement (.laneSetEq w slot) := fun h => all2 h
theorem laneRecal (w slot : Nat) (inRange : Bool) : Statement (.laneRecal w slot inRange) := fun h => all2 h
theorem codewordRx (die lane : Nat) (r : RxWord) : Statement (.codewordRx die lane r) := fun h => all2 (left h)
theorem nakRepeat (die lane : Nat) : Statement (.nakRepeat die lane) := fun h => all2 h
theorem ackSend (die lane : Nat) : Statement (.ackSend die lane) := fun h => all2 h
theorem linkFlitRx (die lane : Nat) (body : List (BitVec 8)) : Statement (.linkFlitRx die lane body) := fun h => all3 h
theorem tunnelRspRx (ch tag status len : Nat) (data : List (BitVec 8)) : Statement (.tunnelRspRx ch tag status len data) := fun h => all5 h
theorem tunnelTimeout (ch tag : Nat) : Statement (.tunnelTimeout ch tag) := fun h => all2 h
theorem eventFlitRx (ch code value : Nat) : Statement (.eventFlitRx ch code value) := fun h => all3 h
theorem csi2PacketRx (ch : Nat) (bytes : List (BitVec 8)) : Statement (.csi2PacketRx ch bytes) := fun h => all2 h
theorem lineDeadline (ch : Nat) : Statement (.lineDeadline ch) := fun h => all1 h
theorem linkDown (ch : Nat) : Statement (.linkDown ch) := fun h => all1 h
theorem streamRemoval (ch : Nat) : Statement (.streamRemoval ch) := fun h => all1 h
theorem strDeadlineWrite (a : WAcc) : Statement (.strDeadlineWrite a) := fun h => all2 (left (left h))
theorem strSetOpen (w slot : Nat) : Statement (.strSetOpen w slot) := fun h => all2 h
theorem strSetAdd (w slot : Nat) : Statement (.strSetAdd w slot) := fun h => all2 h
theorem strSetCommit (w slot : Nat) : Statement (.strSetCommit w slot) := fun h => all2 h
theorem strSetDiscard (w slot : Nat) : Statement (.strSetDiscard w slot) := fun h => all2 h
theorem strRemove (w slot : Nat) : Statement (.strRemove w slot) := fun h => all2 h
theorem strTunnel (w slot : Nat) : Statement (.strTunnel w slot) := fun h => all2 h
theorem strQuery (w slot : Nat) : Statement (.strQuery w slot) := fun h => all2 h
theorem encoderEdge (die unit : Nat) (pins : EncPins) : Statement (.encoderEdge die unit pins) := fun h => all2 h
theorem webLoadGo (a : WAcc) : Statement (.webLoadGo a) := fun h => all2 (left (left h))
theorem encoderStall (die unit : Nat) : Statement (.encoderStall die unit) := fun h => all2 h
theorem replicaEdgeUpdate (die src : Nat) : Statement (.replicaEdgeUpdate die src) := fun h => all2 h
theorem srcLost (die src : Nat) : Statement (.srcLost die src) := fun h => all2 h
theorem timeAlignLoss (die : Nat) : Statement (.timeAlignLoss die) := fun h => all1 h
theorem triggerFire (gen : Nat) : Statement (.triggerFire gen) := fun h => all1 h
theorem timeTrigger (gen : Nat) : Statement (.timeTrigger gen) := fun h => all1 h
theorem trgArm (a : WAcc) : Statement (.trgArm a) := fun h => all2 (left (left h))
theorem outputWindowStart (die out : Nat) : Statement (.outputWindowStart die out) := fun h => all2 h
theorem outputWindowEnd (die out : Nat) : Statement (.outputWindowEnd die out) := fun h => all2 h
theorem delayLineExchange (die out : Nat) : Statement (.delayLineExchange die out) := fun h => all2 h
theorem webSetEncoder (w slot : Nat) : Statement (.webSetEncoder w slot) := fun h => all2 h
theorem webLoad (w slot : Nat) : Statement (.webLoad w slot) := fun h => all2 h
theorem webQuery (w slot : Nat) : Statement (.webQuery w slot) := fun h => all2 h
theorem trgSetGen (w slot : Nat) : Statement (.trgSetGen w slot) := fun h => all2 h
theorem trgAttach (w slot : Nat) : Statement (.trgAttach w slot) := fun h => all2 h
theorem trgStart (w slot : Nat) : Statement (.trgStart w slot) := fun h => all2 h
theorem trgStop (w slot : Nat) : Statement (.trgStop w slot) := fun h => all2 h
theorem trgSetPitch (w slot : Nat) : Statement (.trgSetPitch w slot) := fun h => all2 h
theorem trgSetOutput (w slot : Nat) : Statement (.trgSetOutput w slot) := fun h => all2 h
theorem trgQuery (w slot : Nat) : Statement (.trgQuery w slot) := fun h => all2 h
theorem sliceLineRead (die slice : Nat) (bad : List (Nat × Nat)) : Statement (.sliceLineRead die slice bad) := fun h => all2 h
theorem lineRelease (ch : Nat) (check : LineCheck) : Statement (.lineRelease ch check) := fun h => all1 h
theorem takeoverDone (die slice : Nat) (tenNs : Nat) (ringBad : List (Nat × Nat)) : Statement (.takeoverDone die slice tenNs ringBad) := fun h => all3 h
theorem stagedSetApply (ch : Nat) : Statement (.stagedSetApply ch) := fun h => all1 h
theorem corSetChannel (w slot : Nat) : Statement (.corSetChannel w slot) := fun h => all2 h
theorem corLoadTable (w slot : Nat) (data : List (BitVec 8)) : Statement (.corLoadTable w slot data) := fun h => all2 h
theorem corApply (w slot : Nat) : Statement (.corApply w slot) := fun h => all2 h
theorem corDiscard (w slot : Nat) : Statement (.corDiscard w slot) := fun h => all2 h
theorem corQuery (w slot : Nat) : Statement (.corQuery w slot) := fun h => all2 h
theorem corSliceSwap (w slot : Nat) : Statement (.corSliceSwap w slot) := fun h => all2 h
theorem dmsSetChannel (w slot : Nat) : Statement (.dmsSetChannel w slot) := fun h => all2 h
theorem dmsSetTaps (w slot : Nat) : Statement (.dmsSetTaps w slot) := fun h => all2 h
theorem dmsQuery (w slot : Nat) : Statement (.dmsQuery w slot) := fun h => all2 h
theorem staRecordDrain (die : Nat) (bad : List (Nat × Nat)) : Statement (.staRecordDrain die bad) := fun h => all1 h
theorem staConfigApply (ch : Nat) : Statement (.staConfigApply ch) := fun h => all1 h
theorem qmaxClear (a : WAcc) : Statement (.qmaxClear a) := fun h => all2 (left (left h))
theorem staSetChannel (w slot : Nat) : Statement (.staSetChannel w slot) := fun h => all2 h
theorem staQuery (w slot : Nat) : Statement (.staQuery w slot) := fun h => all2 h
theorem staQueryDie (w slot : Nat) : Statement (.staQueryDie w slot) := fun h => all2 h
theorem handoffPacketRx (die : Nat) (p : HandoffRx) : Statement (.handoffPacketRx die p) := fun h => all3 h
theorem splLineDeadline (grp : Nat) : Statement (.splLineDeadline grp) := fun h => all1 h
theorem splCloseTimeout (grp : Nat) : Statement (.splCloseTimeout grp) := fun h => all1 h
theorem composeWaitExpiry (grp : Nat) : Statement (.composeWaitExpiry grp) := fun h => all1 h
theorem splGroupApply (grp : Nat) : Statement (.splGroupApply grp) := fun h => all1 h
theorem splDeadlineWrite (a : WAcc) : Statement (.splDeadlineWrite a) := fun h => all2 (left (left h))
theorem splSetGroup (w slot : Nat) : Statement (.splSetGroup w slot) := fun h => all2 h
theorem splSetMember (w slot : Nat) : Statement (.splSetMember w slot) := fun h => all2 h
theorem splApply (w slot : Nat) : Statement (.splApply w slot) := fun h => all2 h
theorem splDiscard (w slot : Nat) : Statement (.splDiscard w slot) := fun h => all2 h
theorem splRemove (w slot : Nat) : Statement (.splRemove w slot) := fun h => all2 h
theorem splQuery (w slot : Nat) : Statement (.splQuery w slot) := fun h => all2 h
theorem schedulerGrant (path : PathKind) (die unit : Nat) : Statement (.schedulerGrant path die unit) := fun h => all2 h
theorem recordExpire (cons seq : Nat) : Statement (.recordExpire cons seq) := fun h => all2 h
theorem csmAckWrite (a : WAcc) : Statement (.csmAckWrite a) := fun h => all2 (left (left h))
theorem contextFree (cons : Nat) : Statement (.contextFree cons) := fun h => all1 h
theorem bindingEffect (cons : Nat) : Statement (.bindingEffect cons) := fun h => all1 h
theorem csmBind (w slot : Nat) : Statement (.csmBind w slot) := fun h => all2 h
theorem csmUnbind (w slot : Nat) : Statement (.csmUnbind w slot) := fun h => all2 h
theorem csmSetPriority (w slot : Nat) : Statement (.csmSetPriority w slot) := fun h => all2 h
theorem csmSetHold (w slot : Nat) : Statement (.csmSetHold w slot) := fun h => all2 h
theorem csmQuery (w slot : Nat) : Statement (.csmQuery w slot) := fun h => all2 h
theorem hldQuery (w slot : Nat) : Statement (.hldQuery w slot) := fun h => all2 h
theorem dmaDoorbell (a : WAcc) : Statement (.dmaDoorbell a) := fun h => all2 (left (left h))
theorem descriptorFetch (die ring : Nat) (ds : List Desc) : Statement (.descriptorFetch die ring ds) := fun h => all2 (left h)
theorem ownClearRefetch (die ring : Nat) (ds : List Desc) : Statement (.ownClearRefetch die ring ds) := fun h => all2 (left h)
theorem flushReadIssue (die ring : Nat) : Statement (.flushReadIssue die ring) := fun h => all2 h
theorem flushReadComplete (die ring : Nat) : Statement (.flushReadComplete die ring) := fun h => all2 h
theorem busError (die ring : Nat) (e : BusErr) : Statement (.busError die ring e) := fun h => all2 (left h)
theorem ringInterrupt (die ring : Nat) : Statement (.ringInterrupt die ring) := fun h => all2 h
theorem dmaRingCtlRestart (a : WAcc) : Statement (.dmaRingCtlRestart a) := fun h => all2 (left (left h))
theorem dmaRingCtlHalt (a : WAcc) : Statement (.dmaRingCtlHalt a) := fun h => all2 (left (left h))
theorem trackerEntryGrant (die : Nat) : Statement (.trackerEntryGrant die) := fun h => all1 h
theorem pcieLinkDown (die : Nat) : Statement (.pcieLinkDown die) := fun h => all1 h
theorem busMasterDisable (die : Nat) : Statement (.busMasterDisable die) := fun h => all1 h
theorem functionLevelReset (die : Nat) : Statement (.functionLevelReset die) := fun h => all1 h
theorem pcieLinkDegraded (die speed width : Nat) : Statement (.pcieLinkDegraded die speed width) := fun h => all3 h
theorem dmaRingSetup (w slot : Nat) : Statement (.dmaRingSetup w slot) := fun h => all2 h
theorem dmaRingFree (w slot : Nat) : Statement (.dmaRingFree w slot) := fun h => all2 h
theorem dmaRingRestart (w slot : Nat) : Statement (.dmaRingRestart w slot) := fun h => all2 h
theorem dmaRingQuery (w slot : Nat) : Statement (.dmaRingQuery w slot) := fun h => all2 h
theorem pciQuery (w slot : Nat) : Statement (.pciQuery w slot) := fun h => all2 h
theorem pciSetPort (w slot : Nat) : Statement (.pciSetPort w slot) := fun h => all2 h
theorem ethStatusRx (die mac flow : Nat) (m : UdpRx) : Statement (.ethStatusRx die mac flow m) := fun h => all3 (left h)
theorem ethReceiptTimeout (die mac flow : Nat) : Statement (.ethReceiptTimeout die mac flow) := fun h => all3 h
theorem stalledResend (die mac flow : Nat) : Statement (.stalledResend die mac flow) := fun h => all3 h
theorem ethLinkDown (die mac : Nat) : Statement (.ethLinkDown die mac) := fun h => all2 h
theorem ethLinkUp (die mac : Nat) : Statement (.ethLinkUp die mac) := fun h => all2 h
theorem arpRequestRx (die mac : Nat) (v6 : Bool) (target : Nat) : Statement (.arpRequestRx die mac v6 target) := fun h => all3 h
theorem launchDue (die mac queue : Nat) : Statement (.launchDue die mac queue) := fun h => all3 h
theorem ptpMessageRx (m : PtpRx) : Statement (.ptpMessageRx m) := fun _ => rfl
theorem ptpMessageTx (m : PtpTx) : Statement (.ptpMessageTx m) := fun _ => rfl
theorem secondsRollover : Statement (.secondsRollover) := fun _ => rfl
theorem calendarSetApply : Statement (.calendarSetApply) := fun _ => rfl
theorem timeChangeApply : Statement (.timeChangeApply) := fun _ => rfl
theorem timeIncWrite (a : WAcc) : Statement (.timeIncWrite a) := fun h => all2 (left (left h))
theorem timeStepGo (a : WAcc) : Statement (.timeStepGo a) := fun h => all2 (left (left h))
theorem calGo (a : WAcc) : Statement (.calGo a) := fun h => all2 (left (left h))
theorem ppsInEdge (die : Nat) : Statement (.ppsInEdge die) := fun h => all1 h
theorem ethSetPort (w slot : Nat) : Statement (.ethSetPort w slot) := fun h => all2 h
theorem ethSetFlow (w slot : Nat) : Statement (.ethSetFlow w slot) := fun h => all2 h
theorem ethFlowFree (w slot : Nat) : Statement (.ethFlowFree w slot) := fun h => all2 h
theorem ethQuery (w slot : Nat) : Statement (.ethQuery w slot) := fun h => all2 h
theorem ethSend (w slot : Nat) (frame : List (BitVec 8)) : Statement (.ethSend w slot frame) := fun h => all2 h
theorem ptpSet (w slot : Nat) : Statement (.ptpSet w slot) := fun h => all2 h
theorem ptpQuery (w slot : Nat) : Statement (.ptpQuery w slot) := fun h => all2 h
theorem timeStep (w slot : Nat) : Statement (.timeStep w slot) := fun h => all2 h
theorem timeSetInc (w slot : Nat) : Statement (.timeSetInc w slot) := fun h => all2 h
theorem calSet (w slot : Nat) : Statement (.calSet w slot) := fun h => all2 h
theorem ptpSetUtc (w slot : Nat) : Statement (.ptpSetUtc w slot) := fun h => all2 h
theorem stripeSealTimeout (vol : Nat) : Statement (.stripeSealTimeout vol) := fun h => all1 h
theorem coilResponseRx (vol : Nat) (r : CoilRx) : Statement (.coilResponseRx vol r) := fun h => all1 (left h)
theorem shardTimeout (vol stripe shard : Nat) : Statement (.shardTimeout vol stripe shard) := fun h => all2 h
theorem durableTimeout (vol stripe shard : Nat) : Statement (.durableTimeout vol stripe shard) := fun h => all2 h
theorem targetProbe (vol tgt : Nat) : Statement (.targetProbe vol tgt) := fun h => all2 h
theorem rebuildStripe (vol : Nat) : Statement (.rebuildStripe vol) := fun h => all1 h
theorem replaceCopyStripe (vol : Nat) : Statement (.replaceCopyStripe vol) := fun h => all1 h
theorem coilTargetSet (w slot : Nat) : Statement (.coilTargetSet w slot) := fun h => all2 h
theorem coilTargetFree (w slot : Nat) : Statement (.coilTargetFree w slot) := fun h => all2 h
theorem coilVolSetup (w slot : Nat) (probes : List ProbeAns) : Statement (.coilVolSetup w slot probes) := fun h => all2 (left h)
theorem coilVolFree (w slot : Nat) : Statement (.coilVolFree w slot) := fun h => all2 h
theorem coilAddSpare (w slot : Nat) (probe : Option Nat) : Statement (.coilAddSpare w slot probe) := fun h => all2 h
theorem coilReplace (w slot : Nat) : Statement (.coilReplace w slot) := fun h => all2 h
theorem coilQuery (w slot : Nat) : Statement (.coilQuery w slot) := fun h => all2 h
theorem coilTargetQuery (w slot : Nat) : Statement (.coilTargetQuery w slot) := fun h => all2 h
theorem faultEvent (die src inst info : Nat) : Statement (.faultEvent die src inst info) := fun h => all4 h
theorem hbmSweepDone (die : Nat) : Statement (.hbmSweepDone die) := fun h => all1 h
theorem sramScrub (die mno row bit : Nat) (uncorr : Bool) : Statement (.sramScrub die mno row bit uncorr) := fun h => all4 h
theorem faultEscalation (die src inst : Nat) : Statement (.faultEscalation die src inst) := fun h => all3 h
theorem faultIrqHoldoffEnd : Statement (.faultIrqHoldoffEnd) := fun _ => rfl
theorem fltSevWrite (a : WAcc) : Statement (.fltSevWrite a) := fun h => all2 (left (left h))
theorem fltSrcInjGo (a : WAcc) : Statement (.fltSrcInjGo a) := fun h => all2 (left (left h))
theorem fltTmrInjGo (a : WAcc) : Statement (.fltTmrInjGo a) := fun h => all2 (left (left h))
theorem heartbeatMiss (die : Nat) : Statement (.heartbeatMiss die) := fun h => all1 h
theorem tempThreshold (die : Nat) (stack : Bool) (temp : Int) : Statement (.tempThreshold die stack temp) := fun h => all1 h
theorem supplyExcursion (die : Nat) (r : RailLevel) : Statement (.supplyExcursion die r) := fun h => all3 h
theorem referenceLoss : Statement (.referenceLoss) := fun _ => rfl
theorem fltQuery (w slot : Nat) : Statement (.fltQuery w slot) := fun h => all2 h
theorem fltSetSeverity (w slot : Nat) : Statement (.fltSetSeverity w slot) := fun h => all2 h
theorem fltAck (w slot : Nat) : Statement (.fltAck w slot) := fun h => all2 h
theorem fltList (w slot : Nat) : Statement (.fltList w slot) := fun h => all2 h
theorem fltInject (w slot : Nat) : Statement (.fltInject w slot) := fun h => all2 h
theorem fltUnitReset (w slot : Nat) (pass : Bool) : Statement (.fltUnitReset w slot pass) := fun h => all2 h
theorem fltDieReset (w slot : Nat) : Statement (.fltDieReset w slot) := fun h => all2 h
theorem canFrameRx (ch : Nat) (f : CanFrame) : Statement (.canFrameRx ch f) := fun h => all1 (left h)
theorem canDetectDwellExpiry (ch : Nat) : Statement (.canDetectDwellExpiry ch) := fun h => all1 h
theorem canArbitrationStart (ch : Nat) : Statement (.canArbitrationStart ch) := fun h => all1 h
theorem canTxAttemptEnd (ch : Nat) (r : CanTxEnd) : Statement (.canTxAttemptEnd ch r) := fun h => all1 (left h)
theorem canRecoveryDone (ch : Nat) : Statement (.canRecoveryDone ch) := fun h => all1 h
theorem canSleepEntry (ch : Nat) (wake : Bool) : Statement (.canSleepEntry ch wake) := fun h => all1 h
theorem canWakeEvent (ch : Nat) (k : CanWake) : Statement (.canWakeEvent ch k) := fun h => all1 (left h)
theorem canIntegrationDone (ch : Nat) : Statement (.canIntegrationDone ch) := fun h => all1 h
theorem txbRequest (a : WAcc) : Statement (.txbRequest a) := fun h => all2 (left (left h))
theorem txbAbort (a : WAcc) : Statement (.txbAbort a) := fun h => all2 (left (left h))
theorem canOpctlSleep (a : WAcc) : Statement (.canOpctlSleep a) := fun h => all2 (left (left h))
theorem canOpctlWake (a : WAcc) : Statement (.canOpctlWake a) := fun h => all2 (left (left h))
theorem canOpctlRecover (a : WAcc) : Statement (.canOpctlRecover a) := fun h => all2 (left (left h))
theorem canOpctlDetect (a : WAcc) : Statement (.canOpctlDetect a) := fun h => all2 (left (left h))
theorem qGetWrite (a : WAcc) : Statement (.qGetWrite a) := fun h => all2 (left (left h))
theorem objCfgWrite (a : WAcc) : Statement (.objCfgWrite a) := fun h => all2 (left (left h))
theorem canTimingWrite (a : WAcc) : Statement (.canTimingWrite a) := fun h => all2 (left (left h))
theorem canSetPort (w slot : Nat) : Statement (.canSetPort w slot) := fun h => all2 h
theorem canSetFilter (w slot : Nat) : Statement (.canSetFilter w slot) := fun h => all2 h
theorem canSend (w slot : Nat) : Statement (.canSend w slot) := fun h => all2 h
theorem canRecv (w slot : Nat) : Statement (.canRecv w slot) := fun h => all2 h
theorem canQuery (w slot : Nat) : Statement (.canQuery w slot) := fun h => all2 h
theorem canDetect (w slot : Nat) : Statement (.canDetect w slot) := fun h => all2 h
theorem canSetWake (w slot : Nat) : Statement (.canSetWake w slot) := fun h => all2 h
theorem canSleep (w slot : Nat) : Statement (.canSleep w slot) := fun h => all2 h
theorem canRecover (w slot : Nat) : Statement (.canRecover w slot) := fun h => all2 h
theorem mfpCfgWrite (a : WAcc) : Statement (.mfpCfgWrite a) := fun h => all2 (left (left h))
theorem mfpFunctionSwitch (die pin : Nat) (level : Bool) : Statement (.mfpFunctionSwitch die pin level) := fun h => all2 h
theorem mfpSet (w slot : Nat) : Statement (.mfpSet w slot) := fun h => all2 h
theorem mfpQuery (w slot : Nat) : Statement (.mfpQuery w slot) := fun h => all2 h
theorem bootSetPlan (w slot : Nat) : Statement (.bootSetPlan w slot) := fun h => all2 h
theorem bootQuery (w slot : Nat) : Statement (.bootQuery w slot) := fun h => all2 h
theorem coldReset : Statement (.coldReset) := fun _ => rfl
theorem warmReset (cause : WarmCause) : Statement (.warmReset cause) := fun _ => rfl
theorem portReset (die : Nat) (low : Bool) : Statement (.portReset die low) := fun h => all1 h
theorem resetRelease (flashModes flashRate : Nat) (failed : List Nat) : Statement (.resetRelease flashModes flashRate failed) := fun h => all2 (left h)
theorem bootReady : Statement (.bootReady) := fun _ => rfl
theorem lanesReadyTimeout (die : Nat) : Statement (.lanesReadyTimeout die) := fun h => all1 h
theorem testLogicReset : Statement (.testLogicReset) := fun _ => rfl
theorem jtagBypass (tap : Tap) (ir : Nat) : Statement (.jtagBypass tap ir) := fun _ => rfl
theorem jtagIdcode (tap : Tap) : Statement (.jtagIdcode tap) := fun _ => rfl
theorem jtagSamplePreload (tap : Tap) : Statement (.jtagSamplePreload tap) := fun _ => rfl
theorem jtagExtest (tap : Tap) : Statement (.jtagExtest tap) := fun _ => rfl
theorem jtagClamp (tap : Tap) : Statement (.jtagClamp tap) := fun _ => rfl
theorem jtagHighz (tap : Tap) : Statement (.jtagHighz tap) := fun _ => rfl
theorem jtagExtestPulse (tap : Tap) : Statement (.jtagExtestPulse tap) := fun _ => rfl
theorem jtagExtestTrain (tap : Tap) : Statement (.jtagExtestTrain tap) := fun _ => rfl
theorem pcieLinkUp (die speed width : Nat) (flit : Bool) : Statement (.pcieLinkUp die speed width flit) := fun h => all3 h
theorem pciConfigWrite (die : Nat) (c : PciCfgWrite) : Statement (.pciConfigWrite die c) := fun h => all1 (left h)
theorem canRxError (ch : Nat) (e : CanRxErr) : Statement (.canRxError ch e) := fun h => all1 h
theorem prbsCheckerRelock (die lane : Nat) (loss : Bool) : Statement (.prbsCheckerRelock die lane loss) := fun h => all2 h
theorem ethFrameRxDiscard (die mac : Nat) : Statement (.ethFrameRxDiscard die mac) := fun h => all2 h
theorem ptpAnnounceTimeout : Statement (.ptpAnnounceTimeout) := fun _ => rfl
theorem composeStopWaitExpiry (grp : Nat) : Statement (.composeStopWaitExpiry grp) := fun h => all1 h
theorem coilReadDataRx (vol : Nat) (r : CoilRx) : Statement (.coilReadDataRx vol r) := fun h => all1 (left h)

end Sys2Proof.Laws.Units
end

