-- ==== Sys2Proof/Tests/Slice0.lean ====
section
/-!
SUPPORT. Small checks of the model, and for each statement with hypotheses a concrete state and operands that meet all of them.
-/
namespace Sys2Proof.Tests
open Sys2Proof Sys2Proof.Machine

set_option Elab.async false

/-! ### Well-formedness refuses an ill-formed term for each of its checks -/

/-- A write of one register by requester 0 of port 0. -/
def w (addr : Nat) (val : Nat := 0) : WAcc := { port := 0, rid := 0, addr := addr, val := BitVec.ofNat 32 val }

/-- A read of one word by requester 0 of port 0. -/
def r (addr : Nat) : Access := accRead (w addr)

theorem test_wf_takes_a_write : (Instr.aliasWrite (w 0x8004)).wf = true := by decide
theorem test_wf_port : (Instr.aliasWrite { w 0 with port := 8 }).wf = false := by decide
theorem test_wf_requester : (Instr.registerWrite { r 0 with rid := 65536 }).wf = false := by decide
theorem test_wf_alignment : (Instr.prtCommit (w 2)).wf = false := by decide
theorem test_wf_window : (Instr.registerWrite { r 0x3FFFFFFC with len := 5 }).wf = false := by decide
theorem test_wf_data_length : (Instr.registerWrite { r 0 with wr := true, data := [0] }).wf = false := by decide
theorem test_wf_block_base : (Instr.blockQuiesce (2 ^ 29)).wf = false := by decide
theorem test_wf_die : (Instr.tmrScrub 8).wf = false := by decide
theorem test_wf_mailbox_slot : (Instr.devNop 0 16).wf = false ∧ (Instr.devNop 4 0).wf = false := by decide
theorem test_wf_lane : (Instr.laneAligned 0 ⟨68, []⟩).wf = false ∧ (Instr.spareTxAligned 0 4).wf = false := by decide
theorem test_wf_channel : (Instr.lineDeadline 192).wf = false ∧ (Instr.tunnelTimeout 0 256).wf = false := by decide
theorem test_wf_prbs : (Instr.lanePrbs 0 0 (2 ^ 48) 0 0).wf = false := by decide
theorem test_wf_codeword : (Instr.codewordRx 0 0 ⟨120, List.replicate 544 0⟩).wf = false ∧ (Instr.codewordRx 0 0 ⟨0, [0]⟩).wf = false
    ∧ (Instr.codewordRx 0 0 ⟨0, List.replicate 544 1024⟩).wf = false ∧ (Instr.codewordRx 0 0 ⟨119, List.replicate 544 1023⟩).wf = true := by decide +kernel
theorem test_wf_byte_enables : (Instr.registerWrite { r 0 with holes := [4] }).wf = false ∧ (Instr.registerWrite { r 0 with holes := [3] }).wf = true := by decide
theorem test_wf_config : (Instr.pciConfigWrite 0 (.control true 8 true true 0 false)).wf = false ∧ (Instr.pciConfigWrite 0 (.vector 2048 0 0 false)).wf = false
    ∧ (Instr.pciConfigWrite 0 (.bar 2 0)).wf = false := by decide
theorem test_wf_units : (Instr.encoderStall 0 4).wf = false ∧ (Instr.triggerFire 64).wf = false ∧ (Instr.outputWindowStart 0 16).wf = false := by decide
theorem test_wf_handoff : (Instr.handoffPacketRx 0 ⟨8, 0, []⟩).wf = false ∧ (Instr.handoffPacketRx 0 ⟨0, 64, []⟩).wf = false := by decide
theorem test_wf_context : (Instr.contextFree 4096).wf = false ∧ (Instr.descriptorFetch 0 1024 []).wf = false := by decide
theorem test_wf_descriptor : (Instr.descriptorFetch 0 0 [⟨2 ^ 64, 0, true⟩]).wf = false ∧ (Instr.busError 0 0 ⟨16, false⟩).wf = false := by decide
theorem test_wf_status : (Instr.ethStatusRx 0 0 0 ⟨2 ^ 128, 0, 0, []⟩).wf = false ∧ (Instr.ethStatusRx 0 0 0 ⟨0, 65536, 0, []⟩).wf = false := by decide
theorem test_wf_coil : (Instr.coilResponseRx 0 ⟨0, 0, 255, ⟨0, 0, 0, []⟩⟩).wf = false ∧ (Instr.coilReadDataRx 0 ⟨0, 8, 0, ⟨0, 0, 0, []⟩⟩).wf = false
    ∧ (Instr.coilVolSetup 0 0 [⟨255, 0⟩]).wf = false := by decide
theorem test_wf_flow : (Instr.stalledResend 0 0 256).wf = false ∧ (Instr.arpRequestRx 0 0 true (2 ^ 128)).wf = false := by decide
theorem test_wf_volume : (Instr.stripeSealTimeout 16).wf = false ∧ (Instr.shardTimeout 0 0 20).wf = false := by decide
theorem test_wf_source : (Instr.faultEvent 0 65536 0 0).wf = false ∧ (Instr.supplyExcursion 0 ⟨10, 0⟩).wf = false := by decide
theorem test_wf_can : (Instr.canFrameRx 0 ⟨2 ^ 11, false, false, false, false, false, 0, [], false, 0⟩).wf = false ∧ (Instr.canTxAttemptEnd 0 (.error 8 false 0)).wf = false := by decide
theorem test_wf_can_wake : (Instr.canWakeEvent 0 (.frame ⟨0, false, false, false, false, false, 16, [], false, 0⟩)).wf = false := by decide
theorem test_wf_release : (Instr.resetRelease 0 0 [8]).wf = false := by decide
theorem test_wf_tap : (Instr.jtagIdcode (.die 8)).wf = false ∧ (Instr.jtagBypass .package 256).wf = false := by decide


/-! ### Values that the spec gives -/

/-- CRC-32C, which R31 and R78 name, has the check value E3069283 over the digits 1 to 9. -/
theorem test_crc32c : crc32c [0x31, 0x32, 0x33, 0x34, 0x35, 0x36, 0x37, 0x38, 0x39] = 0xE3069283 := by decide +kernel

/-- R188: rounding half up, and saturation at the top. -/
theorem test_narrow : toBits 2047 8 = 0 ∧ toBits 2048 8 = 1 ∧ toBits 0xFFFFF 8 = 255 := by decide

/-- R359, R360: the rows and the balls of the three parts, and the name of each last row. -/
theorem test_balls : [Part.msd2, .msd4, .msd8].all (fun p => p.balls == p.ballRows ^ 2) = true
    ∧ [Part.msd2, .msd4, .msd8].map (fun p => rowName (p.ballRows - 1)) = ["BK", "CG", "DM"] := by decide +kernel

/-- R27: the set alias of offset 4 of a block stands at 0x4004. -/
theorem test_alias_window : (targetOf 0x4004).plain = 4 ∧ formOf (targetOf 0x4004).off = .set := by decide

/-- R26, R28: the window of slot 0x40 of die 1 is STR. -/
theorem test_str_window : (targetOf 0x4400064).blk = some .str ∧ (targetOf 0x4400064).die = 1 ∧ (targetOf 0x4400064).off = 0x64 := by decide

/-- After reset requester 0 of port 0 has Root (R53). -/
theorem test_reset_root : (State.reset.grantOf 0 0).level = 0 := by decide +kernel

/-! ### Every statement's hypotheses are met -/

/-- The part after reset. -/
def s0 : State := State.reset

/-- A write reaches a register of a block of a kind. -/
def hits (s : State) (b : Blk) (a : WAcc) : Bool :=
  match s.place (targetOf a.addr).die (targetOf a.addr).slot b (targetOf a.addr).base (targetOf a.addr).plain with
  | .reg r sa => s.reachesB a b r sa
  | _ => false

theorem reaches_of_hits {s : State} {b : Blk} {a : WAcc} (h : hits s b a = true) : ∃ r sa, Reaches s a b r sa := by
  unfold hits at h
  split at h
  · rename_i r sa hp
    simp only [State.reachesB, Bool.and_eq_true, beq_iff_eq, bne_iff_ne, decide_eq_true_eq, Bool.not_eq_true'] at h
    obtain ⟨⟨⟨⟨⟨⟨⟨⟨⟨h1, h2⟩, h3⟩, h4⟩, h5⟩, h6⟩, h7⟩, h8⟩, h9⟩, h10⟩ := h
    exact ⟨r, sa, h1, h2, h3, h4, h5, h6, h7, h8, h9, h10⟩
  · cases h

/-- Whether a command answers a next state. -/
def goesOn (c : Instr) (s : State) : Bool :=
  match exec c s with
  | .next _ => true
  | _ => false

/-- The part with slot 0 of window 0 in a state, an opcode and flags in its command area. -/
def sent (st : SlotSt) (opc flags : Nat) : State :=
  ((s0.wr (cmdBase 0 0) (BitVec.ofNat 32 opc)).wr (cmdBase 0 0 + 4) (BitVec.ofNat 32 flags)).setSlot 0 0 { st := st }

/-- The part with a field of a register set. -/
def withF (b : Nat) (f : Fld) (v : Nat) : State := s0.p b f v

/-- A part whose table in force gives the requesters of port 1 level 2. -/
def low : State := { s0 with prt := tset [] (prtBase + 0x84) 2 }

theorem witness_StepRunsFrontCommand : ({ s0 with pending := [.coldReset, .bootReady] } : State).pending = .coldReset :: [.bootReady] := rfl
theorem witness_IdleStep : s0.pending = [] ∧ (s0.clock.total + s0.clock.inc) / (1000000000 * 2 ^ 32) = s0.clock.sec ∧ s0.clock.sec < 2 ^ 48 := by
  decide +kernel
theorem witness_WarmReset : ({ s0 with boot := { s0.boot with released := true } } : State).boot.released = true := rfl
theorem witness_CommandsKeep : goesOn .coldReset s0 = true := by decide +kernel
theorem witness_StepKeepsTheTableGuarded : s0.guarded = true ∧ low.guarded = true ∧ goesOn .prtCommitComplete s0 = true := by decide +kernel
theorem witness_TableChangesOnly : goesOn .testLogicReset s0 = true ∧ changesTable .testLogicReset = false := by decide +kernel
theorem witness_OnlyRootCommitsATable : low.guarded = true ∧ (low.grantOf 1 0).level ≠ 0
    ∧ goesOn (.registerWrite { r (prtBase + 0x40) with port := 1, wr := true, data := [1, 0, 0, 0] }) low = true := by decide +kernel
theorem witness_WritesBelowRoot : low.guarded = true ∧ low.dieUp 1 = true ∧ (targetOf (sysB 1)).blk = some .sys ∧ (targetOf (prtBase + 0xFFFC)).blk = some .prt
    ∧ (low.grantOf 1 0).level ≠ 0 := by decide +kernel
theorem witness_LockOut : hits (s0.wr (prtBase + 0x80) 1) .prt (w (prtBase + 0x40) 1) = true ∧ ((s0.wr (prtBase + 0x80) 1).grantOf 0 0).level = 0
    ∧ (grantIn s0.part (s0.wr (prtBase + 0x80) 1).stagedPrt 0 0).level ≠ 0 ∧ (s0.wr (prtBase + 0x80) 1).todo = [] := by decide +kernel
theorem witness_CommitCompletes : ({ s0 with commits := [{ table := [] }] } : State).commits = [{ table := [] }] ∧ s0.commits = [] := ⟨rfl, rfl⟩
theorem witness_ReadsOfNothing_denied : low.dieUp 1 = true ∧ low.permitted (low.grantOf 1 0) (targetOf (sysB 0)) false 0 = false := by decide +kernel
theorem witness_ReadsOfNothing_absent : s0.permitted (s0.grantOf 0 0) (targetOf (sysB 2)) false 0 = true ∧ (targetOf (sysB 2)).body = false
    ∧ s0.there (targetOf (sysB 2)) = false := by decide +kernel
theorem witness_ReadsOfNothing_unassigned : s0.permitted (s0.grantOf 0 0) (targetOf 0x140000) false 0 = true ∧ (targetOf 0x140000).body = false
    ∧ (targetOf 0x140000).blk = none ∧ s0.permitted (s0.grantOf 0 0) (targetOf 0x3FFFFFFC) false 0 = true := by decide +kernel

/-- A register with bits of both kinds: STR's CTRL. -/
theorem witness_Aliases : ∃ r ∈ Blk.rows .str, (r.maskOf fun a => a == .rw || a == .rwd).getLsbD 0 = true
    ∧ (r.maskOf fun a => a == .rw || a == .rwd).getLsbD 31 = false := by decide +kernel
theorem witness_SetEvent : R.PRT_CSTAT_LOCKOUT.lo < 24 ∧ R.STR_EVT_E.ovf < 2 ^ 24 ∧ R.STR_EVT_STREAM.lo ≤ R.STR_EVT_STREAM.hi ∧ R.STR_EVT_STREAM.hi < 24
    ∧ ∀ i ∈ List.range 24, R.STR_EVT_STREAM.lo ≤ i → i ≤ R.STR_EVT_STREAM.hi → R.STR_EVT_DEADLINE_RAISED.lo ≠ i := by decide +kernel
theorem witness_SetEvent_first : (s0.rd (strB 0 + R.STR_EVT_E.off)).toNat &&& R.STR_EVT_E.mask = 0
    ∧ ((s0.evt (strB 0) R.STR_EVT_E [R.STR_EVT_DEADLINE_RAISED]).rd (strB 0 + R.STR_EVT_E.off)).toNat &&& R.STR_EVT_E.mask ≠ 0 := by decide +kernel
theorem witness_CfgErr : hits s0 .str (w (strB 0 + 8) 0x01000001) = true ∧ s0.todo = [] := by decide +kernel
theorem witness_CfgErr_number : bits (BitVec.ofNat 32 0x00000001 : Word) 31 24 = bits (s0.rd (strB 0 + 8)) 31 24
    ∧ bits (BitVec.ofNat 32 0xFF000001 : Word) 31 24 ≠ bits (s0.rd (strB 0 + 8)) 31 24 := by decide +kernel
theorem witness_EnabledBlock : (withF (strB 0) R.HDR_CTRL_EN 1).disabled (strB 0) = false := by decide +kernel
theorem witness_BoundBlock_free : hits s0 .str (w (strB 0 + 4)) = true ∧ hits s0 .str (w (strB 0 + 4) 1) = true ∧ s0.boundOf 0 0x40 .str = false
    ∧ s0.gb (strB 0) R.HDR_CTRL_EN = false ∧ s0.todo = [] := by decide +kernel
theorem witness_BoundBlock_bound : ({ s0 with chans := tset [] 0 { (s0.chan 0) with st := .running } } : State).boundOf 0 0x40 .str = true
    ∧ hits { s0 with chans := tset [] 0 { (s0.chan 0) with st := .running } } .str (w (strB 0 + 4)) = true := by decide +kernel
theorem witness_Snapshot : [(Blk.csm, csmB 0), (.pci, pciB 0), (.eth, ethB 0 7), (.col, colB 1), (.xdf, xdfB 0 3), (.sta, staB 0), (.str, strB 47)].all
    (fun x => hits s0 x.1 (w (x.2 + 0xC) 1)) = true := by decide +kernel
theorem witness_Snapshot_wide : ((s0.bump (strB 47 + R.STR_CNT_COUNT.off + 4 * 0x11) (2 ^ 40)).live.map (·.1)).contains (strB 47 + R.STR_CNT_COUNT.off + 4 * 0x12) = false
    ∧ ((s0.bump (strB 47 + R.STR_CNT_COUNT.off + 4 * 0x11) (2 ^ 40)).live.map (·.1)).contains (strB 47 + R.STR_CNT_COUNT.off + 4 * 0x11) = true := by decide +kernel

/-- A part with a read in the indirect queue of lane quad 0, of word 0xFFC of its lane 0. -/
def queued : State := { s0 with indq := tset [] (lnqB 0 0) [.read 0xFFC 0xFFFFFFFF 0] }
theorem witness_IndirectAccess_timeout : queued.indBlk (lnqB 0 0) = some (0, 0x20, .lnq) ∧ queued.indQ (lnqB 0 0) = [.read 0xFFC 0xFFFFFFFF 0]
    ∧ queued.indClock 0 0x20 .lnq 0xFFC = false := by decide +kernel
theorem witness_IndirectAccess_unmapped : ({ s0 with indq := tset [] (ptpB 0) [.write 0x3FFFC 1 0 0] } : State).indBlk (ptpB 0) = some (0, 0x10, .ptp)
    ∧ s0.indClock 0 0x10 .ptp 0x3FFFC = true ∧ s0.indRow 0 .ptp 0x3FFFC = none := by decide +kernel
theorem witness_TmrInjection : (∃ r ∈ Blk.rows .prt, r.tmrBit 0 = true) ∧ s0.tmr = []
    ∧ ∃ e ∈ ({ s0 with tmr := [(prtBase + 0x100, 0, 2)] } : State).tmr, e.1 = prtBase + 0x100 ∧ e.2.1 = 0 := by decide +kernel
theorem witness_Doorbell : hits s0 .mbx (w (mbxBase 3 + 0x40) 0x8001) = true ∧ (s0.slot 3 15).st = SlotSt.free
    ∧ ((sent .done 0 0).slot 0 0).st ≠ SlotSt.free ∧ hits (sent .done 0 0) .mbx (w (mbxBase 0 + 0x40) 1) = true := by decide +kernel
theorem witness_Release : hits (sent .done 0 0) .mbx (w (mbxBase 0 + 0x44) 3) = true ∧ ((sent .done 0 0).slot 0 0).st = SlotSt.done
    ∧ ((sent .done 0 0).slot 0 1).st ≠ SlotSt.done := by decide +kernel
theorem witness_CommandWords : hits s0 .mbx (w (cmdBase 3 15 + 252)) = true ∧ hits (sent .posted 0 0) .mbx (w (cmdBase 0 0)) = true
    ∧ ((sent .posted 0 0).slot 0 0).st ≠ SlotSt.free := by decide +kernel
theorem witness_Accepted : (∃ row, cmdRow 0 = some row ∧ row.query = true) ∧ (∃ row, cmdRow 3 = some row ∧ row.query = false)
    ∧ ((sent .running 3 0).slot 0 0).st = SlotSt.running ∧ (sent .running 3 0).todo = [] ∧ (sent .running 3 0).part = s0.part
    ∧ s0.confirmed = true :=
  ⟨⟨_, rfl, by decide +kernel⟩, ⟨_, rfl, by decide +kernel⟩, by decide +kernel, by decide +kernel, by decide +kernel, by decide +kernel⟩
theorem witness_Refused : s0.todo = [] := by decide +kernel

/-- A posted command that asks for the journal's answer, with its journal entry, once the leader runs. -/
def reissue : State := { sent .posted 3 1 with leaderSt := ldRUNNING, journal := tset [] (slotKey 0 0) { opcode := 3, tag := 0, status := 0, detail := 0, result := [] } }
theorem witness_Reissued : (reissue.slot 0 0).st = SlotSt.posted ∧ reissue.leaderSt = ldRUNNING ∧ reissue.boot.recovery = false ∧ reissue.waits 0 0 = false
    ∧ (reissue.setSlot 0 0 { reissue.slot 0 0 with st := .running }).preCheck 0 0 = none ∧ tbit (reissue.flagsOf 0 0) 0 = true
    ∧ tget reissue.journal (slotKey 0 0) = some { opcode := 3, tag := 0, status := 0, detail := 0, result := [] } ∧ 3 = reissue.opcode 0 0
    ∧ 0 = (reissue.slot 0 0).tag ∧ reissue.todo = [] := by decide +kernel
theorem witness_Reaction : ((sent .posted 0 0).slot 0 0).inFlight = true ∧ ((sent .posted 0 0).slot 3 15).inFlight = false := by decide +kernel
theorem witness_KnotBook : ({ s0 with leaderSt := ldRUNNING } : State).leaderSt = ldRUNNING ∧ ({ s0 with leaderSt := ldRUNNING } : State).todo = []
    ∧ ({ withF knbBase R.KNB_GEN_GEN 2 with leaderSt := ldRUNNING } : State).g knbBase R.KNB_GEN_GEN % 2 = 0
    ∧ ({ withF knbBase R.KNB_GEN_GEN 0xFFFFFFFF with leaderSt := ldRUNNING } : State).g knbBase R.KNB_GEN_GEN % 2 = 1
    ∧ ({ s0 with leaderSt := ldRUNNING } : State).knotBook.length < 2 ^ 20 := by decide +kernel
theorem witness_Holdmax : hits s0 .lnq (w (lnqB 0 0 + 0x60)) = true ∧ hits s0 .lnq (w (lnqB 1 16 + 0x6C) 0x80000000) = true := by decide +kernel
theorem witness_StrandDeadline : hits s0 .str (w (strB 0 + 0x64)) = true ∧ hits s0 .str (w (strB 47 + 0x64) 0xFFFFFF) = true
    ∧ (withF (strB 47) R.STR_DEADMAX_DEADMAX 5).g (strB 47) R.STR_DEADMAX_DEADMAX < 0xFFFFFF ∧ 0 < (withF (strB 0) R.STR_DEADMIN_DEADMIN 1).g (strB 0) R.STR_DEADMIN_DEADMIN := by decide +kernel
theorem witness_QueueMaximum : hits s0 .sta (w (staB 0 + 0x44) 0x80000000) = true ∧ hits s0 .sta (w (staB 1 + 0x44)) = true := by decide +kernel
theorem witness_SpliceDeadline : hits s0 .spl (w (splB 0 + 0x10C)) = true ∧ hits s0 .spl (w (splB 1 + 0x2CC) 0xFFFFFF) = true := by decide +kernel

/-- A part with context 0 bound to a stream of die 0 and record 0 the last complete. -/
def bound : State := (((s0.p (ctxBase 0) R.CSM_CTX_CFG_VALID 1).p (ctxBase 0) R.CSM_CTX_CFG_SRC_KIND 0).p (ctxBase 0) R.CSM_CTX_SRC_SRC_ID 0).p
  (ctxBase 0) R.CSM_CTX_ACKED_SEQ 5
theorem witness_Acknowledgements : hits bound .csm (w (csmB 0 + 0x44) (5 * 4096)) = true ∧ bound.cbound 0 = true ∧ bound.ctxDie 0 = 0 ∧ bound.todo = []
    ∧ bound.cg 0 R.CSM_CTX_ACKED_SEQ = 5 := by decide +kernel
theorem witness_Acknowledgements_ahead : (7 + 2 ^ 20 - bound.cg 0 R.CSM_CTX_ACKED_SEQ) % 2 ^ 20 ≠ 0 ∧ (7 + 2 ^ 20 - bound.cg 0 R.CSM_CTX_ACKED_SEQ) % 2 ^ 20 < 2 ^ 19
    ∧ ((bound.p (ctxBase 0) R.CSM_CTX_DONE_SEQ 6).cg 0 R.CSM_CTX_DONE_SEQ + 2 ^ 20 - bound.cg 0 R.CSM_CTX_ACKED_SEQ) % 2 ^ 20
      < (7 + 2 ^ 20 - bound.cg 0 R.CSM_CTX_ACKED_SEQ) % 2 ^ 20 := by decide +kernel

/-- A part whose ring 1023 of die 0 is bound and holds 32 descriptors. -/
def ring : State := (s0.p (ringBase 0 1023) R.DMA_RING_STAT_STATE 1).p (ringBase 0 1023) R.DMA_RING_CFG_LOG2N 5
theorem witness_DmaDoorbell_fits : hits ring .dma (w (dmaB 0 + 0x1FFC) 32) = true ∧ ring.ringSt 0 1023 ≠ 0 ∧ ring.ringN 0 1023 = 32
    ∧ ring.rg 0 1023 R.DMA_RING_IDX_CI = 0 ∧ ring.rg 0 1023 R.DMA_RING_IDX_PI = 0 ∧ ring.todo = [] ∧ ring.canFetch 0 1023 = false := by decide +kernel
theorem witness_DmaDoorbell_bad : hits s0 .dma (w (dmaB 1 + 0x1000)) = true ∧ s0.ringSt 1 0 = 0 ∧ hits ring .dma (w (dmaB 0 + 0x1FFC) 33) = true
    ∧ ring.ringN 0 1023 < 33 := by decide +kernel
theorem witness_DiscardedFrames : (withF (ethB 1 7) R.ETH_LINK_UP 1).ethUp 1 7 = true ∧ (withF (ethB 1 7) R.ETH_LINK_UP 1).dieUp 1 = true
    ∧ s0.ethUp 0 0 = false := by decide +kernel
theorem witness_TimeIncrement : ({ s0 with clock := { s0.clock with changes := [.inc 5] } } : State).clock.changes = .inc 5 :: []
    ∧ ({ s0 with clock := { s0.clock with changes := [.inc 5] } } : State).todo = [] := ⟨rfl, by decide +kernel⟩

/-- A part whose volume 15 is bound to a context and has no stripe open. -/
def bound15 : State := (withF (ethB 0 0) R.ETH_LINK_UP 1).setVol 15 { (s0.vol 15) with bound := some 0 }

/-- A message of target 0 that MAC 0 of die 0 receives, with a checksum field and bytes. -/
def coilMsg (sum : Nat) (l : List (BitVec 8)) : CoilRx := ⟨0, 0, 0, ⟨0, bound15.tg 0 R.COL_TGT_CFG_DPORT, sum, l⟩⟩
theorem witness_CoilResponse : (bound15.vol 15).bound.isSome = true ∧ (bound15.vol 15).stripes = [] ∧ bound15.todo = [] ∧ s0.ethUp 0 0 = false
    ∧ bound15.ethUp 0 0 = true ∧ bound15.coilSumBad 15 (coilMsg 1 []) = true ∧ bound15.coilSumBad 15 (coilMsg 0 []) = false
    ∧ bound15.coilNames 15 (coilMsg 0 []) = false
    ∧ bound15.coilNames 15 (coilMsg 0 (coilHeader 2 0 15 0 0 0 7 0 0 0)) = true ∧ leAt (coilHeader 2 0 15 0 0 0 7 0 0 0) 3 1 = 2
    ∧ bound15.coilSumBad 15 (coilMsg 0 (coilHeader 2 0 15 0 0 0 7 0 0 0)) = false := by decide +kernel
theorem witness_WebLoad : hits s0 .web (w (webB 0 + 0x110)) = true ∧ hits s0 .web (w (webB 1 + 0x1D0) 3) = true := by decide +kernel

/-- A part in which the interrupt calls start above LOG and a source has severity LOG. -/
def logging : State := (s0.p fltpBase R.FLT_IRQ_MINLEV 1).p (srcBase 0 0x0200 0) R.FLT_SRC_SEV_SEV 0
theorem witness_LoggedEvent : 0 < logging.nd ∧ srcValid 0 0x0200 0 = true ∧ logging.gb (srcBase 0 0x0200 0) R.FLT_SRC_STAT_PEND = false
    ∧ logging.g (srcBase 0 0x0200 0) R.FLT_SRC_SEV_SEV = 0 ∧ 0 < logging.g fltpBase R.FLT_IRQ_MINLEV := by decide +kernel
theorem witness_Abort_pending : (withF (txbB 0 0) R.TXB_CTL_REQ 1).gb (txbB 0 0) R.TXB_CTL_REQ = true ∧ (withF (txbB 0 0) R.TXB_CTL_REQ 1).txOut 0 0 ≠ 2 := by
  decide +kernel
theorem witness_Abort_active : ((withF (txbB 0 2) R.TXB_CTL_REQ 1).p (txbB 0 2) R.TXB_STAT_OUTCOME 2).txOut 0 2 = 2
    ∧ ((withF (txbB 0 2) R.TXB_CTL_REQ 1).p (txbB 0 2) R.TXB_STAT_OUTCOME 2).gb (txbB 0 2) R.TXB_CTL_REQ = true := by decide +kernel
theorem witness_CanTiming : nbtOk 0 = false ∧ dbtOk 0 = false ∧ nbtOk 0x003E0F0F = true ∧ dbtOk 0x000E0303 = true := by decide +kernel

/-- A part whose pin 0 of die 0 carries input 0 of function 1. -/
def pinned : State := (s0.p (pinB 0 0) R.MFP_CFG_FUNC 1).p (pinB 0 0) R.MFP_CFG_INDEX 0
theorem witness_PinSettings : hits pinned .mfp (w (mfpB 0 + 0x1BC) 1) = true ∧ funcOk 1 0 = true ∧ funcOk 1 4 = false ∧ pinned.inputHeld 0 47 1 0 = true
    ∧ hits pinned .mfp (w (mfpB 0 + 0x100) 0x401) = true := by decide +kernel
theorem witness_TestLogicReset : s0.todo = [] := by decide +kernel

/-! The statements of completion: every condition under which a row completes is met. -/

/-- Every mailbox command is met by a started command of its opcode, in the first and in the last slot. -/
theorem witness_Carries : (List.range 0xD20).all (fun o => (sent .running o 0).runs 0 0 o) = true := by decide +kernel
theorem witness_Happens : s0.dieUp 0 = true ∧ s0.dieUp 1 = true ∧ ({ s0 with part := .msd8 } : State).dieUp 7 = true := by decide +kernel
theorem witness_register_access : (r 0).addr + (r 0).len ≤ 0x40000000 ∧ (r 0x3FFFFFFC).addr + (r 0x3FFFFFFC).len ≤ 0x40000000 := by decide
theorem witness_register_rows : hits s0 .str (w (strB 0 + 0x4004) 1) = true ∧ hits s0 .str (w (strB 0 + 0xC) 1) = true
    ∧ hits s0 .lnq (w (lnqB 0 0 + 0x1C)) = true ∧ isIndData (w (lnqB 0 0 + 0x1C)) = true ∧ hits s0 .prt (w (prtBase + 0x40) 1) = true
    ∧ s0.commitOk 0 0 = true := by decide +kernel
theorem witness_command_words : (accWords (accWrite (w (cmdBase 0 0)))).all isCommandWord = true ∧ (accWrite (w (cmdBase 0 0))).wr = true := by decide +kernel
theorem witness_lane_rows : [0x48, 0x50, 0x60, 0x6C].all (fun o => hits s0 .lnq (w (lnqB 0 0 + o))) = true := by decide +kernel
theorem witness_web_rows : hits s0 .web (w (webB 0 + 0x110)) = true ∧ hits s0 .trg (w (trgB 0 + 0x124)) = true ∧ hits s0 .trg (w (trgB 0 + 0x2E4)) = true := by
  decide +kernel
theorem witness_replica_rows : s0.dieUp 1 = true ∧ 7 < 4 * s0.nd := by decide
theorem witness_dma_rows : hits (ring.p (dmaB 0) R.DMA_SEL_RING 1023) .dma (w (dmaB 0 + 0x128) 1) = true
    ∧ hits (ring.p (dmaB 0) R.DMA_SEL_RING 1023) .dma (w (dmaB 0 + 0x128) 2) = true := by decide +kernel
theorem witness_fault_rows : hits (s0.p (fltB 0) R.FLT_SEL_SRC 0x0200) .flt (w (fltB 0 + 0x100)) = true
    ∧ hits (s0.p (fltB 0) R.FLT_SEL_SRC 0x0200) .flt (w (fltB 0 + 0x104)) = true
    ∧ hits (s0.p (fltB 0) R.FLT_SEL_SRC 0x0200) .flt (w (fltB 0 + 0x11C)) = true ∧ hits s0 .flt (w (fltB 0 + 0x4C)) = true := by decide +kernel
theorem witness_posts : hits s0 .ptp (w (ptpB 0 + 0x1C)) = true ∧ hits s0 .can (w (canB 1 + 0x1C) 0xC000000F) = true
    ∧ [4, 0x18, 0x28].all (fun i => (withF (ptpB 0) R.HDR_IND_ADDR_ADDR (i / 4)).indAddr (ptpB 0) == i) = true
    ∧ [0x104, 0x1C4, 0x10, 0x400, 0x1BA0, 0x804, 0x814, 4, 8].all
        (fun i => (withF (canB 1) R.HDR_IND_ADDR_ADDR (i / 4)).indAddr (canB 1) == i) = true
    ∧ Part.queueMode .msd8 = true ∧ s0.part.queueMode = false := by decide +kernel
theorem witness_taps : s0.hasTap .package = true ∧ s0.hasTap (.die 1) = true := by decide

end Sys2Proof.Tests
end

/-!
The statements about the Knot Book's chapter: reads where nothing is mapped, the aliases of a register, and the completion of register access and
of the Lanyard. The lemmas about an access, a read and the three kinds of command serve the other families too.
-/
namespace Sys2Proof.Proofs
open Sys2Proof Sys2Proof.Machine Sys2Proof.Laws

/-! ### Accesses -/

/-- A die that works is a die of the part. -/
theorem lt_nd_of_dieUp {s : State} {d : Nat} (h : s.dieUp d = true) : d < s.nd := by
  simp only [State.dieUp, Bool.and_eq_true, decide_eq_true_eq] at h
  exact h.1

/-- An access over a port that works and inside BAR0 is carried out word by word (R23, R24). -/
theorem access_within {s : State} {x : Access} {ok : Bool} (hu : s.dieUp x.port = true) (hi : x.addr + x.len ≤ 0x40000000) (hok : ok = true) :
    s.access x ok = .next (s.accessWords x).settled := by
  have hnd := lt_nd_of_dieUp hu
  unfold State.access
  rw [if_neg (by omega), if_neg (by omega), hu, hok, if_neg (by decide)]
  rfl

/-- A permitted write of any register but PRT_COMMIT ends with the effect of the register's rule. -/
theorem access_writeReg {s : State} {a : WAcc} {b : Blk} {r : RegRow} {sa : Nat} (h : Reaches s a b r sa) {ok : Bool} (hok : ok = true)
    (hc : a.addr ≠ prtBase + 0x40) : s.access (accWrite a) ok
      = .next (s.written a fun u => u.writeReg (u.grantOf a.port a.rid) a.port a.rid (targetOf a.addr) b sa r a.val) :=
  lands h ok hok hc fun _ _ => rfl

/-! ### Reads of one word (R25, R55, R385) -/

/-- An aligned read of one word ends with what the word answers, once the port has counted the completion. -/
theorem registerRead_one {s : State} {a : WAcc} (hu : s.dieUp a.port = true) (ha : a.addr % 4 = 0) (hi : a.addr + 4 ≤ 0x40000000) :
    exec (.registerWrite (accRead a)) s
      = .next (((s.tlps a.port 1 1).readWord a.port a.rid a.addr 0xFFFFFFFF#32).keeps s).settled := by
  have hw : s.accessWords (accRead a) = ((s.tlps a.port 1 1).readWord a.port a.rid a.addr 0xFFFFFFFF#32).keeps (s.tlps a.port 1 1) := by
    unfold State.accessWords
    rw [accWords_read a ha]
    exact accWordRead (s.tlps a.port 1 1) a
  have hk : ∀ t : State, t.keeps (s.tlps a.port 1 1) = t.keeps s := by simp [State.keeps, State.own]
  calc exec (.registerWrite (accRead a)) s
      = .next (s.accessWords (accRead a)).settled := access_one hu hi (accRead a) rfl rfl rfl
    _ = _ := by rw [hw, hk]

/-- Counting packets decides no permission. -/
theorem permitted_tlps (s : State) (d m n : Nat) (g : Grant) (t : Target) (wr : Bool) (v : Word) :
    (s.tlps d m n).permitted g t wr v = s.permitted g t wr v := by
  obtain ⟨L, hL⟩ := s.tlps_live d m n
  rw [hL]; rfl

theorem grantOf_tlps (s : State) (d m n port rid : Nat) : (s.tlps d m n).grantOf port rid = s.grantOf port rid := by
  simp [State.grantOf]

theorem there_tlps (s : State) (d m n : Nat) (t : Target) : (s.tlps d m n).there t = s.there t := by
  obtain ⟨L, hL⟩ := s.tlps_live d m n
  rw [hL]; rfl

/-- A denied read is recorded and answers 0, whatever its target (R55). -/
theorem readWord_denied {s : State} {port rid a : Nat} (h : s.permitted (s.grantOf port rid) (targetOf a) false 0 = false) (m : Word) :
    s.readWord port rid a m = (s.deny port rid (s.grantOf port rid).level a false).emit (.readDone a 0) := by
  unfold State.readWord
  dsimp only
  rw [h]
  simp

/-- A permitted read of a die that is not there, or of a slot that no block has, is recorded and answers all ones (R25, R385). -/
theorem readWord_unmapped {s : State} {port rid a : Nat} (h : s.permitted (s.grantOf port rid) (targetOf a) false 0 = true)
    (hb : (targetOf a).body = false) (hn : s.there (targetOf a) = false ∨ (targetOf a).blk = none) (m : Word) :
    s.readWord port rid a m = (s.unmapped port a).emit (.readDone a (0xFFFFFFFF &&& m)) := by
  unfold State.readWord
  dsimp only
  rw [h, hb]
  cases ht : s.there (targetOf a) with
  | false => simp
  | true =>
    have hk : (targetOf a).blk = none := hn.resolve_left (by simp [ht])
    simp [hk]

/-- Settles O13: a denied read takes the first branch of a read, and one of nothing the branch of an absent die or of an unassigned slot. -/
theorem readsOfNothingReturnAllOnesOrZero : Obligations.ReadsOfNothingReturnAllOnesOrZero := by
  intro s a hu ha hi
  rw [registerRead_one hu ha hi]
  constructor
  · intro hd
    rw [readWord_denied (by rwa [permitted_tlps, grantOf_tlps]), grantOf_tlps]
  · intro hp hb hn
    rw [readWord_unmapped (by rwa [permitted_tlps, grantOf_tlps]) hb (by rwa [there_tlps])]
    rfl

/-! ### Aliases (R27) -/

/-- Each of the three aliases offers the bits of its own rule where the register is RW or RWD, and none elsewhere. -/
theorem offered_set_getLsbD (r : RegRow) (old v : Word) (i : Nat) :
    (offered .set r old v).getLsbD i = ((old.getLsbD i || v.getLsbD i) && (r.maskOf fun a => a == .rw || a == .rwd).getLsbD i) := by
  simp [offered]

theorem offered_clear_getLsbD (r : RegRow) (old v : Word) {i : Nat} (hi : i < 32) :
    (offered .clear r old v).getLsbD i = ((old.getLsbD i && !v.getLsbD i) && (r.maskOf fun a => a == .rw || a == .rwd).getLsbD i) := by
  simp [offered, hi]

theorem offered_toggle_getLsbD (r : RegRow) (old v : Word) (i : Nat) :
    (offered .toggle r old v).getLsbD i = ((old.getLsbD i != v.getLsbD i) && (r.maskOf fun a => a == .rw || a == .rwd).getLsbD i) := by
  simp [offered]

/-- Settles O14: the aliases offer the bits of their rules under the mask of the RW and RWD bits. -/
theorem aliasesActOnReadWriteBits : Obligations.AliasesActOnReadWriteBits := by
  intro r old v i hi
  rw [offered_set_getLsbD, offered_clear_getLsbD _ _ _ hi, offered_toggle_getLsbD]
  constructor <;> intro hm <;> simp [hm, offered]

/-! ### The three kinds of command -/

/-- A row whose meaning is a mailbox command carries out its body. -/
theorem carries {c : Nat → Nat → Instr} {opc : Nat} {body : Nat → Nat → State → Rsp} (hc : ∀ w k s, exec (c w k) s = cmdRun opc body w k s) :
    Carries c opc body := fun s w k hw hk hr => by
  rw [hc]; exact cmdRun_runs body hw hk hr

/-- A row whose meaning is an event of a die's unit carries out its effect. -/
theorem happens {c : Instr} {d : Nat} {has : Bool} {f : State → State} (hc : ∀ s, exec c s = s.onDie d has f) : Happens c d has f :=
  fun s hd hh => by rw [hc]; exact State.onDie_up f hd hh

/-- A row whose meaning is an event of the package carries out its effect. -/
theorem occurs {c : Instr} {has : Bool} {f : State → State} (hc : ∀ s, exec c s = s.onPart has f) : Occurs c has f :=
  fun s hh => by rw [hc]; exact State.onPart_has f hh

/-! ### Every row of register access completes -/

/-- Registers of the PRT block lie behind no selector window. -/
theorem plainRow_of_place_prt {s : State} {d slot base off : Nat} {r : RegRow} {sa : Nat} (h : s.place d slot .prt base off = .reg r sa) :
    plainRow d slot .prt off = some r := by
  unfold State.place at h
  dsimp only at h
  split at h
  · next _ hr => injection h with h1 _; rw [hr, h1]
  · cases h

/-- A SEQ register is not PRT_COMMIT, which holds a command bit alone. -/
theorem addr_ne_commit_of_isSeq {s : State} {a : WAcc} {b : Blk} {r : RegRow} {sa : Nat} (h : Reaches s a b r sa) (hr : r.isSeq = true) :
    a.addr ≠ prtBase + 0x40 := by
  intro e
  obtain rfl : Blk.prt = b := by
    have hblk := h.blk
    rw [e] at hblk
    exact Option.some.inj hblk
  have hrow := plainRow_of_place_prt h.place
  have hseq : (plainRow (targetOf (prtBase + 0x40)).die (targetOf (prtBase + 0x40)).slot .prt (targetOf (prtBase + 0x40)).plain).all
      (!·.isSeq) = true := by decide
  rw [← e, hrow] at hseq
  simp [hr] at hseq

/-- ALIAS_WRITE: no address beyond the plain registers is PRT_COMMIT's. -/
theorem aliasWrite_completes {s : State} {a : WAcc} {b : Blk} {r : RegRow} {sa : Nat} (h : Reaches s a b r sa) (ho : 0x4000 ≤ (targetOf a.addr).off) :
    exec (.aliasWrite a) s
      = .next (s.written a fun u => u.writeReg (u.grantOf a.port a.rid) a.port a.rid (targetOf a.addr) b sa r a.val) :=
  access_writeReg h (by simp [ho, h.blk, h.noBody, h.aligned]) (notCommitOff h (by omega))

theorem seqClear_completes {s : State} {a : WAcc} {b : Blk} {r : RegRow} {sa : Nat} (h : Reaches s a b r sa) (hr : r.isSeq = true) :
    exec (.seqClear a) s
      = .next (s.written a fun u => u.writeReg (u.grantOf a.port a.rid) a.port a.rid (targetOf a.addr) b sa r a.val) :=
  access_writeReg h (by simp [State.isSeqReg, h.blk, h.place, h.aligned, hr]) (addr_ne_commit_of_isSeq h hr)

theorem blockEnableWrite_completes {s : State} {a : WAcc} {b : Blk} {r : RegRow} {sa : Nat} (h : Reaches s a b r sa)
    (ho : (targetOf a.addr).plain = 4) : exec (.blockEnableWrite a) s
      = .next (s.written a fun u => u.writeEn (targetOf a.addr) b (formOf (targetOf a.addr).off) a.val (u.grantOf a.port a.rid).level) := by
  have hc : (targetOf a.addr).off ≠ 0x40 := fun e => by simp [Target.plain, e] at ho
  exact lands h _ (by simp [h.blk, h.notKnb, h.aligned, ho]) (notCommitOff h hc) fun u _ => by simp [State.writeReg, ho]

theorem counterSnapshot_completes {s : State} {a : WAcc} {b : Blk} {r : RegRow} {sa : Nat} (h : Reaches s a b r sa)
    (ho : (targetOf a.addr).off = 0xC) (hv : a.val.getLsbD 0 = true) : exec (.counterSnapshot a) s
      = .next (s.written a fun u => u.snapshot (targetOf a.addr).die (targetOf a.addr).slot b (targetOf a.addr).base) := by
  obtain ⟨hpl, hf⟩ := plain_off ho (by decide)
  exact lands h _ (by simp [h.blk, h.notKnb, h.aligned, ho]) (notCommitOff h (by omega)) fun u _ => by
    simp only [State.writeReg, hpl, hf, hv]; rfl

theorem indDataWrite_completes {s : State} {a : WAcc} {b : Blk} {r : RegRow} {sa : Nat} (h : Reaches s a b r sa)
    (ho : (targetOf a.addr).off = 0x1C) (hi : b.hasInd = true) : exec (.indDataWrite a) s
      = .next (s.written a fun u => u.indPost (targetOf a.addr).base a.val (u.grantOf a.port a.rid).level a.port) := by
  obtain ⟨hpl, -⟩ := plain_off ho (by decide)
  exact lands h _ (by simp [isIndData, h.blk, h.aligned, ho, hi]) (notCommitOff h (by omega)) fun u _ => by simp [State.writeReg, hpl]

/-- PRT_COMMIT that the lock-out rule lets through puts the staged table behind the commits on their way (R57, R58). -/
theorem prtCommit_completes {s : State} {a : WAcc} {r : RegRow} {sa : Nat} (h : Reaches s a .prt r sa) (he : a.addr = prtBase + 0x40)
    (hv : a.val.getLsbD 0 = true) (hok : s.commitOk a.port a.rid = true) : exec (.prtCommit a) s
      = .next ({ s.arrived a with commits := s.commits ++ [{ table := s.stagedPrt }] } : State).settled := by
  have hrow : accAt a .prt (· == 0x40) = true := by rw [accAt, he]; decide
  calc exec (.prtCommit a) s
      = s.access (accWrite a) (accAt a .prt (· == 0x40)) := rfl
    _ = _ := by rw [hrow, commit_access h he hv, if_pos hok]

/-- Settles O46: writes and reads end by the access they are, the work of a block by its die, the rest by its own effect. -/
theorem registerCommandsComplete : Obligations.RegisterCommandsComplete :=
  ⟨fun _ _ hu hi => access_within hu hi rfl,
    fun _ _ _ _ _ => aliasWrite_completes, fun _ _ _ _ _ => seqClear_completes, fun _ _ _ _ _ => blockEnableWrite_completes,
    fun _ _ hb hu => onBlock_up _ hb hu, fun _ _ hb => onBlock_global _ hb,
    fun _ _ _ _ _ => counterSnapshot_completes,
    fun _ a hu _ hi hd => access_within (x := accRead a) hu hi hd,
    fun _ _ _ _ _ => indDataWrite_completes,
    fun _ _ hb hu => onBlock_up _ hb hu, fun _ _ hb => onBlock_global _ hb,
    fun _ _ hb hu => onBlock_up _ hb hu, fun _ _ hb => onBlock_global _ hb,
    fun _ => happens fun _ => rfl,
    fun _ _ _ _ => prtCommit_completes, fun _ => rfl⟩

/-! ### Every row of Lanyard mailboxes, firmware and the Knot Book completes -/

theorem mbxDoorbell_lands : Lands .mbxDoorbell .mbx (· == 0x40) fun a _ _ u =>
    if plainForm a then doorbellSlots ((targetOf a.addr).slot - 4) (u.grantOf a.port a.rid).level (u.grantOf a.port a.rid).base
      (u.grantOf a.port a.rid).count a.port (a.val &&& 0xFFFF) u else u :=
  landsR (fun _ _ => rfl) (by decide) fun a r sa u _ ho => by
    have hpl : (targetOf a.addr).plain = 0x40 := by simpa using ho
    simp [State.writeReg, State.writeMbx, plainForm, hpl]

theorem mbxRelease_lands : Lands .mbxRelease .mbx (· == 0x44) fun a _ _ u =>
    if plainForm a then releaseSlots ((targetOf a.addr).slot - 4) (a.val &&& 0xFFFF) u else u :=
  landsR (fun _ _ => rfl) (by decide) fun a r sa u _ ho => by
    have hpl : (targetOf a.addr).plain = 0x44 := by simpa using ho
    simp [State.writeReg, State.writeMbx, plainForm, hpl]

/-- A write whose every word is a command word is carried out as an access (R66). -/
theorem commandAreaWrite_completes {s : State} {x : Access} (hu : s.dieUp x.port = true) (hi : x.addr + x.len ≤ 0x40000000) (hw : x.wr = true)
    (hc : (accWords x).all isCommandWord = true) : exec (.commandAreaWrite x) s = .next (s.accessWords x).settled :=
  access_within hu hi (by simp only [hw, hc, Bool.and_true])

/-- Settles O47: each row by its kind, a write of a register, a mailbox command, or an event of a cluster or of the package. -/
theorem lanyardCommandsComplete : Obligations.LanyardCommandsComplete :=
  ⟨mbxDoorbell_lands, mbxRelease_lands, fun _ _ => commandAreaWrite_completes, fun _ _ => occurs fun _ => rfl,
    carries fun _ _ _ => rfl, carries fun _ _ _ => rfl, carries fun _ _ _ => rfl, carries fun _ _ _ => rfl, carries fun _ _ _ => rfl,
    fun _ => carries fun _ _ _ => rfl, carries fun _ _ _ => rfl, carries fun _ _ _ => rfl, carries fun _ _ _ => rfl, carries fun _ _ _ => rfl,
    fun _ => happens fun _ => rfl, fun _ => happens fun _ => rfl, occurs fun _ => rfl, occurs fun _ => rfl⟩

end Sys2Proof.Proofs

/-!
The statements about register behaviour: the protection table and its commits, set events and their clearing, what a block's registers take while
it is disabled or not, snapshots, indirect accesses and triplicated bits.
-/
namespace Sys2Proof.Proofs
open Sys2Proof Sys2Proof.Machine Sys2Proof.Laws

/-! ### What a command leaves of the protection table (R56, R57) -/

/-- A command that is neither a commit's completion nor a reset: the table in force stays, commits are only added, and the fixed fields of R56
hold after it where they held before. -/
structure TableKept (s t : State) : Prop where
  part : t.part = s.part
  table : t.prt = s.prt
  commits : ∃ l, t.commits = s.commits ++ l
  guarded : s.guarded = true → t.guarded = true

theorem TableKept.refl (s : State) : TableKept s s := ⟨rfl, rfl, ⟨[], (List.append_nil _).symm⟩, id⟩

theorem TableKept.trans {s t u : State} (h : TableKept s t) (k : TableKept t u) : TableKept s u := by
  obtain ⟨l, hl⟩ := h.commits
  obtain ⟨m, hm⟩ := k.commits
  exact ⟨k.part.trans h.part, k.table.trans h.table, ⟨l ++ m, by rw [hm, hl, List.append_assoc]⟩, k.guarded ∘ h.guarded⟩

theorem TableKept.keeps (s u : State) : TableKept s (u.keeps s) := ⟨rfl, rfl, ⟨[], (List.append_nil _).symm⟩, guard_of rfl rfl rfl⟩

/-- Mailbox commands and the events of a die, of a block or of the package keep the table whatever their effect is. -/
theorem having_tableKept {s t : State} {has : Bool} {f : State → State} (h : s.having has f = .next t) : TableKept s t := by
  obtain ⟨-, rfl⟩ := State.having_next h
  exact .keeps s _

theorem onPart_tableKept {s t : State} {has : Bool} {f : State → State} (h : s.onPart has f = .next t) : TableKept s t := having_tableKept h

theorem onDie_tableKept {s t : State} {d : Nat} {has : Bool} {f : State → State} (h : s.onDie d has f = .next t) : TableKept s t :=
  having_tableKept h

theorem onBlock_tableKept {s t : State} {base : Nat} {f : State → State} (h : s.onBlock base f = .next t) : TableKept s t := having_tableKept h

theorem cmdRun_tableKept {opc w k : Nat} {body : Nat → Nat → State → Rsp} {s t : State} (h : cmdRun opc body w k s = .next t) : TableKept s t :=
  having_tableKept h

theorem accessWords_tableKept (s : State) (x : Access) : TableKept s (s.accessWords x) := by
  obtain ⟨hpart, -, htable, hcommits⟩ := accessWords_spec s x
  exact ⟨hpart, htable, hcommits, fun hg => words_guard (accWords x) x _ (guard_of (by simp) (by simp) (by simp) hg)⟩

theorem access_tableKept {s t : State} {x : Access} {ok : Bool} (h : s.access x ok = .next t) : TableKept s t := by
  obtain rfl | rfl := State.access_cases h
  · exact .refl _
  · exact (accessWords_tableKept s x).trans (.keeps _ _)

theorem indRegWrite_tableKept {s t : State} {x : WAcc} {b : Blk} {p : Nat → Bool} (h : s.indRegWrite x b p = .next t) : TableKept s t := by
  unfold State.indRegWrite at h
  dsimp only at h
  split at h
  · split at h
    · next u hu =>
      injection h with h
      subst h
      exact (access_tableKept hu).trans (.keeps _ _)
    · exact access_tableKept h
  · exact access_tableKept h

theorem txbCtlWrite_tableKept {s t : State} {x : WAcc} {bit : Nat} (h : s.txbCtlWrite x bit = .next t) : TableKept s t :=
  indRegWrite_tableKept h

theorem opctlWrite_tableKept {s t : State} {x : WAcc} {bit : Nat} (h : s.opctlWrite x bit = .next t) : TableKept s t :=
  indRegWrite_tableKept h

/-- Every command but the four that may change the table is an access, a write of an indirect register, an event of the package, of a block or of a
die, or else a mailbox command. -/
theorem exec_tableKept {c : Instr} {s t : State} (h : exec c s = .next t) (hc : changesTable c = false) : TableKept s t := by
  cases c
  case prtCommitComplete | coldReset | warmReset | supplyExcursion => cases hc
  all_goals dsimp only [exec] at h
  case registerWrite | aliasWrite | seqClear | blockEnableWrite | counterSnapshot | indDataRead | indDataWrite | commandAreaWrite
      | dmaRingCtlRestart | dmaRingCtlHalt | prtCommit | mbxDoorbell | mbxRelease | lnqLpWrite | lnqPrbsInject | holdmaxClear | strDeadlineWrite
      | webLoadGo | trgArm | qmaxClear | splDeadlineWrite | csmAckWrite | dmaDoorbell | fltSevWrite | fltSrcInjGo | fltTmrInjGo | mfpCfgWrite =>
    exact access_tableKept h
  case timeIncWrite | timeStepGo | calGo | qGetWrite | objCfgWrite | canTimingWrite => exact indRegWrite_tableKept h
  case txbRequest | txbAbort => exact txbCtlWrite_tableKept h
  case canOpctlSleep | canOpctlWake | canOpctlRecover | canOpctlDetect => exact opctlWrite_tableKept h
  case commandStart | leaderTakeover | knotBookRewrite | recordExpire | contextFree | bindingEffect | ptpMessageRx | ptpMessageTx
      | secondsRollover | calendarSetApply | timeChangeApply | stripeSealTimeout | coilResponseRx | shardTimeout | durableTimeout | targetProbe
      | rebuildStripe | replaceCopyStripe | faultIrqHoldoffEnd | referenceLoss | portReset | resetRelease | bootReady | testLogicReset
      | jtagBypass | jtagIdcode | jtagSamplePreload | jtagExtest | jtagClamp | jtagHighz | jtagExtestPulse | jtagExtestTrain | ptpAnnounceTimeout
      | coilReadDataRx =>
    exact onPart_tableKept h
  case blockQuiesce | indWriteApply | indAccessTimeout => exact onBlock_tableKept h
  case tmrScrub | clusterRestart | clusterDeclaredFailed | laneCalDone | laneAligned | alignLoss | backgroundCalStep | transmitRequest | headWake
      | laneExitDone | cdrLoss | selfCheckDone | synthUnlock | spareTxAligned | swapRxActive | codewordRx | nakRepeat | ackSend | linkFlitRx
      | tunnelRspRx | tunnelTimeout | eventFlitRx | csi2PacketRx | lineDeadline | linkDown | streamRemoval | encoderEdge | encoderStall
      | replicaEdgeUpdate | srcLost | timeAlignLoss | triggerFire | timeTrigger | outputWindowStart | outputWindowEnd | delayLineExchange
      | sliceLineRead | lineRelease | takeoverDone | stagedSetApply | staRecordDrain | staConfigApply | handoffPacketRx | splLineDeadline
      | splCloseTimeout | composeWaitExpiry | splGroupApply | schedulerGrant | descriptorFetch | ownClearRefetch | flushReadIssue
      | flushReadComplete | busError | ringInterrupt | trackerEntryGrant | pcieLinkDown | busMasterDisable | functionLevelReset | pcieLinkDegraded
      | ethStatusRx | ethReceiptTimeout | stalledResend | ethLinkDown | ethLinkUp | arpRequestRx | launchDue | ppsInEdge | faultEvent
      | hbmSweepDone | sramScrub | faultEscalation | heartbeatMiss | tempThreshold | canFrameRx | canDetectDwellExpiry | canArbitrationStart
      | canTxAttemptEnd | canRecoveryDone | canSleepEntry | canWakeEvent | canIntegrationDone | mfpFunctionSwitch | lanesReadyTimeout | pcieLinkUp
      | pciConfigWrite | canRxError | prbsCheckerRelock | ethFrameRxDiscard | composeStopWaitExpiry =>
    exact onDie_tableKept h
  all_goals exact cmdRun_tableKept h

/-- Settles O8: the table in force and the commits on their way are those of the command's kind. -/
theorem tableChangesOnlyByCommitOrReset : Obligations.TableChangesOnlyByCommitOrReset := fun _ _ _ h hc =>
  have hk := exec_tableKept h hc
  ⟨hk.table, hk.commits⟩

/-! ### The fixed fields over commits and resets (R56, R57, R370) -/

/-- The reset values of the table hold the fixed fields. -/
theorem fixedTable_nil (p : Part) : fixedTable p [] = true := by cases p <;> decide

theorem guarded_of_empty {s : State} (ht : s.prt = []) (hc : s.commits = []) : s.guarded = true := by
  simp [State.guarded, ht, hc, fixedTable_nil]

/-- Settles O6: no table is committed at reset. -/
theorem resetStateIsGuarded : Obligations.ResetStateIsGuarded := fun _ => guarded_of_empty rfl rfl

/-- What a cold reset keeps holds no table and no commit. -/
theorem coldResetF_guarded (s : State) : ((coldResetF s).own s).guarded = true := guarded_of_empty rfl rfl

theorem warmReset_prt (s : State) (cause : Nat) : (s.warmReset cause).prt = [] :=
  upTo_keep State.prt _ (fun _ t => ps_keep State.prt State.p_prt _ _ t) _ _

theorem warmReset_commits (s : State) (cause : Nat) : (s.warmReset cause).commits = [] :=
  upTo_keep State.commits _ (fun _ t => ps_keep State.commits State.p_commits _ _ t) _ _

/-- A warm reset clears the table, or has no effect on it (R370, R371). -/
theorem warmResetF_guarded (c : WarmCause) {s : State} (hg : s.guarded = true) : ((warmResetF c s).own s).guarded = true := by
  have hw : ∀ (u : State) k, ((u.warmReset k).own s).guarded = true := fun u k => guarded_of_empty (warmReset_prt u k) (warmReset_commits u k)
  unfold warmResetF
  cases c <;> dsimp only <;> split
  case jtagCe.isTrue | command.isTrue | rstn.isTrue => exact hw _ _
  case jtagCe.isFalse | command.isFalse | rstn.isFalse => exact guard_of rfl rfl rfl hg

/-- The oldest commit holds the fixed fields, as every commit on its way does. -/
theorem prtCompleteF_guarded {s : State} (hg : s.guarded = true) : ((prtCompleteF s).own s).guarded = true := by
  unfold prtCompleteF
  split
  · exact guard_of rfl rfl rfl hg
  · next c rest hc =>
    simp only [State.guarded, hc, List.all_cons, Bool.and_eq_true] at hg
    simp [State.guarded, hg.2.1, hg.2.2]
    
theorem onReset_guarded {s t : State} {f : State → State} (h : s.onReset f = .next t) (hf : ((f s).own s).guarded = true) : t.guarded = true := by
  rw [State.onReset_next h]; exact hf

/-- The four commands that may change the table in force. -/
theorem changesTable_cases {c : Instr} (h : changesTable c = true) :
    c = .prtCommitComplete ∨ c = .coldReset ∨ (∃ k, c = .warmReset k) ∨ ∃ d r, c = .supplyExcursion d r := by
  unfold changesTable at h
  split at h <;> simp at h ⊢

theorem exec_guarded {c : Instr} {s t : State} (h : exec c s = .next t) (hg : s.guarded = true) : t.guarded = true := by
  cases hc : changesTable c
  case false => exact (exec_tableKept h hc).guarded hg
  case true =>
    obtain rfl | rfl | ⟨k, rfl⟩ | ⟨d, r, rfl⟩ := changesTable_cases hc
    · exact onReset_guarded h (prtCompleteF_guarded hg)
    · exact onReset_guarded h (coldResetF_guarded s)
    · exact onReset_guarded h (warmResetF_guarded k hg)
    · change execSupplyExcursion d r s = .next t at h
      unfold execSupplyExcursion at h
      split at h
      · exact onReset_guarded h (coldResetF_guarded s)
      · exact (onDie_tableKept h).guarded hg

/-- Settles O7: an idle step keeps the table, and every command keeps the fixed fields in it and in the commits on their way. -/
theorem stepKeepsTheTableGuarded : Obligations.StepKeepsTheTableGuarded := by
  intro s t hg h
  unfold step at h
  split at h
  · injection h with h
    subst h
    exact (TableKept.keeps s _).guarded hg
  · next c rest _ => exact exec_guarded h (guard_of (t := s.queue rest) rfl rfl rfl hg)

/-! ### Accesses below Root (R54 to R57) -/

/-- Below Root no written word is an accepted commit. -/
theorem commits?_below_root {s : State} (hg : s.guarded = true) {port rid : Nat} (hl : (s.grantOf port rid).level ≠ 0) (a : Nat) (v : Word)
    (whole : Bool) : s.commits? port rid a v whole = false := by
  by_cases ha : a = prtBase + 0x40
  · have hd := below_denied hg _ hl (targetOf a) (.inl (by rw [ha]; decide)) (by rw [ha]; decide) v
    simp [State.commits?, hd]
  · simp [State.commits?, ha]

/-- The words of an access below Root add no commit: after each of them the table and the requester's grant are what they were. -/
theorem words_below_root (x : Access) (l : List Nat) : ∀ s : State, s.guarded = true → (s.grantOf x.port x.rid).level ≠ 0 →
    (each l (fun a s => s.accessWord x a) s).commits = s.commits := by
  induction l with
  | nil => intros; rfl
  | cons a l ih =>
    intro s hg hl
    obtain ⟨hpart, -, hprt, hcommits⟩ := s.accessWord_spec x a
    have hsame : (s.accessWord x a).commits = s.commits :=
      hcommits.resolve_right fun hc => by simp [commits?_below_root hg hl] at hc
    have hgrant : (s.accessWord x a).grantOf x.port x.rid = s.grantOf x.port x.rid := by simp [State.grantOf, hpart, hprt]
    exact (ih _ (guard_of hpart hprt hsame hg) (by rwa [hgrant])).trans hsame

/-- Settles O9: an access keeps the table in force, and below Root it adds no commit. -/
theorem onlyRootCommitsATable : Obligations.OnlyRootCommitsATable := by
  intro s t x hg hl h
  refine ⟨(access_tableKept h).table, ?_⟩
  have hw : (s.accessWords x).commits = s.commits := by
    have := words_below_root x (accWords x) (s.tlps x.port (if x.wr then 0 else 1) 1) (guard_of (by simp) (by simp) (by simp) hg)
      (by rwa [grantOf_tlps])
    simpa [State.accessWords] using this
  obtain rfl | rfl := State.access_cases h
  · rfl
  · exact hw

/-- A denied write is recorded, whatever its target (R55). -/
theorem writeWord_denied {s : State} {port rid a : Nat} {v : Word}
    (h : s.permitted (s.grantOf port rid) (targetOf a) true (s.carried (targetOf a) v) = false) (whole : Bool) :
    s.writeWord port rid a v whole = s.deny port rid (s.grantOf port rid).level a true := by
  unfold State.writeWord
  dsimp only
  rw [h]
  rfl

/-- Settles O10: the policies of SYS and PRT ask Root of a write, so its one word takes the branch of a denial. -/
theorem writesBelowRootToSysAndPrtAreDenied : Obligations.WritesBelowRootToSysAndPrtAreDenied := by
  intro s a hg hu ha hi hb hl
  have hg' : (s.arrived a).guarded = true := guard_of (by simp [State.arrived]) (by simp [State.arrived]) (by simp [State.arrived]) hg
  have hl' : ((s.arrived a).grantOf a.port a.rid).level ≠ 0 := by rwa [State.arrived_grant]
  have hbody : (targetOf a.addr).body = false := hb.elim (fun h => target_body _ _ h (.inl rfl)) (fun h => target_body _ _ h (.inr rfl))
  have hword : s.accessWords (accWrite a)
      = ((s.arrived a).deny a.port a.rid (s.grantOf a.port a.rid).level a.addr true).keeps (s.arrived a) := by
    unfold State.accessWords
    rw [accWords_write a ha]
    change (s.arrived a).accessWord (accWrite a) a.addr = _
    rw [accessWord_eq, commits?_below_root hg' hl', writeWord_denied (below_denied hg' _ hl' _ hb hbody _), State.arrived_grant]
    rfl
  calc exec (.registerWrite (accWrite a)) s
      = .next (s.accessWords (accWrite a)).settled := access_within hu hi rfl
    _ = _ := by rw [hword]; rfl

/-! ### Commits refused and completed (R57, R58) -/

/-- PRT_CSTAT, where LOCKOUT is set, is no register of the staged table. -/
theorem stagedPrt_evt_cstat (s : State) (l : List Fld) : (s.evt prtBase R.PRT_CSTAT_E l).stagedPrt = s.stagedPrt :=
  staged_eq rfl fun a ha => State.rd_evt_ne _ _ _ _ fun e => by
    rw [e] at ha
    exact absurd ha (by decide +kernel)

/-- PRT_CSTAT.DIRTY compares the staged table with the one in force. -/
theorem view_dirty (s : State) : bits (s.view 8 1 .prt 0x48 (prtBase + 0x48)) 0 0 = if s.stagedPrt = s.prt then 0 else 1 := by
  have : s.view 8 1 .prt 0x48 (prtBase + 0x48) = putBits (s.rd (prtBase + 0x48)) 0 0 (if s.stagedPrt = s.prt then 0 else 1) := rfl
  rw [this, bits_putBits_same _ _ (by decide)]
  split <;> rfl

/-- The part after PRT_COMMIT that the lock-out rule refuses: one set event of PRT_CSTAT. -/
def commitRefused (s : State) (a : WAcc) : State :=
  ((s.arrived a).evt prtBase R.PRT_CSTAT_E [R.PRT_CSTAT_LOCKOUT]).keeps (s.arrived a)

theorem prtCommit_refused {s : State} {a : WAcc} {r : RegRow} {sa : Nat} (h : Reaches s a .prt r sa) (he : a.addr = prtBase + 0x40)
    (hv : a.val.getLsbD 0 = true) (hno : s.commitOk a.port a.rid = false) (ht : s.todo = []) :
    exec (.prtCommit a) s = .next (commitRefused s a) := by
  have hrow : accAt a .prt (· == 0x40) = true := by rw [accAt, he]; decide
  have hnil : (commitRefused s a).todo = [] := by simp [commitRefused, State.arrived, ht]
  calc exec (.prtCommit a) s
      = s.access (accWrite a) (accAt a .prt (· == 0x40)) := rfl
    _ = .next (commitRefused s a).settled := by rw [hrow, commit_access h he hv, hno]; rfl
    _ = .next (commitRefused s a) := by rw [settled_nil hnil]

theorem commitRefused_prt (s : State) (a : WAcc) : (commitRefused s a).prt = s.prt := by simp [commitRefused, State.arrived]
theorem commitRefused_commits (s : State) (a : WAcc) : (commitRefused s a).commits = s.commits := by simp [commitRefused, State.arrived]

theorem commitRefused_rd (s : State) (a : WAcc) (x : Nat) :
    (commitRefused s a).rd x = ((s.arrived a).evt prtBase R.PRT_CSTAT_E [R.PRT_CSTAT_LOCKOUT]).rd x :=
  State.rd_keeps _ _ (by simp) x

theorem commitRefused_rd_ne (s : State) (a : WAcc) {x : Nat} (hx : x ≠ prtBase + 0x48) : (commitRefused s a).rd x = s.rd x := by
  rw [commitRefused_rd, State.rd_evt_ne _ _ _ _ hx, arr_rd]

theorem commitRefused_lockout (s : State) (a : WAcc) : (commitRefused s a).gb prtBase R.PRT_CSTAT_LOCKOUT = true := by
  have := evt_gb (s := s.arrived a) (b := prtBase) (e := R.PRT_CSTAT_E) (f := R.PRT_CSTAT_LOCKOUT) (c := []) rfl rfl (by decide)
  unfold State.gb State.g at this ⊢
  rwa [commitRefused_rd]

theorem commitRefused_stagedPrt (s : State) (a : WAcc) : (commitRefused s a).stagedPrt = s.stagedPrt :=
  calc (commitRefused s a).stagedPrt
      = ((s.arrived a).evt prtBase R.PRT_CSTAT_E [R.PRT_CSTAT_LOCKOUT]).stagedPrt := staged_congr (by simp [commitRefused]) (by simp [commitRefused])
    _ = (s.arrived a).stagedPrt := stagedPrt_evt_cstat _ _
    _ = s.stagedPrt := staged_congr (by simp [State.arrived]) (by simp [State.arrived])

/-- Settles O11: the refused commit is one set event of PRT_CSTAT; were the staged table the one in force, it would still give its writer Root. -/
theorem lockOutRefusesTheCommit : Obligations.LockOutRefusesTheCommit := by
  intro s a r sa h he hv hroot hlost htodo
  have hno : s.commitOk a.port a.rid = false := by simp [State.commitOk, hlost]
  have hdiffer : s.stagedPrt ≠ s.prt := fun e => hlost (by rw [e]; exact hroot)
  refine ⟨commitRefused s a, prtCommit_refused h he hv hno htodo, commitRefused_prt s a, commitRefused_commits s a, ?_,
    commitRefused_lockout s a, ?_, fun x => commitRefused_rd_ne s a⟩
  · unfold State.g
    rw [commitRefused_rd_ne s a (by decide)]
  · rw [view_dirty, commitRefused_stagedPrt, commitRefused_prt, if_neg hdiffer]

theorem prtCompleteF_cons {s : State} {c : Commit} {rest : List Commit} (hc : s.commits = c :: rest) :
    prtCompleteF s
      = ({ s with prt := c.table, commits := rest } : State).p prtBase R.PRT_GEN_GEN (s.g prtBase R.PRT_GEN_GEN + 1) := by
  simp only [prtCompleteF, hc]

/-- Settles O12: the oldest commit leaves the queue for the table in force and PRT_GEN counts it. -/
theorem commitCompletesInOrder : Obligations.CommitCompletesInOrder := by
  constructor
  · intro s c rest hc
    have hf := prtCompleteF_cons hc
    have hrd : ∀ x, ((prtCompleteF s).own s).rd x = (prtCompleteF s).rd x := State.rd_own _ _ (by simp [hf])
    refine ⟨(prtCompleteF s).own s, rfl, by simp [hf], by simp [hf], ?_, fun x hx => ?_, by simp [hf], by simp [hf], by simp [hf], by simp [hf]⟩
    · unfold State.g
      rw [hrd, hf]
      exact State.g_p_same _ prtBase R.PRT_GEN_GEN _ (by decide)
    · rw [hrd, hf]
      exact State.rd_p_ne _ R.PRT_GEN_GEN _ hx
  · intro s hc
    have hf : prtCompleteF s = s := by simp only [prtCompleteF, hc]
    calc exec .prtCommitComplete s = .next ((prtCompleteF s).own s) := rfl
      _ = .next s := by rw [hf]; rfl

/-! ### Set events (R39) -/

theorem flagMask_one (f : Fld) : flagMask [f] = 2 ^ f.lo := by simp [flagMask]

/-- A flag's bit in the mask of a set event. -/
theorem flagMask_one_getLsbD (f : Fld) {i : Nat} (hi : i < 32) : (BitVec.ofNat 32 (flagMask [f])).getLsbD i = decide (i = f.lo) := by
  rw [flagMask_one, BitVec.getLsbD_ofNat, Nat.testBit_two_pow]
  simp [hi, eq_comm]

theorem evt_seq (s : State) (b : Nat) (e : EvtReg) (l : List Fld) (c : List (Fld × Nat)) :
    bits ((s.evt b e l c).rd (b + e.off)) 31 24 = (bits (s.rd (b + e.off)) 31 24 + 1) % 256 := by
  unfold State.evt
  rw [State.rd_wr_same, bits_putBits_same _ _ (by decide)]
  rfl

/-- In a register with a flag, a set event adds its flag and OVF. -/
theorem evt_getLsbD_busy {s : State} {b : Nat} {e : EvtReg} (f : Fld) (c : List (Fld × Nat)) (h : (s.rd (b + e.off)).toNat &&& e.mask ≠ 0)
    {i : Nat} (hi : i < 24) : ((s.evt b e [f] c).rd (b + e.off)).getLsbD i
      = ((s.rd (b + e.off)).getLsbD i || decide (i = f.lo) || e.ovf.testBit i) := by
  have hb : ((s.rd (b + e.off)).toNat &&& e.mask != 0) = true := by simpa using h
  unfold State.evt
  dsimp only
  rw [State.rd_wr_same, putBits_getLsbD _ _ _ _ _ (by omega), if_neg (by omega), hb]
  simp only [if_true, BitVec.getLsbD_or, flagMask_one_getLsbD f (show i < 32 by omega), BitVec.getLsbD_ofNat,
    show i < 32 by omega, decide_true, Bool.true_and]

/-- In a register without a flag, it adds its flag and latches its capture fields. -/
theorem evt_getLsbD_clear {s : State} {b : Nat} {e : EvtReg} (f c : Fld) (x : Nat) (h : (s.rd (b + e.off)).toNat &&& e.mask = 0) {i : Nat}
    (hi : i < 24) : ((s.evt b e [f] [(c, x)]).rd (b + e.off)).getLsbD i
      = ((putBits (s.rd (b + e.off)) c.hi c.lo x).getLsbD i || decide (i = f.lo)) := by
  have hb : ((s.rd (b + e.off)).toNat &&& e.mask != 0) = false := by simpa using h
  unfold State.evt
  dsimp only
  rw [State.rd_wr_same, putBits_getLsbD _ _ _ _ _ (by omega), if_neg (by omega), hb]
  simp only [Bool.false_eq_true, if_false, List.foldl_cons, List.foldl_nil, BitVec.getLsbD_or, flagMask_one_getLsbD f (show i < 32 by omega),
    show (0 : Word) = 0#32 from rfl, BitVec.getLsbD_zero, Bool.or_false]

/-- Settles O15: bit by bit, with a flag set already and without one. -/
theorem setEventAdvancesTheSequence : Obligations.SetEventAdvancesTheSequence := by
  intro s b e f c x hf _ hc hc' hdisj
  refine ⟨evt_seq .., ?_, fun hb i hi => evt_getLsbD_busy f _ hb hi, fun hb => ⟨?_, fun i hi hni => ?_⟩, fun y hy => State.rd_evt_ne _ _ _ _ hy⟩
  · by_cases hb : (s.rd (b + e.off)).toNat &&& e.mask = 0
    · simp [evt_getLsbD_clear f c x hb hf]
    · simp [evt_getLsbD_busy f [(c, x)] hb hf]
  · have hlatch : bits ((s.evt b e [f] [(c, x)]).rd (b + e.off)) c.hi c.lo = bits (putBits (s.rd (b + e.off)) c.hi c.lo x) c.hi c.lo :=
      bits_ext fun i h1 h2 _ => by simp [evt_getLsbD_clear f c x hb (show i < 24 by omega), Ne.symm (hdisj i h1 h2)]
    rw [hlatch, bits_putBits_same _ _ (by omega)]
    rfl
  · rw [evt_getLsbD_clear f c x hb hi, putBits_getLsbD _ _ _ _ _ (by omega), if_neg hni]

/-! ### Clearing a SEQ register (R40) -/

/-- A field reads 0 exactly when its mask selects no bit. -/
theorem bits_eq_zero_iff (w : Word) (hi lo : Nat) : bits w hi lo = 0 ↔ w &&& bitMask hi lo = 0 := by
  have hbit : ∀ i, i < 32 → (w &&& bitMask hi lo).getLsbD i = (w.getLsbD i && (decide (lo ≤ i) && decide (i ≤ hi))) := fun i h => by
    rw [BitVec.getLsbD_and, bitMask_getLsbD _ _ _ h]
  have hzero : ∀ i, (0 : Word).getLsbD i = false := fun i => BitVec.getLsbD_zero
  constructor
  · intro h
    refine BitVec.eq_of_getLsbD_eq fun i hlt => ?_
    rw [hbit i hlt, hzero]
    by_cases hin : lo ≤ i ∧ i ≤ hi
    · have := bits_testBit w hi lo (i - lo)
      rw [h, Nat.zero_testBit, show lo + (i - lo) = i by omega, decide_eq_true (by omega : i - lo < hi + 1 - lo), Bool.true_and] at this
      simp [← this]
    · rw [← Bool.decide_and, decide_eq_false hin, Bool.and_false]
  · intro h
    refine (bits_ext fun i h1 h2 hlt => ?_).trans (by simp [bits] : bits 0 hi lo = 0)
    have := hbit i hlt
    rw [h, hzero] at this
    simpa [h1, h2, hzero] using this.symm

theorem seqClearWord_stale {old new : Word} (h : bits new 31 24 ≠ bits old 31 24) (m c : Word) : seqClearWord old new m c = old := if_neg h

/-- A clearing write takes the flags written as 1, and with the last flag the capture fields. -/
theorem seqClearWord_current {old new : Word} (h : bits new 31 24 = bits old 31 24) (m c : Word) :
    seqClearWord old new m c
      = if (old &&& ~~~(new &&& m)) &&& m = 0 ∧ old &&& m ≠ 0 then old &&& ~~~(new &&& m) &&& ~~~c else old &&& ~~~(new &&& m) := by
  simp [seqClearWord, h]

/-- The mask `m` of the flags and the mask `c` of the capture fields select no bit in common. -/
theorem seqClearWord_bit {old new m c : Word} (h : bits new 31 24 = bits old 31 24) {i : Nat} (hi : i < 32) (hc : c.getLsbD i = false) :
    (seqClearWord old new m c).getLsbD i = (old.getLsbD i && !(new.getLsbD i && m.getLsbD i)) := by
  rw [seqClearWord_current h]
  split <;> simp only [BitVec.getLsbD_and, BitVec.getLsbD_not, hi, hc, decide_true, Bool.true_and, Bool.not_false, Bool.and_true]

theorem seqClearWord_flags {old new m c : Word} (h : bits new 31 24 = bits old 31 24) (hmc : m &&& c = 0) :
    seqClearWord old new m c &&& m = (old &&& ~~~(new &&& m)) &&& m := by
  refine BitVec.eq_of_getLsbD_eq fun i hi => ?_
  cases hm : m.getLsbD i with
  | false => simp [hm]
  | true =>
    have hc : c.getLsbD i = false := by simpa [hm] using congrArg (·.getLsbD i) hmc
    simp only [BitVec.getLsbD_and, BitVec.getLsbD_not, seqClearWord_bit h hi hc, hi, decide_true, Bool.true_and]

/-- While a flag is left the capture fields stay. -/
theorem seqClearWord_capture_kept {old new m c : Word} (h : bits new 31 24 = bits old 31 24) (hmc : m &&& c = 0)
    (hleft : seqClearWord old new m c &&& m ≠ 0) {i : Nat} (hi : i < 32) (hm : m.getLsbD i = false) :
    (seqClearWord old new m c).getLsbD i = old.getLsbD i := by
  rw [seqClearWord_flags h hmc] at hleft
  rw [seqClearWord_current h, if_neg fun hl => hleft hl.1]
  simp only [BitVec.getLsbD_and, BitVec.getLsbD_not, hi, hm, decide_true, Bool.and_false, Bool.not_false, Bool.and_true]

/-- With the last flag they read 0. -/
theorem seqClearWord_capture_cleared {old new m c : Word} (h : bits new 31 24 = bits old 31 24) (hmc : m &&& c = 0)
    (hnone : seqClearWord old new m c &&& m = 0) (hold : old &&& m ≠ 0) {i : Nat} (hc : c.getLsbD i = true) :
    (seqClearWord old new m c).getLsbD i = false := by
  rw [seqClearWord_flags h hmc] at hnone
  rw [seqClearWord_current h, if_pos ⟨hnone, hold⟩]
  simp [hc]

/-! ### What a register takes (R37, R43) -/

theorem rd_cfgErr_ne (s : State) {base x : Nat} (f : Fld) (level off : Nat) (h : x ≠ base + 8) : (s.cfgErr base f level off).rd x = s.rd x :=
  State.rd_evt_ne _ _ _ _ h

/-- An event's register depends on what it held alone. -/
theorem rd_evt_congr {s t : State} {b : Nat} {e : EvtReg} (h : t.rd (b + e.off) = s.rd (b + e.off)) (l : List Fld) (c : List (Fld × Nat)) :
    (t.evt b e l c).rd (b + e.off) = (s.evt b e l c).rd (b + e.off) := by
  simp only [State.evt, State.rd_wr_same, h]

/-- A rejection is recorded exactly when an RWD bit would have changed. -/
theorem rwdCheck_enabled {s : State} {base : Nat} (hd : s.disabled base = false) (sa : Nat) (r : RegRow) (w : Word) (level off : Nat) :
    s.rwdCheck base sa r w level off
      = if (s.rd sa ^^^ w) &&& r.maskOf (· == .rwd) = 0 then s else s.cfgErr base R.HDR_CFGERR_RWD_REJ level off := by
  unfold State.rwdCheck
  dsimp only
  by_cases h : (s.rd sa ^^^ w) &&& r.maskOf (· == .rwd) = 0
  · rw [if_pos h, if_neg (by simp [h])]
  · have hm : r.maskOf (· == .rwd) ≠ 0 := fun e => h (by simp [e])
    rw [if_neg h, if_pos (by simp only [hd, Bool.and_eq_true, bne_iff_ne]; exact ⟨⟨hm, rfl⟩, h⟩)]

theorem rwdCheck_rd_ne (s : State) {base x : Nat} (sa : Nat) (r : RegRow) (w : Word) (level off : Nat) (h : x ≠ base + 8) :
    (s.rwdCheck base sa r w level off).rd x = s.rd x := by
  unfold State.rwdCheck
  dsimp only
  split
  · exact rd_cfgErr_ne _ _ _ _ h
  · rfl

/-- CTRL is not CFGERR, so recording a rejection disables no block. -/
theorem rwdCheck_disabled (s : State) (base sa : Nat) (r : RegRow) (w : Word) (level off : Nat) :
    (s.rwdCheck base sa r w level off).disabled base = s.disabled base := by
  have hctrl : (s.rwdCheck base sa r w level off).rd (base + 4) = s.rd (base + 4) := rwdCheck_rd_ne s sa r w level off (by omega)
  unfold State.disabled State.gb State.g
  rw [show R.HDR_CTRL_EN.off = 4 from rfl, show R.HDR_CTRL_QUIESCED.off = 4 from rfl, hctrl]

/-- A block that is not disabled takes RW bits alone. -/
theorem taken_enabled {s : State} {base : Nat} (hd : s.disabled base = false) (r : RegRow) : s.taken base r = r.maskOf (· == .rw) := by
  simp [State.taken, hd]

/-- A plain write of a register of no SEQ flags, of a block that is not disabled. -/
theorem writeRow_enabled_rd {s : State} {base : Nat} (hd : s.disabled base = false) {r : RegRow} (hr : r.isSeq = false) {sa : Nat} (v : Word)
    (level off x : Nat) : (s.writeRow base sa r .plain v level off).rd x
      = if x = sa then ((s.rwdCheck base sa r v level off).rd sa &&& ~~~r.maskOf (· == .rw)) ||| (v &&& r.maskOf (· == .rw))
        else (s.rwdCheck base sa r v level off).rd x := by
  have hrow : s.writeRow base sa r .plain v level off
      = (s.rwdCheck base sa r v level off).store sa (r.maskOf (· == .rw)) v := by
    rw [← taken_enabled ((rwdCheck_disabled s base sa r v level off).trans hd) r]
    simp [State.writeRow, offered, hr]
  rw [hrow, store_rd]

/-- Settles O17: the register takes its RW bits, and CFGERR the record of the check alone. -/
theorem enabledBlockRejectsDisabledOnlyBits : Obligations.EnabledBlockRejectsDisabledOnlyBits := by
  intro s base sa r v level off hd hr hsa
  have hne : base + 8 ≠ sa := Ne.symm hsa
  have hrd := writeRow_enabled_rd hd hr (sa := sa) v level off
  refine ⟨fun i hi hm => ?_, fun i hi hm => ?_, fun h => ?_, fun h => ?_, fun x hx hx' => ?_⟩
  · rw [hrd, if_pos rfl]
    simp only [BitVec.getLsbD_or, BitVec.getLsbD_and, BitVec.getLsbD_not, hm, Bool.not_true, Bool.and_false, Bool.and_true, Bool.false_or]
  · rw [hrd, if_pos rfl, rwdCheck_rd_ne _ _ _ _ _ _ hsa]
    simp only [BitVec.getLsbD_or, BitVec.getLsbD_and, BitVec.getLsbD_not, hm, hi, decide_true, Bool.not_false, Bool.and_true, Bool.and_false,
      Bool.or_false]
  · rw [hrd, if_neg hne, rwdCheck_enabled hd, if_neg h]
  · rw [hrd, if_neg hne, rwdCheck_enabled hd, if_pos h]
  · rw [hrd, if_neg hx, rwdCheck_rd_ne _ _ _ _ _ _ hx']

/-! ### CFGERR (R39, R40, R43) -/

/-- No block has a rule of its own for CFGERR. -/
theorem writeReg_cfgErr {s : State} {g : Grant} {port rid : Nat} {t : Target} {b : Blk} {sa : Nat} (r : RegRow) (v : Word) (ho : t.plain = 8)
    (hsa : sa = t.base + 8) : s.writeReg g port rid t b sa r v = s.writeRow t.base sa r (formOf t.off) v g.level 8 := by
  subst hsa
  cases b <;>
    simp [State.writeReg, State.writeMbx, State.writePrt, State.writeLnq, State.writeTrg, State.writeFlt, State.writeOne, ho]

/-- A plain write of CFGERR clears its flags and no other bit; the block rejects none of it. -/
theorem writeRow_cfgErr_rd {b : Blk} (hb : b ≠ .knb) {r : RegRow} (hr : rowAt b.rows 8 = some r) (s : State) (base sa : Nat) (v : Word)
    (level off x : Nat) : (s.writeRow base sa r .plain v level off).rd x
      = if x = sa then seqClearWord (s.rd sa) v (bitMask 2 0) (bitMask 17 3) else s.rd x := by
  obtain ⟨hflags, hcaps, hoff, hseq, hrwd, htaken⟩ := header_row b hb r hr
  have hcheck : s.rwdCheck base sa r v level off = s := by simp [State.rwdCheck, hrwd]
  have hrow : s.writeRow base sa r .plain v level off = (s.wr sa (seqClearWord (s.rd sa) v (bitMask 2 0) (bitMask 17 3))).store sa 0 v := by
    rw [show bitMask 2 0 = r.flags from hflags.symm, show bitMask 17 3 = r.caps from hcaps.symm]
    simp [State.writeRow, offered, hcheck, htaken, hseq, hoff]
  rw [hrow, store_none, wr_rd]

/-- SEQ_CLEAR of CFGERR is a plain write of its row. -/
theorem seqClear_writeRow {s : State} {a : WAcc} {b : Blk} {r : RegRow} {sa : Nat} (h : Reaches s a b r sa) (ho : (targetOf a.addr).off = 8) :
    exec (.seqClear a) s
      = .next (s.written a fun u => u.writeRow (targetOf a.addr).base sa r .plain a.val (u.grantOf a.port a.rid).level 8) := by
  obtain ⟨hpl, hform⟩ := plain_off ho (by decide)
  obtain ⟨hsa, hrow⟩ := header_place h 8 hpl (by decide)
  obtain ⟨-, -, -, hseq, -⟩ := header_row b h.notKnb r hrow
  rw [seqClear_completes h hseq]
  simp only [writeReg_cfgErr r a.val hpl hsa, hform]

/-- A permitted plain write of CFGERR changes CFGERR by the sequence rule and nothing else. -/
theorem seqClear_cfgErr {s : State} {a : WAcc} {b : Blk} {r : RegRow} {sa : Nat} (h : Reaches s a b r sa) (ho : (targetOf a.addr).off = 8)
    (ht : s.todo = []) : ∃ t, exec (.seqClear a) s = .next t
      ∧ (∀ x, t.rd x = if x = sa then seqClearWord (s.rd sa) a.val (bitMask 2 0) (bitMask 17 3) else s.rd x)
      ∧ t.out = s.out ∧ t.slots = s.slots ∧ t.chans = s.chans := by
  obtain ⟨hw, hrd⟩ := lands_next (s := s) (a := a)
    (f := fun u => u.writeRow (targetOf a.addr).base sa r .plain a.val (u.grantOf a.port a.rid).level 8) ht fun u hu _ =>
    ⟨(row_keep State.todo (by simp) (fun _ _ => rfl) ..).trans hu, row_keep State.part (by simp) (fun _ _ => rfl) ..⟩
  obtain ⟨-, hrow⟩ := header_place h 8 (plain_off ho (by decide)).1 (by decide)
  refine ⟨_, seqClear_writeRow h ho, fun x => ?_, ?_, ?_, ?_⟩
  · rw [hrd, writeRow_cfgErr_rd h.notKnb hrow, arr_rd, arr_rd]
  · rw [hw, State.keeps_out, row_keep State.out (by simp) (fun _ _ => rfl), State.arrived, State.tlps_out]
  · rw [hw, State.keeps_slots, row_keep State.slots (by simp) (fun _ _ => rfl), State.arrived, State.tlps_slots]
  · rw [hw, State.keeps_chans, row_keep State.chans (by simp) (fun _ _ => rfl), State.arrived, State.tlps_chans]

/-- Settles O16: the flags are bits [2:0] of CFGERR and its capture fields bits [17:3]. -/
theorem cfgErrClearsUnderTheSequenceRule : Obligations.CfgErrClearsUnderTheSequenceRule := by
  intro s a b r sa h ho ht
  obtain ⟨t, hx, hrd, hout, hslots, hchans⟩ := seqClear_cfgErr h ho ht
  have hsa : t.rd sa = seqClearWord (s.rd sa) a.val (bitMask 2 0) (bitMask 17 3) := by rw [hrd, if_pos rfl]
  have hmc : bitMask 2 0 &&& bitMask 17 3 = 0 := by decide
  refine ⟨t, hx, fun hstale => hsa.trans (seqClearWord_stale hstale _ _), fun hcur => ⟨?_, fun i hi => ?_, fun hleft => ?_, fun hnone hold => ?_⟩,
    fun x hne => by rw [hrd, if_neg hne], hout, hslots, hchans⟩
  · refine bits_ext fun i h1 h2 h3 => ?_
    rw [hsa, seqClearWord_bit hcur h3 (by rw [bitMask_getLsbD _ _ _ h3]; simp; omega), bitMask_getLsbD _ _ _ h3]
    simp [show ¬ i ≤ 2 by omega]
  · have hi' : i < 32 := by omega
    rw [hsa, seqClearWord_bit hcur hi' (by rw [bitMask_getLsbD _ _ _ hi']; simp; omega), bitMask_getLsbD _ _ _ hi']
    simp [show i ≤ 2 by omega]
  · rw [Ne, bits_eq_zero_iff, hsa] at hleft
    refine bits_ext fun i h1 _ h3 => ?_
    rw [hsa, seqClearWord_capture_kept hcur hmc hleft h3 (by rw [bitMask_getLsbD _ _ _ h3]; simp; omega)]
  · rw [bits_eq_zero_iff, hsa] at hnone
    rw [Ne, bits_eq_zero_iff] at hold
    refine (bits_ext fun i h1 h2 h3 => ?_).trans (by decide : bits 0 17 3 = 0)
    rw [hsa, seqClearWord_capture_cleared hcur hmc hnone hold (by rw [bitMask_getLsbD _ _ _ h3]; simp; omega)]
    simp

/-! ### The enable bit (R42, R44) -/

/-- Whether a block is bound does not depend on what its counters hold. -/
theorem boundOf_arrived (s : State) (a : WAcc) (d slot : Nat) (b : Blk) : (s.arrived a).boundOf d slot b = s.boundOf d slot b :=
  live_keep s a (fun u => u.boundOf d slot b) fun _ _ => by cases b <;> rfl

theorem writeEn_bound {s : State} {t : Target} {b : Blk} {v : Word} (hb : b.hasRwd = true) (hv : v.getLsbD 0 = false)
    (hbound : s.boundOf t.die t.slot b = true) (level : Nat) :
    s.writeEn t b .plain v level = s.cfgErr t.base R.HDR_CFGERR_BOUND_REJ level 4 := by
  simp only [State.writeEn, hb, hv, hbound]; rfl

theorem writeEn_clears {s : State} {t : Target} {b : Blk} {v : Word} (hb : b.hasRwd = true) (hv : v.getLsbD 0 = false)
    (hfree : s.boundOf t.die t.slot b = false) (level : Nat) : s.writeEn t b .plain v level = s.p t.base R.HDR_CTRL_EN 0 := by
  simp only [State.writeEn, hb, hv, hfree]; rfl

theorem writeEn_sets {s : State} {t : Target} {b : Blk} {v : Word} (hb : b.hasRwd = true) (hv : v.getLsbD 0 = true)
    (hen : s.gb t.base R.HDR_CTRL_EN = false) (hcan : b ≠ .can) (level : Nat) :
    s.writeEn t b .plain v level = (s.p t.base R.HDR_CTRL_EN 1).p t.base R.HDR_CTRL_QUIESCED 0 := by
  simp only [State.writeEn, hb, hv, hen, beq_eq_false_iff_ne.mpr hcan]; rfl

/-- A permitted plain write of xxx_CTRL ends as its rule says, where that calls for no fault reaction. -/
theorem blockEnableWrite_plain {s : State} {a : WAcc} {b : Blk} {r : RegRow} {sa : Nat} (h : Reaches s a b r sa)
    (ho : (targetOf a.addr).off = 4) {u : State}
    (hu : (s.arrived a).writeEn (targetOf a.addr) b .plain a.val (s.grantOf a.port a.rid).level = u) (hpart : u.part = (s.arrived a).part)
    (htodo : u.todo = (s.arrived a).todo) (ht : s.todo = []) :
    ∃ t, exec (.blockEnableWrite a) s = .next t ∧ ∀ x, t.rd x = u.rd x := by
  obtain ⟨hpl, hform⟩ := plain_off ho (by decide)
  refine ⟨_, blockEnableWrite_completes h hpl, fun x => ?_⟩
  rw [← State.arrived_grant s a, ← hform] at hu
  subst hu
  exact written_rd (hpart.trans (by simp [State.arrived])) (htodo.trans (by simp [State.arrived, ht])) x

/-- Settles O18: a write of xxx_CTRL is one set event of CFGERR, or stores EN, or EN and QUIESCED. -/
theorem boundBlockRefusesToBeDisabled : Obligations.BoundBlockRefusesToBeDisabled := by
  intro s a b r sa h ho hb ht
  obtain ⟨hpl, -⟩ := plain_off ho (by decide)
  obtain ⟨hsa, -⟩ := header_place h 4 hpl (by decide)
  refine ⟨fun hv hbound => ?_, fun hv hfree => ?_, fun hv hen hcan => ?_⟩
  · obtain ⟨t, hx, hrd⟩ := blockEnableWrite_plain h ho (writeEn_bound hb hv (by rwa [boundOf_arrived]) _) (by simp [State.cfgErr])
      (by simp [State.cfgErr]) ht
    refine ⟨t, hx, ?_, fun x hne => ?_⟩
    · rw [hrd, hsa, Nat.add_assoc]
      exact rd_evt_congr (e := R.HDR_CFGERR_E) (arr_rd ..) _ _
    · rw [hrd, rd_cfgErr_ne _ _ _ _ (by omega), arr_rd]
  · obtain ⟨t, hx, hrd⟩ := blockEnableWrite_plain h ho (writeEn_clears hb hv (by rwa [boundOf_arrived]) _) (by simp) (by simp) ht
    have hword : t.rd sa = putBits (s.rd sa) 0 0 0 := by
      rw [hrd, hsa, ← arr_rd s a]
      exact State.rd_p_same _ _ R.HDR_CTRL_EN 0
    refine ⟨t, hx, ?_, fun i hi => ?_, fun x hne => ?_⟩
    · rw [hword, putBits_getLsbD _ _ _ _ _ (by decide)]; rfl
    · by_cases hi' : i < 32
      · rw [hword, putBits_getLsbD _ _ _ _ _ hi', if_neg (by omega)]
      · rw [BitVec.getLsbD_of_ge _ _ (by omega), BitVec.getLsbD_of_ge _ _ (by omega)]
    · rw [hrd, State.rd_p_ne _ _ _ (by rw [hsa] at hne; exact hne), arr_rd]
  · obtain ⟨t, hx, hrd⟩ := blockEnableWrite_plain h ho
      (writeEn_sets hb hv (by simpa only [State.gb, State.g, arr_rd] using hen) hcan _) (by simp) (by simp) ht
    have hword : t.rd sa = putBits (putBits (s.rd sa) 0 0 1) 1 1 0 := by
      rw [hrd, hsa, ← arr_rd s a]
      exact (State.rd_p_same _ _ R.HDR_CTRL_QUIESCED 0).trans (congrArg (putBits · 1 1 0) (State.rd_p_same _ _ R.HDR_CTRL_EN 1))
    refine ⟨t, hx, ?_, ?_, fun x hne => ?_⟩
    · rw [hword, putBits_getLsbD _ _ _ _ _ (by decide), putBits_getLsbD _ _ _ _ _ (by decide)]; rfl
    · rw [hword, putBits_getLsbD _ _ _ _ _ (by decide)]; rfl
    · rw [hsa] at hne
      rw [hrd, State.rd_p_ne _ _ _ (by exact hne), State.rd_p_ne _ _ _ (by exact hne), arr_rd]

/-! ### Snapshots (R45) -/

/-- What no update of a list keeps from changing, their succession keeps too. -/
theorem each_keep {α β γ : Type} (f : α → γ) (g : β → α → α) (hf : ∀ e a, f (g e a) = f a) (l : List β) (a : α) : f (each l g a) = f a := by
  induction l generalizing a with
  | nil => rfl
  | cons e l ih => exact (ih (g e a)).trans (hf e a)

/-- The word that the holding register of a counter takes: the count in the bits that the register has. -/
def heldWord (s : State) (x : Nat) : Word :=
  BitVec.ofNat 32 (s.cnt x) &&& ((rowAt (home s.part x).rows (home s.part x).off).map RegRow.all).getD 0xFFFFFFFF

/-- One counter is copied, the upper half of a wide one to the register behind. -/
def holdCount (b : Blk) (e : Nat × Nat) (s : State) : State :=
  if wideCounter b e.1 then (s.wr e.1 (heldWord s e.1)).wr (e.1 + 4) (BitVec.ofNat 32 (s.cnt e.1 / 2 ^ 32)) else s.wr e.1 (heldWord s e.1)

theorem holdCounts_eq (s : State) (d slot : Nat) (b : Blk) (base : Nat) :
    s.holdCounts d slot b base = each (s.live.filter fun e => counterOf d slot b base e.1) (holdCount b) s := rfl

/-- Copying a counter keeps whatever a write of a register keeps. -/
theorem holdCount_keeps {β : Type} (f : State → β) (hw : ∀ s a v, f (State.wr s a v) = f s) (b : Blk) (e : Nat × Nat) (s : State) :
    f (holdCount b e s) = f s := by
  unfold holdCount
  split <;> simp only [hw]

theorem holdCount_rd_ne {b : Blk} {e : Nat × Nat} {s : State} {x : Nat} (hx : e.1 ≠ x) (hw : wideCounter b e.1 = true → e.1 + 4 ≠ x) :
    (holdCount b e s).rd x = s.rd x := by
  unfold holdCount
  split
  · next h => rw [State.rd_wr_ne _ _ (hw h).symm, State.rd_wr_ne _ _ hx.symm]
  · exact State.rd_wr_ne _ _ hx.symm

theorem holdCount_rd_same (b : Blk) (e : Nat × Nat) (s : State) : (holdCount b e s).rd e.1 = heldWord s e.1 := by
  unfold holdCount
  split
  · rw [State.rd_wr_ne _ _ (by omega), State.rd_wr_same]
  · exact State.rd_wr_same ..

theorem holdCount_rd_upper {b : Blk} {e : Nat × Nat} (s : State) (h : wideCounter b e.1 = true) :
    (holdCount b e s).rd (e.1 + 4) = BitVec.ofNat 32 (s.cnt e.1 / 2 ^ 32) := by
  rw [holdCount, if_pos h, State.rd_wr_same]

theorem holdCount_cnt (b : Blk) (e : Nat × Nat) (s : State) (x : Nat) : (holdCount b e s).cnt x = s.cnt x :=
  holdCount_keeps (fun s => s.cnt x) (fun _ _ _ => rfl) b e s

theorem holdCount_heldWord (b : Blk) (e : Nat × Nat) (s : State) (x : Nat) : heldWord (holdCount b e s) x = heldWord s x :=
  holdCount_keeps (fun s => heldWord s x) (fun _ _ _ => rfl) b e s

section
variable {b : Blk} {l : List (Nat × Nat)} {x : Nat}

/-- A register that no counter of the list is copied to. -/
theorem hold_rd_ne (s : State) (hx : ∀ e ∈ l, e.1 ≠ x) (hw : ∀ e ∈ l, wideCounter b e.1 = true → e.1 + 4 ≠ x) :
    (each l (holdCount b) s).rd x = s.rd x := by
  induction l generalizing s with
  | nil => rfl
  | cons e l ih =>
    exact (ih (holdCount b e s) (fun y hy => hx y (.tail _ hy)) (fun y hy => hw y (.tail _ hy))).trans
      (holdCount_rd_ne (hx e (.head _)) (hw e (.head _)))

/-- The holding register of a counter of the list, where no wide counter lies before it. -/
theorem hold_rd_same (s : State) (hx : ∃ e ∈ l, e.1 = x) (hw : ∀ e ∈ l, wideCounter b e.1 = true → e.1 + 4 ≠ x) :
    (each l (holdCount b) s).rd x = heldWord s x := by
  induction l generalizing s with
  | nil => simp at hx
  | cons e l ih =>
    have hw' : ∀ y ∈ l, wideCounter b y.1 = true → y.1 + 4 ≠ x := fun y hy => hw y (.tail _ hy)
    by_cases hl : ∃ y ∈ l, y.1 = x
    · exact (ih (holdCount b e s) hl hw').trans (holdCount_heldWord ..)
    · obtain ⟨y, hy, rfl⟩ := hx
      obtain rfl | hy := List.mem_cons.mp hy
      · exact (hold_rd_ne (holdCount b y s) (fun z hz h => hl ⟨z, hz, h⟩) hw').trans (holdCount_rd_same ..)
      · exact absurd ⟨y, hy, rfl⟩ hl

/-- The upper half of a wide counter of the list, where no counter lies behind it. -/
theorem hold_rd_upper (s : State) (hx : ∃ e ∈ l, e.1 = x) (hw : wideCounter b x = true) (hne : ∀ e ∈ l, e.1 ≠ x + 4) :
    (each l (holdCount b) s).rd (x + 4) = BitVec.ofNat 32 (s.cnt x / 2 ^ 32) := by
  induction l generalizing s with
  | nil => simp at hx
  | cons e l ih =>
    have hne' : ∀ y ∈ l, y.1 ≠ x + 4 := fun y hy => hne y (.tail _ hy)
    by_cases hl : ∃ y ∈ l, y.1 = x
    · refine (ih (holdCount b e s) hl hne').trans ?_
      rw [holdCount_cnt]
    · obtain ⟨y, hy, rfl⟩ := hx
      obtain rfl | hy := List.mem_cons.mp hy
      · exact (hold_rd_ne (holdCount b y s) hne' fun z hz _ h => hl ⟨z, hz, by omega⟩).trans (holdCount_rd_upper s hw)
      · exact absurd ⟨y, hy, rfl⟩ hl

end

/-- The blocks whose counters are all in their own space, and that count nothing as they take a snapshot. -/
def ownCounters : List Blk := [.csm, .pci, .eth, .col, .xdf, .sta, .str]

theorem base_aligned (t : Target) : t.base % 0x10000 = 0 := by
  unfold Target.base blkAddr
  split <;> omega

theorem counterOf_own {b : Blk} (hb : b ∈ ownCounters) (d slot base x : Nat) :
    counterOf d slot b base x = true ↔ base ≤ x ∧ x < base + 0x4000 := by
  simp only [ownCounters, List.mem_cons, List.not_mem_nil, or_false] at hb
  rcases hb with rfl | rfl | rfl | rfl | rfl | rfl | rfl <;> simp [counterOf]

/-- Of their counters the byte count of a Strand block alone is wide. -/
theorem wideCounter_own {b : Blk} (hb : b ∈ ownCounters) (x : Nat) : wideCounter b x = true ↔ b = .str ∧ x % 0x10000 = 0xC4 := by
  simp only [ownCounters, List.mem_cons, List.not_mem_nil, or_false] at hb
  rcases hb with rfl | rfl | rfl | rfl | rfl | rfl | rfl <;> simp [wideCounter, R.STR_CNT_COUNT]

theorem snapshot_own {b : Blk} (hb : b ∈ ownCounters) (s : State) (d slot base : Nat) :
    s.snapshot d slot b base = (s.holdCounts d slot b base).p base R.HDR_SNAPNO_SNAPNO (s.g base R.HDR_SNAPNO_SNAPNO + 1) := by
  simp only [ownCounters, List.mem_cons, List.not_mem_nil, or_false] at hb
  rcases hb with rfl | rfl | rfl | rfl | rfl | rfl | rfl <;> rfl

/-- A snapshot copies counts; it keeps whatever no write of a register changes. -/
theorem snapshot_own_keeps {β : Type} (f : State → β) (hw : ∀ s a v, f (State.wr s a v) = f s) (hp : ∀ s b x v, f (State.p s b x v) = f s)
    {b : Blk} (hb : b ∈ ownCounters) (s : State) (d slot base : Nat) : f (s.snapshot d slot b base) = f s := by
  rw [snapshot_own hb, hp, holdCounts_eq, each_keep f (holdCount b) (holdCount_keeps f hw b)]

/-- A permitted write of 1 to SNAP of such a block. -/
theorem counterSnapshot_own {s : State} {a : WAcc} {b : Blk} {r : RegRow} {sa : Nat} (h : Reaches s a b r sa)
    (ho : (targetOf a.addr).off = 0xC) (hv : a.val.getLsbD 0 = true) (ht : s.todo = []) (hb : b ∈ ownCounters) :
    ∃ t, exec (.counterSnapshot a) s = .next t ∧ t.live = (s.arrived a).live
      ∧ ∀ x, t.rd x = ((s.arrived a).snapshot (targetOf a.addr).die (targetOf a.addr).slot b (targetOf a.addr).base).rd x := by
  obtain ⟨hw, hrd⟩ := lands_next (s := s) (a := a) (f := fun u => u.snapshot (targetOf a.addr).die (targetOf a.addr).slot b (targetOf a.addr).base)
    ht fun u hu _ => ⟨(snapshot_own_keeps State.todo (by simp) (by simp) hb ..).trans hu, snapshot_own_keeps State.part (by simp) (by simp) hb ..⟩
  refine ⟨_, counterSnapshot_completes h ho hv, ?_, hrd⟩
  rw [hw, State.keeps_live, snapshot_own_keeps State.live (by simp) (by simp) hb]

theorem snapshot_own_rd_ne {b : Blk} (hb : b ∈ ownCounters) (s : State) (d slot : Nat) {base x : Nat} (hx : x ≠ base + 0x10) :
    (s.snapshot d slot b base).rd x = (each (s.live.filter fun e => counterOf d slot b base e.1) (holdCount b) s).rd x := by
  rw [snapshot_own hb, State.rd_p_ne _ _ _ hx, holdCounts_eq]

/-- Settles O19: SNAPNO is written last, and the only register behind a wide counter is the upper half of the Strand byte count. -/
theorem snapshotCopiesTheCounters : Obligations.SnapshotCopiesTheCounters := by
  intro s a b r sa h ho hv ht hb
  obtain ⟨t, hx, hlive, hrd⟩ := counterSnapshot_own h ho hv ht hb
  have hal := base_aligned (targetOf a.addr)
  generalize (targetOf a.addr).base = base at *
  have hupper : base + R.STR_CNT_COUNT.off + 4 * 0x12 = base + 0xC4 + 4 := rfl
  have hbytes : base + R.STR_CNT_COUNT.off + 4 * 0x11 = base + 0xC4 := rfl
  rw [hupper, hbytes]
  have hmem : ∀ {e}, e ∈ (s.arrived a).live.filter (fun e => counterOf (targetOf a.addr).die (targetOf a.addr).slot b base e.1)
      ↔ e ∈ (s.arrived a).live ∧ base ≤ e.1 ∧ e.1 < base + 0x4000 := by
    intro e
    rw [List.mem_filter, counterOf_own hb]
  have hwide : ∀ {x}, (b = .str → x ≠ base + 0xC4 + 4) →
      ∀ e ∈ (s.arrived a).live.filter (fun e => counterOf (targetOf a.addr).die (targetOf a.addr).slot b base e.1),
        wideCounter b e.1 = true → e.1 + 4 ≠ x := by
    intro x hne e he hw
    obtain ⟨-, h1, h2⟩ := hmem.mp he
    obtain ⟨rfl, hmod⟩ := (wideCounter_own hb _).mp hw
    have := hne rfl
    omega
  refine ⟨t, hx, ?_, hlive, fun e he h1 h2 hne => ?_, fun hstr hno hyes => ?_, fun x hsnap hne hno => ?_⟩
  · have := State.g_p_same ((s.arrived a).holdCounts (targetOf a.addr).die (targetOf a.addr).slot b base) base R.HDR_SNAPNO_SNAPNO
      ((s.arrived a).g base R.HDR_SNAPNO_SNAPNO + 1) (by decide)
    unfold State.g at this ⊢
    rw [hrd, snapshot_own hb, ← arr_rd s a]
    exact this
  · rw [hrd, snapshot_own_rd_ne hb _ _ _ (by omega), hold_rd_same _ ⟨e, hmem.mpr ⟨he, by omega, h2⟩, rfl⟩ (hwide hne), heldWord]
    simp only [State.arrived, State.tlps_part]
  · obtain ⟨e, he, heq⟩ := hyes
    rw [hrd, snapshot_own_rd_ne hb _ _ _ (by omega)]
    exact hold_rd_upper _ ⟨e, hmem.mpr ⟨he, by omega, by omega⟩, heq⟩ ((wideCounter_own hb _).mpr ⟨hstr, by omega⟩)
      fun y hy => hno y (hmem.mp hy).1
  · rw [hrd, snapshot_own_rd_ne hb _ _ _ hsnap, hold_rd_ne _ (fun y hy => hno y (hmem.mp hy).1) (hwide hne), arr_rd]

/-! ### Indirect accesses that find nothing (R48, R49) -/

/-- A base with an indirect space is a block window of a die that works. -/
theorem base_of_indBlk {s : State} {base d t : Nat} {b : Blk} (h : s.indBlk base = some (d, t, b)) :
    base < 0x20000000 ∧ s.dieUp (base / 0x4000000) = true ∧ blkAddr d t = base := by
  unfold State.indBlk at h
  dsimp only at h
  split at h
  · split at h
    · next hc =>
      simp only [Bool.and_eq_true, decide_eq_true_eq] at hc
      obtain ⟨⟨⟨hoff, hdie⟩, -⟩, hup⟩ := hc
      have hlow : base < 0x20000000 := by
        by_contra hge
        simp [targetOf, hge] at hdie
      simp only [targetOf, hlow, if_true] at h hoff hup
      injection h with h
      injection h with hd h
      injection h with ht _
      refine ⟨hlow, hup, ?_⟩
      rw [← hd, ← ht, blkAddr]
      omega
    · cases h
  · cases h

/-- An event of a block whose effect calls for no fault reaction. -/
theorem onBlock_quiet {s : State} {base d t : Nat} {b : Blk} (hb : s.indBlk base = some (d, t, b)) {f : State → State} (hf : (f s).todo = []) :
    s.onBlock base f = .next ((f s).keeps s) := by
  obtain ⟨hlow, hup, -⟩ := base_of_indBlk hb
  rw [onBlock_up f hlow hup, State.reacted, State.settle_nil _ hf]

/-- The completion of an indirect access: of a read, with a word that may depend on the bytes it asked for. -/
def indAnswer (base : Nat) (v : Word → Word) : IndOp → List Out
  | .write _ _ _ _ => []
  | .read _ m _ => [.readDone (base + 0x1C) (v m)]

/-- The oldest access of a queue leaves it without an effect: a flag of IND_STAT records it. -/
def indDropped (base : Nat) (f : Fld) (l : List Out) (s : State) : State :=
  { (s.indPop base).evt base R.HDR_IND_STAT_E [f] with out := s.out ++ l }

theorem indPop_indQ (s : State) (base : Nat) : (s.indPop base).indQ base = (s.indQ base).tail := tput_get_same ..

/-- What the part shows after that. -/
theorem indDropped_spec {s : State} {base : Nat} {x : IndOp} {rest : List IndOp} (hq : s.indQ base = x :: rest) (f : Fld) (l : List Out) :
    ((indDropped base f l s).keeps s).indQ base = rest
      ∧ ((indDropped base f l s).keeps s).rd (base + 0x20) = (s.evt base R.HDR_IND_STAT_E [f]).rd (base + 0x20)
      ∧ (∀ y, y ≠ base + 0x20 → ((indDropped base f l s).keeps s).rd y = s.rd y)
      ∧ ((indDropped base f l s).keeps s).out = s.out ++ l := by
  have hrd : ∀ y, ((indDropped base f l s).keeps s).rd y = ((s.indPop base).evt base R.HDR_IND_STAT_E [f]).rd y := State.rd_congr rfl rfl
  refine ⟨?_, ?_, fun y hy => ?_, rfl⟩
  · calc ((indDropped base f l s).keeps s).indQ base = (s.indPop base).indQ base := rfl
      _ = rest := by rw [indPop_indQ, hq, List.tail_cons]
  · rw [hrd]
    exact rd_evt_congr (e := R.HDR_IND_STAT_E) rfl _ _
  · rw [hrd, State.rd_evt_ne _ _ _ _ hy]
    rfl

/-- A dropped write puts out nothing. -/
theorem indDropped_nil (base : Nat) (f : Fld) (s : State) : indDropped base f [] s = (s.indPop base).evt base R.HDR_IND_STAT_E [f] := by
  rw [indDropped, List.append_nil]; rfl

/-- An indirect access that finds no register sets UNMAPPED, and a read answers 0. -/
theorem indArrive_unmapped {s : State} {d t : Nat} {b : Blk} {x : IndOp} (hr : s.indRow d b x.addr = none) : s.indArrive d t b x
    = match x with
      | .write _ _ _ _ => s.evt (blkAddr d t) R.HDR_IND_STAT_E [R.HDR_IND_STAT_UNMAPPED]
      | .read _ _ _ => (s.evt (blkAddr d t) R.HDR_IND_STAT_E [R.HDR_IND_STAT_UNMAPPED]).emit (.readDone (blkAddr d t + 0x1C) 0) := by
  cases x with
  | write ia v lev port =>
    change s.indRow d b ia = none at hr
    simp only [State.indArrive, State.indWrite, hr]
  | read ia m port =>
    change s.indRow d b ia = none at hr
    simp only [State.indArrive, State.indRead, hr]

/-- An access whose clock runs and that finds no register. -/
theorem indApplyF_unmapped {s : State} {base d t : Nat} {b : Blk} {x : IndOp} {rest : List IndOp} (hb : s.indBlk base = some (d, t, b))
    (hq : s.indQ base = x :: rest) (hc : s.indClock d t b x.addr = true) (hr : s.indRow d b x.addr = none) :
    indApplyF base s = indDropped base R.HDR_IND_STAT_UNMAPPED (indAnswer base (fun _ => 0) x) s := by
  obtain ⟨-, -, hbase⟩ := base_of_indBlk hb
  have harrive : indApplyF base s = (s.indPop base).indArrive d t b x := by simp only [indApplyF, hb, hq, hc, if_true]
  rw [harrive, indArrive_unmapped (s := s.indPop base) hr, hbase]
  cases x with
  | write ia v lev port => exact (indDropped_nil ..).symm
  | read ia m port => rfl

/-- An access whose clock does not run. -/
theorem indTimeoutF_stopped {s : State} {base d t : Nat} {b : Blk} {x : IndOp} {rest : List IndOp} (hb : s.indBlk base = some (d, t, b))
    (hq : s.indQ base = x :: rest) (hc : s.indClock d t b x.addr = false) :
    indTimeoutF base s = indDropped base R.HDR_IND_STAT_TIMEOUT (indAnswer base (0xFFFFFFFF &&& ·) x) s := by
  unfold indTimeoutF
  simp only [hb, hq, hc]
  cases x with
  | write ia v lev port => exact (indDropped_nil ..).symm
  | read ia m port => rfl

/-- Settles O20: in both cases the access is dropped under its own flag. -/
theorem indirectAccessWithoutRegisterOrClock : Obligations.IndirectAccessWithoutRegisterOrClock := by
  intro s base d t b x rest htodo hb hq
  have hquiet : ∀ f l, (indDropped base f l s).todo = [] := fun _ _ => htodo
  constructor
  · intro hc hr
    have hf := indApplyF_unmapped hb hq hc hr
    obtain ⟨hqueue, hstat, hframe, hout⟩ := indDropped_spec hq R.HDR_IND_STAT_UNMAPPED (indAnswer base (fun _ => 0) x)
    refine ⟨_, (onBlock_quiet hb (by rw [hf, hquiet])).trans (by rw [hf]), hqueue, hstat, hframe, hout.trans ?_⟩
    cases x <;> rfl
  · intro hc
    have hf := indTimeoutF_stopped hb hq hc
    obtain ⟨hqueue, hstat, hframe, hout⟩ := indDropped_spec hq R.HDR_IND_STAT_TIMEOUT (indAnswer base (0xFFFFFFFF &&& ·) x)
    refine ⟨_, (onBlock_quiet hb (by rw [hf, hquiet])).trans (by rw [hf]), hqueue, hstat, hframe, hout.trans ?_⟩
    cases x <;> rfl

/-! ### Triplicated bits (R51, R333) -/

/-- Whether one copy of a bit has been inverted and not yet restored. -/
theorem tmr_any_iff (s : State) (sa bit : Nat) :
    (s.tmr.any fun e => e.1 == sa && e.2.1 == bit) = true ↔ ∃ e ∈ s.tmr, e.1 = sa ∧ e.2.1 = bit := by
  simp [List.any_eq_true]

theorem tmrInject_first {s : State} {d sa bit copy : Nat} {r : RegRow} (hr : r.tmrBit bit = true) (hc : copy ≠ 0)
    (h : (s.tmr.any fun e => e.1 == sa && e.2.1 == bit) = false) :
    s.tmrInject d (some r) sa bit copy = ({ s with tmr := s.tmr ++ [(sa, bit, copy)] } : State).bump (fltB d + 0x94) := by
  simp only [State.tmrInject, hr, h, bne_iff_ne.mpr hc]; rfl

theorem tmrInject_again {s : State} {d sa bit copy : Nat} {r : RegRow} (h : (s.tmr.any fun e => e.1 == sa && e.2.1 == bit) = true) :
    s.tmrInject d (some r) sa bit copy = s.evt (fltB d) R.FLT_EVT_E [R.FLT_EVT_INJ_REFUSED] := by
  simp only [State.tmrInject, h, Bool.not_true, Bool.and_false]; rfl

/-- A write leaves no disturbed copy of the bits it writes. -/
theorem store_tmr (s : State) (sa : Nat) (m w : Word) :
    (s.store sa m w).tmr = s.tmr.filter fun e => !(e.1 == sa && m.getLsbD e.2.1) := rfl

/-- Settles O21: an injection touches no register, and a store drops what it knows of the bits it writes. -/
theorem tmrInjectionIsOutvoted : Obligations.TmrInjectionIsOutvoted := by
  intro s d sa bit copy r hr hc
  refine ⟨fun hfirst => ?_, fun hagain => tmrInject_again ((tmr_any_iff s sa bit).mpr hagain), fun m w hm e he => ?_⟩
  · have hnone : (s.tmr.any fun e => e.1 == sa && e.2.1 == bit) = false :=
      Bool.eq_false_iff.mpr fun h => by
        obtain ⟨e, he, heq⟩ := (tmr_any_iff s sa bit).mp h
        exact hfirst e he heq
    rw [tmrInject_first hr hc hnone]
    exact ⟨rfl, State.rd_congr rfl rfl⟩
  · rintro ⟨rfl, rfl⟩
    rw [store_tmr, List.mem_filter] at he
    simp [hm] at he

end Sys2Proof.Proofs

/-!
The statements about the mailboxes: doorbells and releases, command words, how a command ends that is accepted, refused or answered from the
journal, and what a fault reaction leaves of the commands in flight.
-/
namespace Sys2Proof.Proofs
open Sys2Proof Sys2Proof.Machine Sys2Proof.Laws

/-! ### Where the areas of a slot lie (R64, R65) -/

/-- The addresses of a slot's response area. -/
def InRsp (w k x : Nat) : Prop := rspBase w k ≤ x ∧ x < rspBase w k + 256

theorem not_inRsp {w k x : Nat} : ¬ InRsp w k x ↔ x < rspBase w k ∨ rspBase w k + 256 ≤ x := by
  unfold InRsp; omega

/-- A command area lies in no response area. -/
theorem cmd_not_inRsp {w k w' k' x : Nat} (h : cmdBase w k ≤ x) (h' : x < cmdBase w k + 256) : ¬ InRsp w' k' x := by
  unfold InRsp; simp only [cmdBase, rspBase, mbxBase] at *; omega

/-- The areas of a slot hold none of the registers of a window. -/
theorem area_ne_register {w k w' x o : Nat} (hk : k < 16) (ho : o < 0x2000) (h : cmdBase w k ≤ x) (h' : x < cmdBase w k + 512) :
    x ≠ mbxBase w' + o := by
  simp only [cmdBase, mbxBase] at *; omega

/-- The registers before the areas lie in no response area. -/
theorem register_not_inRsp {w w' k o : Nat} (hk : k < 16) (ho : o < 0x2000) : ¬ InRsp w' k (mbxBase w + o) := by
  simp only [InRsp, rspBase, mbxBase]; omega

/-- The response areas of two slots have no address in common. -/
theorem rsp_not_inRsp {w k w' k' : Nat} (hk : k < 16) (hk' : k' < 16) (h : slotKey w' k' ≠ slotKey w k) : ¬ InRsp w' k' (rspBase w k) := by
  simp only [InRsp, rspBase, mbxBase, slotKey] at *; omega

/-- The parameters of a command depend on its command area alone. -/
theorem cp_congr {s t : State} {w k : Nat} (h : ∀ x, cmdBase w k ≤ x → x < cmdBase w k + 256 → t.rd x = s.rd x) (o n : Nat)
    (hn : o + n ≤ 256) : t.cp w k o n = s.cp w k o n := by
  induction n generalizing o with
  | zero => rfl
  | succ n ih =>
    have hbyte : t.cmdByte w k o = s.cmdByte w k o := by
      unfold State.cmdByte
      rw [h _ (by omega) (by omega)]
    rw [State.cp, State.cp, hbyte, ih (o + 1) (by omega)]

/-! ### A succession of steps over mailbox slots -/

/-- Each step changes one slot, that of its key, and registers at its own addresses alone. -/
structure SlotSteps {β : Type} (key : β → Nat) (own : β → Nat → Prop) (g : β → State → State) : Prop where
  slots : ∀ e s w k, slotKey w k ≠ key e → (g e s).slot w k = s.slot w k
  regs : ∀ e s x, ¬ own e x → (g e s).rd x = s.rd x

theorem each_append {α β : Type} (l₁ l₂ : List β) (g : β → α → α) (a : α) : each (l₁ ++ l₂) g a = each l₂ g (each l₁ g a) :=
  List.foldl_append

section
variable {β : Type} {key : β → Nat} {own : β → Nat → Prop} {g : β → State → State} {l : List β}

theorem SlotSteps.slot_ne (h : SlotSteps key own g) {w k : Nat} (hl : ∀ e ∈ l, slotKey w k ≠ key e) (s : State) :
    (each l g s).slot w k = s.slot w k := by
  induction l generalizing s with
  | nil => rfl
  | cons e l ih => exact (ih (fun y hy => hl y (.tail _ hy)) (g e s)).trans (h.slots e s w k (hl e (.head _)))

theorem SlotSteps.rd_ne (h : SlotSteps key own g) {x : Nat} (hl : ∀ e ∈ l, ¬ own e x) (s : State) : (each l g s).rd x = s.rd x := by
  induction l generalizing s with
  | nil => rfl
  | cons e l ih => exact (ih (fun y hy => hl y (.tail _ hy)) (g e s)).trans (h.regs e s x (hl e (.head _)))

/-- A slot whose step is in the list takes that step from its old state, after the steps of other slots, and no later step touches it. -/
theorem SlotSteps.at_mem (h : SlotSteps key own g) (hn : (l.map key).Nodup) {e : β} (he : e ∈ l) (s : State) :
    ∃ m, (∀ w k, slotKey w k = key e → (each m g s).slot w k = s.slot w k ∧ (each l g s).slot w k = (g e (each m g s)).slot w k)
      ∧ ∀ x, (∀ y ∈ l, key y ≠ key e → ¬ own y x) → (each m g s).rd x = s.rd x ∧ (each l g s).rd x = (g e (each m g s)).rd x := by
  obtain ⟨m, m', rfl⟩ := List.append_of_mem he
  have hkey : ∀ y, y ∈ m ∨ y ∈ m' → key y ≠ key e := by
    intro y hy heq
    simp only [List.map_append, List.map_cons, List.nodup_append, List.nodup_cons, List.mem_map, List.mem_cons] at hn
    obtain ⟨-, ⟨hm', -⟩, hm⟩ := hn
    rcases hy with hy | hy
    · exact hm _ ⟨y, hy, rfl⟩ _ (.inl rfl) heq
    · exact hm' ⟨y, hy, heq⟩
  have hstep : each (m ++ e :: m') g s = each m' g (g e (each m g s)) := each_append ..
  refine ⟨m, fun w k hk => ⟨h.slot_ne (fun y hy => ?_) s, ?_⟩, fun x hx => ⟨h.rd_ne (fun y hy => ?_) s, ?_⟩⟩
  · rw [hk]; exact (hkey y (.inl hy)).symm
  · rw [hstep, h.slot_ne fun y hy => by rw [hk]; exact (hkey y (.inr hy)).symm]
  · exact hx y (by simp [hy]) (hkey y (.inl hy))
  · rw [hstep, h.rd_ne fun y hy => hx y (by simp [hy]) (hkey y (.inr hy))]

end

/-! ### Doorbells and releases (R68 to R70) -/

/-- The slots that a doorbell or release word names and that are in the state it asks for, ascending. -/
def askedSlots (s : State) (w : Nat) (v : Word) (st : SlotSt) : List Nat :=
  (List.range 16).filter fun k => v.getLsbD k && (s.slot w k).st == st

/-- A word of slot bits that asks for slots of one state: each slot it finds in that state takes a step, and the others are recorded. -/
def actOnSlots (w : Nat) (v : Word) (st : SlotSt) (f : Fld) (g : Nat → State → State) (s : State) : State :=
  each (askedSlots s w v st) g (s.mbxRefuse w f (s.refusedSlots w v st))

/-- The step of a doorbell: the slot is posted and its response area cleared. -/
def postSlot (w level base count port k : Nat) (s : State) : State :=
  ({ s.setSlot w k { st := .posted, tag := s.cp w k 2 2, level := level, base := base, count := count, port := port, order := s.ringNo } with
    ringNo := s.ringNo + 1 } : State).clearRsp w k

/-- The step of a release: the slot is free and its response area cleared. -/
def freeSlot (w k : Nat) (s : State) : State := (s.setSlot w k { s.slot w k with st := .free }).clearRsp w k

theorem doorbellSlots_eq (w level base count port : Nat) (v : Word) (s : State) :
    doorbellSlots w level base count port v s = actOnSlots w v .free R.MBX_ERR_RING_BUSY (postSlot w level base count port) s := rfl

theorem releaseSlots_eq (w : Nat) (v : Word) (s : State) : releaseSlots w v s = actOnSlots w v .done R.MBX_ERR_REL_EARLY (freeSlot w) s := rfl

theorem clearRsp_slot (s : State) (w k w' k' : Nat) : (s.clearRsp w k).slot w' k' = s.slot w' k' :=
  clearRsp_keeps (fun s => s.slot w' k') (fun _ _ _ => rfl) s w k

theorem postSlot_slot (w level base count port k : Nat) (s : State) : (postSlot w level base count port k s).slot w k
    = { st := .posted, tag := s.cp w k 2 2, level := level, base := base, count := count, port := port, order := s.ringNo } :=
  (clearRsp_slot ..).trans (State.slot_setSlot_same s w k _)

theorem freeSlot_slot (w k : Nat) (s : State) : (freeSlot w k s).slot w k = { s.slot w k with st := .free } :=
  (clearRsp_slot ..).trans (State.slot_setSlot_same s w k _)

theorem postSlot_steps (w level base count port : Nat) : SlotSteps (slotKey w) (InRsp w) (postSlot w level base count port) where
  slots _ s _ _ h := (clearRsp_slot ..).trans (State.slot_setSlot_ne s _ h)
  regs _ _ _ h := clearRsp_frame _ _ _ _ (not_inRsp.mp h)

theorem freeSlot_steps (w : Nat) : SlotSteps (slotKey w) (InRsp w) (freeSlot w) where
  slots _ s _ _ h := (clearRsp_slot ..).trans (State.slot_setSlot_ne s _ h)
  regs _ _ _ h := clearRsp_frame _ _ _ _ (not_inRsp.mp h)

/-- A doorbell's step keeps what neither a register, a slot nor the order of doorbells changes. -/
theorem postSlot_keeps {β : Type} (f : State → β) (hw : ∀ s a v, f (State.wr s a v) = f s) (hs : ∀ s w k x, f (State.setSlot s w k x) = f s)
    (hn : ∀ (s : State) n, f { s with ringNo := n } = f s) (w level base count port k : Nat) (s : State) :
    f (postSlot w level base count port k s) = f s := by
  rw [postSlot, clearRsp_keeps f hw, hn, hs]

theorem freeSlot_keeps {β : Type} (f : State → β) (hw : ∀ s a v, f (State.wr s a v) = f s) (hs : ∀ s w k x, f (State.setSlot s w k x) = f s)
    (w k : Nat) (s : State) : f (freeSlot w k s) = f s := by
  rw [freeSlot, clearRsp_keeps f hw, hs]

/-- A set event sets its flag, whatever the register held. -/
theorem evt_getLsbD_flag (s : State) (b : Nat) (e : EvtReg) (f c : Fld) (x : Nat) (hf : f.lo < 24) :
    ((s.evt b e [f] [(c, x)]).rd (b + e.off)).getLsbD f.lo = true := by
  by_cases hb : (s.rd (b + e.off)).toNat &&& e.mask = 0
  · simp [evt_getLsbD_clear f c x hb hf]
  · simp [evt_getLsbD_busy f [(c, x)] hb hf]

theorem evtN_getLsbD_flag (s : State) (b : Nat) (e : EvtReg) (f c : Fld) (x : Nat) {n : Nat} (hn : n ≠ 0) (hf : f.lo < 24) :
    ((s.evtN b e [f] [(c, x)] n).rd (b + e.off)).getLsbD f.lo = true := by
  have hflag := evt_getLsbD_flag s b e f c x hf
  unfold State.evtN
  rw [if_neg hn]
  dsimp only
  split
  · exact hflag
  · rw [State.rd_wr_same, BitVec.getLsbD_or, hflag, Bool.true_or]

theorem mem_askedSlots {s : State} {w k : Nat} {v : Word} {st : SlotSt} :
    k ∈ askedSlots s w v st ↔ k < 16 ∧ v.getLsbD k = true ∧ (s.slot w k).st = st := by
  simp [askedSlots]

theorem mem_refusedSlots {s : State} {w k : Nat} {v : Word} {st : SlotSt} :
    k ∈ s.refusedSlots w v st ↔ k < 16 ∧ v.getLsbD k = true ∧ (s.slot w k).st ≠ st := by
  simp [State.refusedSlots]

section
variable {w k x : Nat} {v : Word} {st : SlotSt} {f : Fld} {g : Nat → State → State}

theorem actOnSlots_keeps {γ : Type} (q : State → γ) (hw : ∀ s a v, q (State.wr s a v) = q s) (hg : ∀ k s, q (g k s) = q s) (s : State) :
    q (actOnSlots w v st f g s) = q s := by
  rw [actOnSlots, each_keep q g hg, State.mbxRefuse, State.evtN_keeps q hw]

/-- MBX_ERR and the response areas of the window aside, registers keep their values. -/
theorem actOnSlots_frame (h : SlotSteps (slotKey w) (InRsp w) g) (s : State) (hx : x ≠ mbxBase w + R.MBX_ERR_E.off)
    (hr : ∀ k < 16, ¬ InRsp w k x) : (actOnSlots w v st f g s).rd x = s.rd x := by
  rw [actOnSlots, h.rd_ne fun k hk => hr k (mem_askedSlots.mp hk).1]
  exact State.rd_evtN_ne _ _ _ _ _ hx

theorem mbxRefuse_slot (s : State) (l : List Nat) (w' k' : Nat) : (s.mbxRefuse w f l).slot w' k' = s.slot w' k' :=
  State.evtN_keeps (fun s => s.slot w' k') (fun _ _ _ => rfl) ..

/-- A slot that the word does not ask for, of its window or of another, stays as it is. -/
theorem actOnSlots_slot_kept (h : SlotSteps (slotKey w) (InRsp w) g) {s : State} {w' : Nat} (hk : k < 16)
    (hkept : w' = w → k ∉ askedSlots s w v st) : (actOnSlots w v st f g s).slot w' k = s.slot w' k := by
  refine (h.slot_ne (fun j hj heq => ?_) _).trans (mbxRefuse_slot ..)
  obtain ⟨hw, rfl⟩ := slotKey_inj (mem_askedSlots.mp hj).1 hk heq
  exact hkept hw hj

/-- A slot that the word asks for takes its step, from its old state and with every register but MBX_ERR and response areas as it was. -/
theorem actOnSlots_slot_taken (h : SlotSteps (slotKey w) (InRsp w) g) {s : State} (hk : k ∈ askedSlots s w v st) :
    ∃ u : State, (actOnSlots w v st f g s).slot w k = (g k u).slot w k ∧ u.slot w k = s.slot w k
      ∧ ∀ x, x ≠ mbxBase w + R.MBX_ERR_E.off → (∀ j < 16, ¬ InRsp w j x) → u.rd x = s.rd x := by
  have hnodup : ((askedSlots s w v st).map (slotKey w)).Nodup :=
    (List.nodup_range.filter _).map fun i j hij => by unfold slotKey at hij; omega
  obtain ⟨m, hslot, hrd⟩ := h.at_mem hnodup hk (s.mbxRefuse w f (s.refusedSlots w v st))
  obtain ⟨hm, hl⟩ := hslot w k rfl
  refine ⟨_, hl, hm.trans (mbxRefuse_slot ..), fun x hx hr => ?_⟩
  have hout := (hrd x fun j hj _ => hr j (mem_askedSlots.mp hj).1).1
  exact hout.trans (State.rd_evtN_ne _ _ _ _ _ hx)

/-- A slot that the word names in another state is recorded in MBX_ERR. -/
theorem actOnSlots_refused (h : SlotSteps (slotKey w) (InRsp w) g) {s : State} (hf : f.lo < 24) (hk : k ∈ s.refusedSlots w v st) :
    ((actOnSlots w v st f g s).rd (mbxBase w + R.MBX_ERR_E.off)).getLsbD f.lo = true := by
  rw [actOnSlots, h.rd_ne fun j hj => register_not_inRsp (mem_askedSlots.mp hj).1 (by decide)]
  exact evtN_getLsbD_flag _ _ _ _ _ _ (List.length_pos_of_mem hk).ne' hf

end

/-- A plain write of a mailbox register whose row has the effect `F` and calls for no fault reaction. -/
theorem mailboxWrite_next {c : WAcc → Instr} {o w : Nat} {F : WAcc → State → State}
    (hc : Lands c .mbx (· == o) fun a _ _ u => if plainForm a then F a u else u) {s : State} {a : WAcc} {r : RegRow} {sa : Nat}
    (h : Reaches s a .mbx r sa) (hw : w < 4) (ho : o < 0x4000) (ha : a.addr = mbxBase w + o) (ht : s.todo = [])
    (hk : ∀ u, (F a u).todo = u.todo ∧ (F a u).part = u.part) :
    exec (c a) s = .next ((F a (s.arrived a)).keeps (s.arrived a))
      ∧ ∀ x, ((F a (s.arrived a)).keeps (s.arrived a)).rd x = (F a (s.arrived a)).rd x := by
  obtain ⟨-, hoff, -⟩ := mbx_slot w hw o ho
  rw [← ha] at hoff
  obtain ⟨hpl, hform⟩ := plain_off hoff ho
  have hplain : plainForm a = true := by rw [plainForm, hform]; rfl
  have hx := hc s a r sa h (by simp [hpl])
  simp only [hplain, if_true] at hx
  obtain ⟨hwr, hrd⟩ := lands_next (s := s) (a := a) (f := F a) ht fun u hu _ => ⟨(hk u).1.trans hu, (hk u).2⟩
  rw [hwr] at hx hrd
  exact ⟨hx, hrd⟩

/-- The bits of a doorbell or release word are its low 16. -/
theorem slotBits_getLsbD (v : Word) {k : Nat} (hk : k < 16) : (v &&& 0xFFFF).getLsbD k = v.getLsbD k := by
  have hmask : ∀ k < 16, (0xFFFF : Word).getLsbD k = true := by decide
  rw [BitVec.getLsbD_and, hmask k hk, Bool.and_true]

theorem arrived_slot (s : State) (a : WAcc) (w k : Nat) : (s.arrived a).slot w k = s.slot w k :=
  live_keep s a (fun u => u.slot w k) fun _ _ => rfl

/-- What the word of a write that has arrived asks for, and what it is refused. -/
theorem mem_asked_arrived {s : State} {a : WAcc} {w k : Nat} {st : SlotSt} (hk : k < 16) :
    k ∈ askedSlots (s.arrived a) w (a.val &&& 0xFFFF) st ↔ a.val.getLsbD k = true ∧ (s.slot w k).st = st := by
  rw [mem_askedSlots, slotBits_getLsbD _ hk, arrived_slot, and_iff_right hk]

theorem mem_refused_arrived {s : State} {a : WAcc} {w k : Nat} {st : SlotSt} (hk : k < 16) :
    k ∈ (s.arrived a).refusedSlots w (a.val &&& 0xFFFF) st ↔ a.val.getLsbD k = true ∧ (s.slot w k).st ≠ st := by
  rw [mem_refusedSlots, slotBits_getLsbD _ hk, arrived_slot, and_iff_right hk]

theorem not_mem_asked_arrived {s : State} {a : WAcc} {w k : Nat} {st : SlotSt} (hk : k < 16)
    (hkept : a.val.getLsbD k = false ∨ (s.slot w k).st ≠ st) : k ∉ askedSlots (s.arrived a) w (a.val &&& 0xFFFF) st := fun hm => by
  obtain ⟨hv, hst⟩ := (mem_asked_arrived hk).mp hm
  rcases hkept with hkept | hkept
  · exact Bool.false_ne_true (hkept.symm.trans hv)
  · exact hkept hst

/-- A permitted doorbell write of window w acts on the slots that its word finds FREE, for the grant of its requester. -/
theorem mbxDoorbell_next {s : State} {a : WAcc} {r : RegRow} {sa w : Nat} (h : Reaches s a .mbx r sa) (hw : w < 4)
    (ha : a.addr = mbxBase w + 0x40) (ht : s.todo = []) : ∃ u, u = actOnSlots w (a.val &&& 0xFFFF) .free R.MBX_ERR_RING_BUSY
        (postSlot w (s.grantOf a.port a.rid).level (s.grantOf a.port a.rid).base (s.grantOf a.port a.rid).count a.port) (s.arrived a)
      ∧ exec (.mbxDoorbell a) s = .next (u.keeps (s.arrived a)) ∧ ∀ x, (u.keeps (s.arrived a)).rd x = u.rd x := by
  obtain ⟨hslot, -, -⟩ := mbx_slot w hw 0x40 (by decide)
  rw [← ha] at hslot
  have hnext := mailboxWrite_next mbxDoorbell_lands h hw (by decide) ha ht fun u =>
    ⟨actOnSlots_keeps State.todo (by simp) (postSlot_keeps State.todo (by simp) (by simp) (fun _ _ => rfl) _ _ _ _ _) _,
      actOnSlots_keeps State.part (by simp) (postSlot_keeps State.part (by simp) (by simp) (fun _ _ => rfl) _ _ _ _ _) _⟩
  rw [hslot, Nat.add_sub_cancel, State.arrived_grant, doorbellSlots_eq] at hnext
  exact ⟨_, rfl, hnext⟩

theorem mbxRelease_next {s : State} {a : WAcc} {r : RegRow} {sa w : Nat} (h : Reaches s a .mbx r sa) (hw : w < 4)
    (ha : a.addr = mbxBase w + 0x44) (ht : s.todo = []) :
    ∃ u, u = actOnSlots w (a.val &&& 0xFFFF) .done R.MBX_ERR_REL_EARLY (freeSlot w) (s.arrived a)
      ∧ exec (.mbxRelease a) s = .next (u.keeps (s.arrived a)) ∧ ∀ x, (u.keeps (s.arrived a)).rd x = u.rd x := by
  obtain ⟨hslot, -, -⟩ := mbx_slot w hw 0x44 (by decide)
  rw [← ha] at hslot
  have hnext := mailboxWrite_next mbxRelease_lands h hw (by decide) ha ht fun u =>
    ⟨actOnSlots_keeps State.todo (by simp) (freeSlot_keeps State.todo (by simp) (by simp) _) _,
      actOnSlots_keeps State.part (by simp) (freeSlot_keeps State.part (by simp) (by simp) _) _⟩
  rw [hslot, Nat.add_sub_cancel, releaseSlots_eq] at hnext
  exact ⟨_, rfl, hnext⟩

/-- A command area is left alone by what changes MBX_ERR and response areas alone. -/
theorem cmd_kept {s u : State} {w w' k x : Nat} (hk : k < 16)
    (hu : ∀ x, x ≠ mbxBase w' + R.MBX_ERR_E.off → (∀ j < 16, ¬ InRsp w' j x) → u.rd x = s.rd x)
    (h : cmdBase w k ≤ x) (h' : x < cmdBase w k + 256) : u.rd x = s.rd x :=
  hu x (area_ne_register hk (by decide) h (by omega)) fun _ _ => cmd_not_inRsp h h'

/-- Settles O22: the doorbell acts on the slots its word finds FREE, and a posted slot latches what its command area holds. -/
theorem doorbellPostsTheFreeSlots : Obligations.DoorbellPostsTheFreeSlots := by
  intro s a r sa w h hw ha ht
  obtain ⟨u, hu, hx, hrd⟩ := mbxDoorbell_next h hw ha ht
  have hsteps := postSlot_steps w (s.grantOf a.port a.rid).level (s.grantOf a.port a.rid).base (s.grantOf a.port a.rid).count a.port
  have hslot : ∀ w k, (u.keeps (s.arrived a)).slot w k = u.slot w k := fun _ _ => rfl
  have hkeep : ∀ {γ : Type} (q : State → γ), (∀ s a v, q (State.wr s a v) = q s) → (∀ s w k x, q (State.setSlot s w k x) = q s) →
      (∀ (s : State) n, q { s with ringNo := n } = q s) → q u = q (s.arrived a) :=
    fun q hw hs hn => hu ▸ actOnSlots_keeps q hw (postSlot_keeps q hw hs hn _ _ _ _ _) _
  refine ⟨_, hx, fun k hk hv hst => ?_, fun k hk hkept => ?_, fun w' k hne hk => ?_, fun hbusy => ?_, fun x hne hr => ?_, ?_, ?_, ?_⟩
  · obtain ⟨u', hpost, -, hcmd⟩ := actOnSlots_slot_taken (f := R.MBX_ERR_RING_BUSY) hsteps ((mem_asked_arrived hk).mpr ⟨hv, hst⟩)
    have htag : u'.cp w k 2 2 = s.cp w k 2 2 := cp_congr (fun x h1 h2 => (cmd_kept hk hcmd h1 h2).trans (arr_rd ..)) 2 2 (by decide)
    rw [hslot, hu, hpost, postSlot_slot, htag]
    exact ⟨rfl, rfl, rfl, rfl, rfl, rfl⟩
  · rw [hslot, hu, actOnSlots_slot_kept hsteps hk fun _ => not_mem_asked_arrived hk hkept, arrived_slot]
  · rw [hslot, hu, actOnSlots_slot_kept hsteps hk fun heq => absurd heq hne, arrived_slot]
  · obtain ⟨k, hk, hnamed⟩ := hbusy
    rw [hrd, hu]
    exact actOnSlots_refused hsteps (by decide) ((mem_refused_arrived hk).mpr hnamed)
  · rw [hrd, hu, actOnSlots_frame hsteps _ hne fun k hk => not_inRsp.mpr (hr k hk), arr_rd]
  · exact (hkeep State.chans (by simp) (by simp) fun _ _ => rfl).trans (by simp [State.arrived])
  · exact (hkeep State.recs (by simp) (by simp) fun _ _ => rfl).trans (by simp [State.arrived])
  · exact (hkeep State.journal (by simp) (by simp) fun _ _ => rfl).trans (by simp [State.arrived])

/-- Settles O23: the release acts on the slots its word finds DONE. -/
theorem releaseFreesTheDoneSlots : Obligations.ReleaseFreesTheDoneSlots := by
  intro s a r sa w h hw ha ht
  obtain ⟨u, hu, hx, hrd⟩ := mbxRelease_next h hw ha ht
  have hsteps := freeSlot_steps w
  have hslot : ∀ w k, (u.keeps (s.arrived a)).slot w k = u.slot w k := fun _ _ => rfl
  have hframe : ∀ x, x ≠ mbxBase w + R.MBX_ERR_E.off → (∀ k < 16, ¬ InRsp w k x) → (u.keeps (s.arrived a)).rd x = s.rd x :=
    fun x hne hr => by rw [hrd, hu, actOnSlots_frame hsteps _ hne hr, arr_rd]
  refine ⟨_, hx, fun k hk hv hst => ⟨?_, fun o ho => ?_⟩, fun k hk hkept => ?_, fun hearly => ?_, fun x hne hr => ?_⟩
  · obtain ⟨u', hfree, -⟩ := actOnSlots_slot_taken (f := R.MBX_ERR_REL_EARLY) hsteps ((mem_asked_arrived hk).mpr ⟨hv, hst⟩)
    rw [hslot, hu, hfree, freeSlot_slot]
  · exact cmd_kept (w := w) hk hframe (by omega) (by omega)
  · rw [hslot, hu, actOnSlots_slot_kept hsteps hk fun _ => not_mem_asked_arrived hk hkept, arrived_slot]
  · obtain ⟨k, hk, hnamed⟩ := hearly
    rw [hrd, hu]
    exact actOnSlots_refused hsteps (by decide) ((mem_refused_arrived hk).mpr hnamed)
  · exact hframe x hne fun k hk => not_inRsp.mpr (hr k hk)

/-! ### Command words (R66, R68) -/

/-- What a command word takes: the written word while its slot is FREE, else MBX_ERR the record of a locked slot. -/
def commandWord (w k x : Nat) (v : Word) (s : State) : State :=
  if (s.slot w k).st = SlotSt.free then s.wr x v else s.evt (mbxBase w) R.MBX_ERR_E [R.MBX_ERR_WRITE_LOCKED] [(R.MBX_ERR_SLOT, k)]

theorem commandWord_keeps {β : Type} (f : State → β) (hw : ∀ s a v, f (State.wr s a v) = f s) (w k x : Nat) (v : Word) (s : State) :
    f (commandWord w k x v s) = f s := by
  unfold commandWord
  split
  · exact hw _ _ _
  · exact hw _ _ _

/-- The rule of a mailbox register that is a command word. -/
theorem writeMbx_commandWord {s : State} {g : Grant} {port w k o x : Nat} {t : Target} (r : RegRow) (v v' : Word) (hs : t.slot = w + 4)
    (ho : o < 64) (hpl : t.plain = 0x2000 + 0x200 * k + 4 * o) (hb : t.base = mbxBase w) (hx : x = t.base + t.plain) :
    s.writeMbx g port t r .plain v' v = commandWord w k x v s := by
  have hk : (t.plain - 0x2000) / 0x200 = k := by omega
  unfold State.writeMbx commandWord
  simp only [hk, hs, Nat.add_sub_cancel]
  rw [if_neg (by omega), if_neg (by omega), if_pos (by omega), if_neg (by omega), ← hx, hb]
  simp only [beq_iff_eq]

/-- A permitted plain write of a command word. -/
theorem commandAreaWrite_next {s : State} {a : WAcc} {r : RegRow} {sa w k o : Nat} (h : Reaches s a .mbx r sa) (hw : w < 4) (hk : k < 16)
    (ho : o < 64) (ha : a.addr = cmdBase w k + 4 * o) (ht : s.todo = []) :
    ∃ t, exec (.commandAreaWrite (accWrite a)) s = .next t ∧ (∀ x, t.rd x = (commandWord w k a.addr a.val (s.arrived a)).rd x)
      ∧ t.slots = s.slots := by
  have haddr : a.addr = mbxBase w + (0x2000 + 0x200 * k + 4 * o) := by rw [ha]; unfold cmdBase; omega
  obtain ⟨hslot, hoff, hbase⟩ := mbx_slot w hw (0x2000 + 0x200 * k + 4 * o) (by omega)
  rw [← haddr] at hslot hoff hbase
  obtain ⟨hpl, hform⟩ := plain_off hoff (by omega)
  have hword : isCommandWord a.addr = true := by
    simp only [isCommandWord, h.blk, hpl, beq_self_eq_true, Bool.true_and, Bool.and_eq_true, decide_eq_true_eq]
    omega
  have hx : exec (.commandAreaWrite (accWrite a)) s = .next (s.written a (commandWord w k a.addr a.val)) := by
    refine lands h ((accWrite a).wr && (accWords (accWrite a)).all isCommandWord) ?_ (notCommit h (by decide)) fun u _ => ?_
    · rw [accWords_write a h.aligned, List.all_cons, hword]; rfl
    · rw [← writeMbx_commandWord (g := u.grantOf a.port a.rid) (port := a.port) r a.val a.val hslot ho hpl hbase (by rw [hbase, hpl, haddr])]
      unfold State.writeReg
      rw [if_neg (by omega), if_neg (by omega), if_neg (by omega), hform]
      rfl
  obtain ⟨hwr, hrd⟩ := lands_next (s := s) (a := a) (f := commandWord w k a.addr a.val) ht fun u hu _ =>
    ⟨(commandWord_keeps State.todo (by simp) ..).trans hu, commandWord_keeps State.part (by simp) ..⟩
  refine ⟨_, hx, hrd, ?_⟩
  rw [hwr, State.keeps_slots, commandWord_keeps State.slots (by simp), State.arrived, State.tlps_slots]

/-- Settles O24: a command word is stored, or the write is recorded, by the state of its slot. -/
theorem commandWordsAreWrittenOnlyWhileFree : Obligations.CommandWordsAreWrittenOnlyWhileFree := by
  intro s a r sa w k o h hw hk ho ha ht
  obtain ⟨t, hx, hrd, hslots⟩ := commandAreaWrite_next h hw hk ho ha ht
  constructor
  · intro hfree
    have hword : commandWord w k a.addr a.val (s.arrived a) = (s.arrived a).wr a.addr a.val := if_pos (by rw [arrived_slot, hfree])
    rw [hword] at hrd
    exact ⟨t, hx, (hrd _).trans (State.rd_wr_same ..), fun x hne => by rw [hrd, State.rd_wr_ne _ _ hne, arr_rd], hslots⟩
  · intro hbusy
    have hword : commandWord w k a.addr a.val (s.arrived a)
        = (s.arrived a).evt (mbxBase w) R.MBX_ERR_E [R.MBX_ERR_WRITE_LOCKED] [(R.MBX_ERR_SLOT, k)] := if_neg (by rwa [arrived_slot])
    rw [hword] at hrd
    exact ⟨t, hx, (hrd _).trans (rd_evt_congr (arr_rd ..) _ _), fun x hne => by rw [hrd, State.rd_evt_ne _ _ _ _ hne, arr_rd], hslots⟩

/-! ### How a command ends (R62, R65, R67, R72, R75) -/

/-- A command that has ended leaves its slot DONE, with what else the slot held. -/
theorem finish_slot_same (s : State) (w k status detail rflags : Nat) (res : List Byte) :
    (s.finish w k status detail res rflags).slot w k = { s.slot w k with st := .done, held := false } := by
  unfold State.slot
  rw [State.finish_slots, tgetD, tget_tset_same]
  rfl

theorem finish_slot_ne (s : State) {w k w' k' : Nat} (status detail rflags : Nat) (res : List Byte) (h : slotKey w' k' ≠ slotKey w k) :
    (s.finish w k status detail res rflags).slot w' k' = s.slot w' k' := by
  unfold State.slot
  rw [State.finish_slots, tgetD, tget_tset_ne _ _ h]
  rfl

/-- A state without what the end of a command changes: registers, counts, slots and messages, and without what every command keeps. -/
def unended (s : State) : State :=
  { s with part := .msd2, pending := [], prt := [], commits := [], regs := [], live := [], slots := [], out := [], msixPend := [] }

/-- States that agree so far agree in every field that is left. -/
theorem unended_same {β : Type} {s t : State} (h : unended t = unended s) (f : State → β)
    (hf : ∀ s, f (unended s) = f s := by exact fun _ => rfl) : f t = f s := by
  rw [← hf t, h, hf]

theorem finish_unended (s : State) (w k status detail rflags : Nat) (res : List Byte) :
    unended (s.finish w k status detail res rflags) = unended s :=
  State.finish_keeps unended (fun _ _ _ => rfl) (fun _ _ _ => rfl) (fun _ _ _ _ => rfl) (fun _ _ => rfl)
    (fun s d m n => by obtain ⟨L, hL⟩ := s.tlps_live d m n; rw [hL]; rfl) (fun _ _ => rfl) ..

/-- `t` is the part in which a command of a slot has ended, `v` the one that its effect left. -/
structure Ended (v t : State) (w k status detail rflags : Nat) (res : List Byte) : Prop where
  done : (t.slot w k).st = SlotSt.done
  others : ∀ w' k', slotKey w' k' ≠ slotKey w k → t.slot w' k' = v.slot w' k'
  response : ∀ i < 64, t.rd (rspBase w k + 4 * i)
    = BitVec.ofNat 32 (leAt (rspBytes status (v.slot w k).tag (v.opcode w k) detail rflags v.epoch res) (4 * i) 4)
  frame : ∀ x, x ≠ mbxBase w + R.MBX_DONE_EV_E.off → (x < rspBase w k ∨ rspBase w k + 256 ≤ x) → t.rd x = v.rd x
  rest : unended t = unended v

/-- What neither the end of a command nor its answer touches is as the command's effect left it. -/
theorem Ended.same {v t : State} {w k status detail rflags : Nat} {res : List Byte} (h : Ended v t w k status detail rflags res) {β : Type}
    (f : State → β) (hf : ∀ s, f (unended s) = f s := by exact fun _ => rfl) : f t = f v :=
  unended_same h.rest f hf

/-- With no fault reaction in hand a command ends with the completion of its slot. -/
theorem finish_ended {s v : State} (hp : v.part = s.part) (ht : v.todo = []) (w k status detail rflags : Nat) (res : List Byte) :
    Ended v (((v.finish w k status detail res rflags).settle).keeps s) w k status detail rflags res := by
  rw [State.settle_nil _ ((State.finish_todo ..).trans ht)]
  have hrd := State.rd_keeps (v.finish w k status detail res rflags) s ((State.finish_part ..).trans hp)
  exact {
    done := congrArg Slot.st (finish_slot_same v w k status detail rflags res)
    others := fun _ _ hne => finish_slot_ne v status detail rflags res hne
    response := fun i hi => (hrd _).trans (State.finish_response _ _ _ _ _ _ _ _ hi)
    frame := fun x hne hr => (hrd x).trans (State.finish_frame _ _ _ _ _ _ _ _ hne hr)
    rest := (show unended ((v.finish w k status detail res rflags).keeps s) = unended (v.finish w k status detail res rflags) from rfl).trans
      (finish_unended ..) }

/-- Settles O26: a refusal is nothing but the end of its slot's command. -/
theorem refusedCommandChangesNothing : Obligations.RefusedCommandChangesNothing := by
  intro s w k opc status detail res ht
  have h : Ended s (s.answered w k opc (.err status detail res)) w k status detail 0 res := finish_ended rfl ht ..
  refine ⟨h.done, h.response, h.frame, fun w' k' hk hk' hne => h.others w' k' fun heq => hne ?_, h.same State.journal,
    h.same State.chans, h.same State.recs, h.same State.grps, h.same State.ctxs, h.same State.vols, h.same State.boot, h.same State.epoch⟩
  obtain ⟨rfl, rfl⟩ := slotKey_inj hk hk' heq
  rfl

/-- A query that is carried out ends its slot's command. -/
theorem answered_query {s t : State} {w k opc : Nat} {row : CmdRow} (hrow : cmdRow opc = some row) (hq : row.query = true)
    (hr : (t.slot w k).st = SlotSt.running) (res : List Byte) :
    s.answered w k opc (.ok t res) = ((t.finish w k stOK 0 res).settle).keeps s := by
  simp only [State.answered, State.respond, hrow, Option.map_some, Option.getD_some, hq, hr, if_true, beq_self_eq_true]

/-- A change that the other clusters can confirm is entered in the journal before its slot's command ends (R62, R75). -/
theorem answered_change {s t : State} {w k opc : Nat} {row : CmdRow} (hrow : cmdRow opc = some row) (hq : row.query = false)
    (hc : s.confirmed = true) (hr : (t.slot w k).st = SlotSt.running) (res : List Byte) :
    s.answered w k opc (.ok t res) = (((t.journalise w k stOK 0 res).finish w k stOK 0 res).settle).keeps s := by
  have hr' : ((t.journalise w k stOK 0 res).slot w k).st = SlotSt.running := hr
  simp [State.answered, State.respond, hrow, hq, hc, hr']

/-- Settles O25: a query ends from its body's state, a change from that state with the journal's entry. -/
theorem acceptedCommandEndsDone : Obligations.AcceptedCommandEndsDone := by
  intro s t w k opc res row hrow hr ht hp hc
  cases hq : row.query with
  | true =>
    have h := finish_ended hp ht w k stOK 0 0 res
    rw [← answered_query hrow hq hr] at h
    exact ⟨h.done, h.response, nofun, fun _ => h.same State.journal, h.frame, h.same State.chans, h.same State.grps,
      h.same State.ctxs, h.same State.vols⟩
  | false =>
    have h := finish_ended (v := t.journalise w k stOK 0 res) hp ht w k stOK 0 0 res
    rw [← answered_change hrow hq (hc.resolve_left (by simp [hq])) hr] at h
    refine ⟨h.done, h.response, fun _ => ?_, nofun, h.frame, h.same State.chans, h.same State.grps, h.same State.ctxs,
      h.same State.vols⟩
    rw [h.same State.journal]
    exact tget_tset_same ..

/-- The command area of a slot does not change with the state of a slot. -/
theorem opcode_setSlot (s : State) (w k : Nat) (x : Slot) (w' k' : Nat) : (s.setSlot w k x).opcode w' k' = s.opcode w' k' := rfl
theorem flagsOf_setSlot (s : State) (w k : Nat) (x : Slot) (w' k' : Nat) : (s.setSlot w k x).flagsOf w' k' = s.flagsOf w' k' := rfl

/-- Firmware that starts a reissued command whose entry the journal holds ends it from that entry (R75). -/
theorem commandStart_reissued {s : State} {w k : Nat} {e : JEntry} (hst : (s.slot w k).st = SlotSt.posted) (hl : s.leaderSt = ldRUNNING)
    (hb : s.boot.recovery = false) (hw : s.waits w k = false)
    (hc : (s.setSlot w k { s.slot w k with st := .running }).preCheck w k = none) (hf : tbit (s.flagsOf w k) 0 = true)
    (hj : tget s.journal (slotKey w k) = some e) (ho : e.opened = false) (hopc : e.opcode = s.opcode w k) (htag : e.tag = (s.slot w k).tag) :
    commandStartF w k s = (s.setSlot w k { s.slot w k with st := .running }).finish w k e.status e.detail e.result 1 := by
  unfold commandStartF
  dsimp only
  rw [if_neg (by simp [hst, hl, hw]), if_neg (by simp [hb]), hc]
  dsimp only
  rw [flagsOf_setSlot, hf, State.setSlot_journal, hj]
  dsimp only
  rw [if_pos (by simp [opcode_setSlot, hopc, htag]), ho]
  rfl

/-- Settles O27: the start of a reissued command is the end of it, with the answer of its journal entry. -/
theorem reissuedCommandIsAnsweredFromTheJournal : Obligations.ReissuedCommandIsAnsweredFromTheJournal := by
  intro s w k e hw hk hst hl hb hwait hc hf hj ho hopc htag ht
  have hx : exec (.commandStart w k) s = .next (s.reacted (commandStartF w k)) := State.onPart_has _ (by simp [hw, hk])
  have h := finish_ended (s := s) (v := s.setSlot w k { s.slot w k with st := .running }) rfl ht w k e.status e.detail 1 e.result
  rw [← commandStart_reissued hst hl hb hwait hc hf hj ho hopc htag] at h
  refine ⟨_, hx, h.done, fun i hi => ?_, h.frame, h.same State.journal, h.same State.chans, h.same State.recs,
    h.same State.ctxs⟩
  rw [htag, hopc]
  have hresp := h.response i hi
  rw [State.slot_setSlot_same] at hresp
  exact hresp

/-! ### A fault reaction aborts the commands in flight (R74) -/

/-- What a fault reaction does to one slot: the command that it holds in flight ends with ABORTED_REISSUE. -/
def abortSlot (q : Nat × Nat) (s : State) : State :=
  if (s.slot q.1 q.2).inFlight then s.finish q.1 q.2 stABORTED 0 [] else s

/-- The end of an image that FW_STAGE was writing changes what the boot store holds alone. -/
theorem dropImage_boot (s : State) (i : Nat) : ∃ B, s.dropImage i = { s with boot := B } := by
  unfold State.dropImage
  split
  · exact ⟨s.boot, rfl⟩
  · exact ⟨_, rfl⟩

theorem dropImages_boot (l : List (Nat × Nat)) (s : State) :
    ∃ B, each l (fun q s => s.dropImage (s.cmdByte q.1 q.2 20)) s = { s with boot := B } := by
  induction l generalizing s with
  | nil => exact ⟨s.boot, rfl⟩
  | cons q l ih =>
    obtain ⟨B, hB⟩ := dropImage_boot s (s.cmdByte q.1 q.2 20)
    obtain ⟨B', hB'⟩ := ih (s.dropImage (s.cmdByte q.1 q.2 20))
    exact ⟨B', hB'.trans (by rw [hB])⟩

/-- A fault reaction advances EPOCH and then aborts slot after slot; beside that it changes streams, CAN controllers, the calendar and the boot
store, where work of a command was in hand. -/
theorem abortAll_form (s : State) : ∃ B C N K B', s.abortAll
    = { each allSlots abortSlot { s with boot := B, epoch := (s.epoch + 1) % 0x1000000 } with chans := C, cans := N, clock := K, boot := B' } := by
  obtain ⟨B, hB⟩ := dropImages_boot
    (allSlots.filter fun q => (s.slot q.1 q.2).st == .running && s.opcode q.1 q.2 == 0x011 && (none : Option (Nat × Nat)) != some q) s
  have habort : abortSlot = fun q s =>
      if (s.slot q.1 q.2).inFlight && (none : Option (Nat × Nat)) != some q then s.finish q.1 q.2 stABORTED 0 [] else s := by
    funext q s
    simp [abortSlot]
  unfold State.abortAll
  dsimp only
  rw [hB, habort]
  exact ⟨B, _, _, _, _, rfl⟩

theorem abortSlot_unended (q : Nat × Nat) (s : State) : unended (abortSlot q s) = unended s := by
  unfold abortSlot
  split
  · exact finish_unended ..
  · rfl

/-- Each of its steps writes one response area and the window's MBX_DONE_EV. -/
theorem abortSlot_steps :
    SlotSteps (fun q => slotKey q.1 q.2) (fun q x => InRsp q.1 q.2 x ∨ x = mbxBase q.1 + R.MBX_DONE_EV_E.off) abortSlot where
  slots q s w k h := by
    unfold abortSlot
    split
    · exact finish_slot_ne _ _ _ _ _ h
    · rfl
  regs q s x h := by
    obtain ⟨hr, hx⟩ := not_or.mp h
    unfold abortSlot
    split
    · exact State.finish_frame _ _ _ _ _ _ _ _ hx (not_inRsp.mp hr)
    · rfl

theorem mem_allSlots {w k : Nat} (hw : w < 4) (hk : k < 16) : (w, k) ∈ allSlots := by
  have h : ∀ w < 4, ∀ k < 16, (w, k) ∈ allSlots := by decide
  exact h w hw k hk

theorem allSlots_lt : ∀ q ∈ allSlots, q.2 < 16 := by decide

theorem allSlots_nodup : (allSlots.map fun q => slotKey q.1 q.2).Nodup := by decide

/-- A slot in flight is DONE after the reaction, and its response names the abort. -/
theorem abortSlots_inFlight {s : State} {w k : Nat} (hw : w < 4) (hk : k < 16) (h : (s.slot w k).inFlight = true) :
    ((each allSlots abortSlot s).slot w k).st = SlotSt.done
      ∧ (each allSlots abortSlot s).rd (rspBase w k)
        = BitVec.ofNat 32 (leAt (rspBytes stABORTED (s.slot w k).tag (s.opcode w k) 0 0 s.epoch []) 0 4) := by
  obtain ⟨m, hslot, hrd⟩ := abortSlot_steps.at_mem allSlots_nodup (mem_allSlots hw hk) s
  obtain ⟨hm, hl⟩ := hslot w k rfl
  have hcmd : ∀ x, cmdBase w k ≤ x → x < cmdBase w k + 256 → (each m abortSlot s).rd x = s.rd x := fun x h1 h2 =>
    (hrd x fun q _ _ => not_or.mpr ⟨cmd_not_inRsp h1 h2, area_ne_register hk (by decide) h1 (by omega)⟩).1
  have hopc : (each m abortSlot s).opcode w k = s.opcode w k := cp_congr hcmd 0 2 (by decide)
  have hepoch : (each m abortSlot s).epoch = s.epoch := unended_same (each_keep unended abortSlot abortSlot_unended m s) State.epoch
  have hstep : abortSlot (w, k) (each m abortSlot s) = (each m abortSlot s).finish w k stABORTED 0 [] := if_pos (by rw [hm, h])
  have harea : rspBase w k = cmdBase w k + 256 := by unfold rspBase cmdBase; omega
  have hreg : ∀ w', rspBase w k ≠ mbxBase w' + R.MBX_DONE_EV_E.off := fun _ =>
    area_ne_register (w := w) hk (by decide) (by omega) (by omega)
  have hword := (hrd (rspBase w k) fun q hq hne => not_or.mpr ⟨rsp_not_inRsp hk (allSlots_lt q hq) hne, hreg q.1⟩).2
  refine ⟨by rw [hl, hstep, finish_slot_same], ?_⟩
  have hresp := State.finish_response (each m abortSlot s) w k stABORTED 0 0 [] 0 (by decide)
  rw [hm, hopc, hepoch] at hresp
  rw [hword, hstep]
  exact hresp

/-- A slot that is not in flight stays as it is. -/
theorem abortSlots_notInFlight {s : State} {w k : Nat} (hw : w < 4) (hk : k < 16) (h : (s.slot w k).inFlight = false) :
    (each allSlots abortSlot s).slot w k = s.slot w k := by
  obtain ⟨m, hslot, -⟩ := abortSlot_steps.at_mem allSlots_nodup (mem_allSlots hw hk) s
  obtain ⟨hm, hl⟩ := hslot w k rfl
  have hstep : abortSlot (w, k) (each m abortSlot s) = each m abortSlot s := if_neg (by rw [hm, h]; decide)
  rw [hl, hstep, hm]

/-- Settles O28: the reaction is a succession of aborts, each of its own slot. -/
theorem reactionAbortsTheCommandsInFlight : Obligations.ReactionAbortsTheCommandsInFlight := by
  intro s
  obtain ⟨B, C, N, K, B', hform⟩ := abortAll_form s
  have hrest := each_keep unended abortSlot abortSlot_unended allSlots { s with boot := B, epoch := (s.epoch + 1) % 0x1000000 }
  have hflight := fun w k => @abortSlots_inFlight { s with boot := B, epoch := (s.epoch + 1) % 0x1000000 } w k
  have hother := fun w k => @abortSlots_notInFlight { s with boot := B, epoch := (s.epoch + 1) % 0x1000000 } w k
  generalize each allSlots abortSlot { s with boot := B, epoch := (s.epoch + 1) % 0x1000000 } = u at hform hrest hflight hother
  have hepoch := unended_same hrest State.epoch
  have hjournal := unended_same hrest State.journal
  dsimp only at hepoch hjournal
  rw [hform]
  dsimp only
  rw [hepoch]
  exact ⟨rfl, hjournal, hflight, hother⟩

end Sys2Proof.Proofs

/-!
The statement about the deadline of a Strand channel: what a write of STR_DEADLINE stores, which event it records, and what it leaves alone.
-/
namespace Sys2Proof.Proofs
open Sys2Proof Sys2Proof.Machine Sys2Proof.Laws

/-! ### Where the registers of a Strand channel lie (R2, R28) -/

theorem globalBlk_ne_str (slot : Nat) : globalBlk slot ≠ some .str := by
  unfold globalBlk
  split_ifs <;> decide

/-- R28 assigns the slots up to 0x77; of those the 24 from 0x40 on are the die's Strand blocks. -/
theorem slot_of_slotBlk_str {slot : Nat} (h : slotBlk slot = some .str) : 0x40 ≤ slot ∧ slot ≤ 0x57 := by
  have htop : slot < 0x78 := by
    by_contra hge
    simp (disch := omega) only [slotBlk, Bool.and_eq_true, decide_eq_true_eq, if_neg, reduceCtorEq] at h
  have hslots : ∀ t < 0x78, slotBlk t = some .str → 0x40 ≤ t ∧ t ≤ 0x57 := by decide
  exact hslots slot htop h

/-- A target in a Strand block is the block of the channel that its die and slot name. -/
theorem base_of_blk_str {x : Nat} (h : (targetOf x).blk = some .str) :
    (targetOf x).base = strB (24 * (targetOf x).die + ((targetOf x).slot - 0x40)) := by
  by_cases hx : x < 0x20000000
  · simp only [targetOf, if_pos hx] at h ⊢
    obtain ⟨h1, h2⟩ := slot_of_slotBlk_str h
    have hdie : x / 0x4000000 ≠ 8 := by omega
    simp only [Target.base, strB, blkAddr, if_neg hdie]
    omega
  · simp only [targetOf, if_neg hx] at h
    exact absurd h (globalBlk_ne_str _)

/-- No selector window shows a register of a Strand block. -/
theorem place_str_addr {s : State} {d slot base off : Nat} {r : RegRow} {sa : Nat} (h : s.place d slot .str base off = .reg r sa) :
    sa = base + off := by
  unfold State.place at h
  dsimp only at h
  split at h
  · injection h with _ hsa
    exact hsa.symm
  · cases h

/-! ### What a write of STR_DEADLINE does (R123) -/

/-- The deadline that is stored for a written one, between the bounds of the channel. -/
def boundedDeadline (least most x : Nat) : Nat := if x < least then least else if most < x then most else x

/-- The event of a written deadline: one that is out of its bounds is recorded. -/
def markDeadline (ch least most x : Nat) (s : State) : State :=
  if x < least then s.strEvt ch [R.STR_EVT_DEADLINE_RAISED]
  else if most < x then s.strEvt ch [R.STR_EVT_DEADLINE_LIMITED]
  else s

theorem strDeadlineApply_eq (ch : Nat) (v : Word) (s : State) : strDeadlineApply ch v s
    = markDeadline ch (s.g (strB ch) R.STR_DEADMIN_DEADMIN) (s.g (strB ch) R.STR_DEADMAX_DEADMAX) (bits v 23 0)
        (s.p (strB ch) R.STR_DEADLINE_DEADLINE
          (boundedDeadline (s.g (strB ch) R.STR_DEADMIN_DEADMIN) (s.g (strB ch) R.STR_DEADMAX_DEADMAX) (bits v 23 0))) := by
  unfold strDeadlineApply markDeadline boundedDeadline
  dsimp only
  split_ifs <;> rfl

/-- Bounds and written value have the width of the deadline, and so has what is stored. -/
theorem boundedDeadline_lt {least most x n : Nat} (hl : least < n) (hm : most < n) (hx : x < n) : boundedDeadline least most x < n := by
  unfold boundedDeadline
  split_ifs <;> assumption

theorem markDeadline_keeps {β : Type} (f : State → β) (hw : ∀ s a v, f (State.wr s a v) = f s) (ch least most x : Nat) (s : State) :
    f (markDeadline ch least most x s) = f s := by
  unfold markDeadline
  split_ifs
  · exact hw _ _ _
  · exact hw _ _ _
  · rfl

theorem markDeadline_rd_ne (ch least most x : Nat) (s : State) {y : Nat} (hy : y ≠ strB ch + R.STR_EVT_E.off) :
    (markDeadline ch least most x s).rd y = s.rd y := by
  unfold markDeadline
  split_ifs
  · exact State.rd_evt_ne _ _ _ _ hy
  · exact State.rd_evt_ne _ _ _ _ hy
  · rfl

/-- The record depends on what STR_EVT held alone. -/
theorem markDeadline_rd_evt {s t : State} {ch : Nat} (h : t.rd (strB ch + R.STR_EVT_E.off) = s.rd (strB ch + R.STR_EVT_E.off))
    (least most x : Nat) : (markDeadline ch least most x t).rd (strB ch + R.STR_EVT_E.off)
      = if x < least then (s.evt (strB ch) R.STR_EVT_E [R.STR_EVT_DEADLINE_RAISED] [(R.STR_EVT_STREAM, 0)]).rd (strB ch + R.STR_EVT_E.off)
        else if most < x then (s.evt (strB ch) R.STR_EVT_E [R.STR_EVT_DEADLINE_LIMITED] [(R.STR_EVT_STREAM, 0)]).rd (strB ch + R.STR_EVT_E.off)
        else s.rd (strB ch + R.STR_EVT_E.off) := by
  unfold markDeadline
  split_ifs
  · exact rd_evt_congr h _ _
  · exact rd_evt_congr h _ _
  · exact h

theorem strDeadlineApply_keeps {β : Type} (f : State → β) (hw : ∀ s a v, f (State.wr s a v) = f s) (hp : ∀ s b x v, f (State.p s b x v) = f s)
    (ch : Nat) (v : Word) (s : State) : f (strDeadlineApply ch v s) = f s := by
  rw [strDeadlineApply_eq, markDeadline_keeps f hw, hp]

theorem strDeadlineApply_rd_ne (ch : Nat) (v : Word) (s : State) {y : Nat} (hd : y ≠ strB ch + R.STR_DEADLINE_DEADLINE.off)
    (he : y ≠ strB ch + R.STR_EVT_E.off) : (strDeadlineApply ch v s).rd y = s.rd y := by
  rw [strDeadlineApply_eq, markDeadline_rd_ne _ _ _ _ _ he, State.rd_p_ne _ _ _ hd]

theorem strDeadlineApply_deadline (ch : Nat) (v : Word) (s : State) : (strDeadlineApply ch v s).g (strB ch) R.STR_DEADLINE_DEADLINE
    = boundedDeadline (s.g (strB ch) R.STR_DEADMIN_DEADMIN) (s.g (strB ch) R.STR_DEADMAX_DEADMAX) (bits v 23 0) := by
  have hne : strB ch + R.STR_DEADLINE_DEADLINE.off ≠ strB ch + R.STR_EVT_E.off := by simp [R.STR_DEADLINE_DEADLINE, R.STR_EVT_E]
  rw [strDeadlineApply_eq, State.g, markDeadline_rd_ne _ _ _ _ _ hne]
  refine (State.g_p_same s (strB ch) R.STR_DEADLINE_DEADLINE _ (by decide)).trans (Nat.mod_eq_of_lt ?_)
  exact boundedDeadline_lt (bits_lt ..) (bits_lt ..) (bits_lt ..)

/-! ### The write (R123) -/

theorem strDeadlineWrite_lands : Lands .strDeadlineWrite .str (· == 0x64) fun a r sa u =>
    strDeadlineApply (24 * (targetOf a.addr).die + ((targetOf a.addr).slot - 0x40)) (u.offer a r sa) u :=
  landsR (fun _ _ => rfl) (by decide) fun a r sa u _ ho => by
    have hpl : (targetOf a.addr).plain = 0x64 := by simpa using ho
    simp [State.writeReg, State.writeOne, State.offer, hpl]

theorem offer_plain {a : WAcc} (hform : formOf (targetOf a.addr).off = .plain) (s : State) (r : RegRow) (sa : Nat) : s.offer a r sa = a.val := by
  rw [State.offer, hform]
  rfl

/-- A permitted plain write of STR_DEADLINE ends with the effect of the rule. -/
theorem strDeadlineWrite_next {s : State} {a : WAcc} {r : RegRow} {sa : Nat} (h : Reaches s a .str r sa) (ho : (targetOf a.addr).off = 0x64)
    (ht : s.todo = []) : ∃ u, u = strDeadlineApply (24 * (targetOf a.addr).die + ((targetOf a.addr).slot - 0x40)) a.val (s.arrived a)
      ∧ exec (.strDeadlineWrite a) s = .next (u.keeps (s.arrived a)) ∧ ∀ x, (u.keeps (s.arrived a)).rd x = u.rd x := by
  obtain ⟨hpl, hform⟩ := plain_off ho (by decide)
  have hx := strDeadlineWrite_lands s a r sa h (by simp [hpl])
  simp only [offer_plain hform] at hx
  obtain ⟨hw, hrd⟩ := lands_next (s := s) (a := a)
    (f := strDeadlineApply (24 * (targetOf a.addr).die + ((targetOf a.addr).slot - 0x40)) a.val) ht fun u hu _ =>
      ⟨(strDeadlineApply_keeps State.todo (by simp) (by simp) ..).trans hu, strDeadlineApply_keeps State.part (by simp) (by simp) ..⟩
  rw [hw] at hx hrd
  exact ⟨_, rfl, hx, hrd⟩

/-- The count of the request changes no field. -/
theorem arr_g (s : State) (a : WAcc) (b : Nat) (f : Fld) : (s.arrived a).g b f = s.g b f := by rw [State.g, arr_rd, State.g]

/-- Settles O31: the write stores the bounded deadline and then records the bound that it met. -/
theorem strandDeadlineStaysInItsBounds : Obligations.StrandDeadlineStaysInItsBounds := by
  intro s a r sa h ho ht
  obtain ⟨u, hu, hx, hrd⟩ := strDeadlineWrite_next h ho ht
  obtain ⟨hpl, -⟩ := plain_off ho (by decide)
  have hsa : sa = (targetOf a.addr).base + R.STR_DEADLINE_DEADLINE.off := by rw [place_str_addr h.place, hpl]; rfl
  rw [base_of_blk_str h.blk] at hsa ⊢
  generalize 24 * (targetOf a.addr).die + ((targetOf a.addr).slot - 0x40) = ch at hu hsa ⊢
  refine ⟨_, hx, ?_, ?_, fun x hne hne' => ?_, ?_, ?_⟩
  · rw [State.g, hrd, hu]
    refine (strDeadlineApply_deadline ch a.val (s.arrived a)).trans ?_
    rw [arr_g, arr_g, boundedDeadline]
  · rw [hrd, hu, strDeadlineApply_eq, arr_g, arr_g, markDeadline_rd_evt (s := s)]
    rw [State.rd_p_ne _ _ _ (by simp [R.STR_DEADLINE_DEADLINE, R.STR_EVT_E]), arr_rd]
  · rw [hrd, hu, strDeadlineApply_rd_ne _ _ _ (hsa ▸ hne) hne', arr_rd]
  · rw [State.keeps_chans, hu, strDeadlineApply_keeps State.chans (by simp) (by simp), State.arrived, State.tlps_chans]
  · rw [State.keeps_out, hu, strDeadlineApply_keeps State.out (by simp) (by simp), State.arrived, State.tlps_out]

end Sys2Proof.Proofs

/-!
The statement about the load of a web coordinate: what a write of WEB_LOAD_CTRL arms, what it stores, and what it leaves alone.
-/
namespace Sys2Proof.Proofs
open Sys2Proof Sys2Proof.Machine Sys2Proof.Laws

/-! ### Where blocks and their registers lie (R2, R28, R29) -/

/-- R28 assigns no slot from 0x78 on. -/
theorem slotBlk_lt {slot : Nat} {b : Blk} (h : slotBlk slot = some b) : slot < 0x78 := by
  by_contra hge
  simp (disch := omega) only [slotBlk, Bool.and_eq_true, decide_eq_true_eq, if_neg, reduceCtorEq] at h

/-- R29 puts blocks of four kinds into the package-global region. -/
theorem globalBlk_mem {slot : Nat} {b : Blk} (h : globalBlk slot = some b) : b ∈ [Blk.knb, .prt, .fltp, .mbx] := by
  unfold globalBlk at h
  split_ifs at h <;> cases h <;> decide

/-- In a block that has no selector window and no command area every register lies at its offset. -/
theorem place_addr {s : State} {d slot base off : Nat} {b : Blk} {r : RegRow} {sa : Nat} (hb : b ∉ [Blk.csm, .dma, .eth, .col, .flt, .mbx])
    (h : s.place d slot b base off = .reg r sa) : sa = base + off := by
  unfold State.place at h
  dsimp only at h
  split at h
  case h_7 =>
    split at h
    · injection h with _ hsa
      exact hsa.symm
    · cases h
  all_goals exact absurd (by decide) hb

/-- A die has one WEB block, at slot 8 (R28). -/
theorem slot_of_slotBlk_web {slot : Nat} (h : slotBlk slot = some .web) : slot = 8 := by
  have hslots : ∀ t < 0x78, slotBlk t = some .web → t = 8 := by decide
  exact hslots slot (slotBlk_lt h) h

/-- A target in a WEB block is the block of its die, whose unit u is source 4 * die + u of the part. -/
theorem unitB_of_blk_web {x u : Nat} (h : (targetOf x).blk = some .web) (hu : u < 4) :
    unitB (4 * (targetOf x).die + u) = (targetOf x).base + 0x40 * u := by
  by_cases hx : x < 0x20000000
  · simp only [targetOf, if_pos hx] at h ⊢
    have hslot := slot_of_slotBlk_web h
    have hdie : x / 0x4000000 ≠ 8 := by omega
    simp only [Target.base, unitB, webB, blkAddr, if_neg hdie]
    omega
  · simp only [targetOf, if_neg hx] at h
    exact absurd (globalBlk_mem h) (by decide)

/-! ### The sources of the part -/

theorem source_setSource_same (s : State) (i : Nat) (w : Source) : (s.setSource i w).source i = w := by
  simp [State.source, State.setSource, tgetD]

theorem source_setSource_ne (s : State) {i j : Nat} (w : Source) (h : j ≠ i) : (s.setSource i w).source j = s.source j := by
  simp [State.source, State.setSource, tgetD, tget_tset_ne _ _ h]

theorem source_p (s : State) (b : Nat) (f : Fld) (v i : Nat) : (s.p b f v).source i = s.source i := (rfl)

theorem rd_setSource (s : State) (i : Nat) (w : Source) (x : Nat) : (s.setSource i w).rd x = s.rd x := (rfl)

theorem source_arrived (s : State) (a : WAcc) (i : Nat) : (s.arrived a).source i = s.source i := by
  rw [State.source, State.arrived, State.tlps_sources, State.source]

/-! ### What a write of WEB_LOAD_CTRL does (R133) -/

/-- The coordinate that WEB_LOAD_LO and WEB_LOAD_HI of a source hold; its fraction bits are 0. -/
def stagedCoord (i : Nat) (s : State) : Int :=
  wrapCoord ((s.g (unitB i) R.WEB_LOAD_HI_INT_HI * 65536 + s.g (unitB i) R.WEB_LOAD_LO_INT_LO : Nat) * 65536)

/-- The load that a source has after a write of its WEB_LOAD_CTRL. -/
def armedLoad (i : Nat) (v : Word) (s : State) : Option (Int × Bool) :=
  if v.getLsbD 0 then some (stagedCoord i s, v.getLsbD 1) else (s.source i).load

/-- AT lies in neither of the registers that hold the coordinate. -/
theorem stagedCoord_p_at (i x : Nat) (s : State) : stagedCoord i (s.p (unitB i) R.WEB_LOAD_CTRL_AT x) = stagedCoord i s := by
  unfold stagedCoord
  rw [State.g_p_ne _ _ _ (by simp [R.WEB_LOAD_HI_INT_HI, R.WEB_LOAD_CTRL_AT]), State.g_p_ne _ _ _ (by simp [R.WEB_LOAD_LO_INT_LO, R.WEB_LOAD_CTRL_AT])]

/-- AT is stored in every case, and GO arms the source's load. -/
theorem webLoadApply_eq (i : Nat) (v : Word) (s : State) : webLoadApply i v s
    = if v.getLsbD 0 then (s.p (unitB i) R.WEB_LOAD_CTRL_AT (bits v 1 1)).setSource i { s.source i with load := armedLoad i v s }
      else s.p (unitB i) R.WEB_LOAD_CTRL_AT (bits v 1 1) := by
  have hunfold : webLoadApply i v s = if bits v 0 0 = 1 then
      (s.p (unitB i) R.WEB_LOAD_CTRL_AT (bits v 1 1)).setSource i { (s.p (unitB i) R.WEB_LOAD_CTRL_AT (bits v 1 1)).source i with
        load := some (stagedCoord i (s.p (unitB i) R.WEB_LOAD_CTRL_AT (bits v 1 1)), bits v 1 1 = 1) }
      else s.p (unitB i) R.WEB_LOAD_CTRL_AT (bits v 1 1) := by
    rw [webLoadApply, stagedCoord]
  have hat : decide (bits v 1 1 = 1) = v.getLsbD 1 := by simp only [bit_one, Bool.decide_eq_true]
  rw [hunfold, stagedCoord_p_at, source_p, hat]
  simp only [bit_one]
  split_ifs with hgo
  · rw [armedLoad, if_pos hgo]
  · rfl

theorem webLoadApply_keeps {β : Type} (f : State → β) (hp : ∀ s b x v, f (State.p s b x v) = f s)
    (hs : ∀ s i w, f (State.setSource s i w) = f s) (i : Nat) (v : Word) (s : State) : f (webLoadApply i v s) = f s := by
  rw [webLoadApply_eq]
  split_ifs
  · rw [hs, hp]
  · exact hp _ _ _ _

/-- The registers after the write are those with AT stored. -/
theorem webLoadApply_rd (i : Nat) (v : Word) (s : State) (x : Nat) :
    (webLoadApply i v s).rd x = (s.p (unitB i) R.WEB_LOAD_CTRL_AT (bits v 1 1)).rd x := by
  rw [webLoadApply_eq]
  split_ifs
  · exact rd_setSource ..
  · rfl

theorem webLoadApply_load (i : Nat) (v : Word) (s : State) : ((webLoadApply i v s).source i).load = armedLoad i v s := by
  rw [webLoadApply_eq]
  split_ifs with hgo
  · rw [source_setSource_same]
  · rw [source_p, armedLoad, if_neg hgo]

theorem webLoadApply_source_ne (i : Nat) (v : Word) (s : State) {j : Nat} (h : j ≠ i) : (webLoadApply i v s).source j = s.source j := by
  rw [webLoadApply_eq]
  split_ifs
  · rw [source_setSource_ne _ _ h, source_p]
  · exact source_p ..

/-! ### The write (R133) -/

theorem webLoadGo_lands : Lands .webLoadGo .web (fun o => 0x100 ≤ o && o < 0x200 && (o - 0x100) % 0x40 == 0x10) fun a r sa u =>
    webLoadApply (4 * (targetOf a.addr).die + ((targetOf a.addr).plain - 0x100) / 0x40) (u.offer a r sa) u :=
  landsR (fun _ _ => rfl) (by decide) fun a r sa u _ ho => by
    simp only [Bool.and_eq_true, decide_eq_true_eq, beq_iff_eq] at ho
    obtain ⟨⟨hlo, -⟩, hctrl⟩ := ho
    have hhdr : (targetOf a.addr).plain ≠ 4 ∧ (targetOf a.addr).plain ≠ 0xC ∧ (targetOf a.addr).plain ≠ 0x1C := by omega
    simp [State.writeReg, State.writeOne, State.offer, hlo, hctrl, hhdr]

/-- A permitted plain write of WEB_LOAD_CTRL of unit u ends with the effect of the rule. -/
theorem webLoadGo_next {s : State} {a : WAcc} {r : RegRow} {sa u : Nat} (h : Reaches s a .web r sa) (hu : u < 4)
    (ho : (targetOf a.addr).off = 0x110 + 0x40 * u) (ht : s.todo = []) :
    ∃ t, t = webLoadApply (4 * (targetOf a.addr).die + u) a.val (s.arrived a)
      ∧ exec (.webLoadGo a) s = .next (t.keeps (s.arrived a)) ∧ ∀ x, (t.keeps (s.arrived a)).rd x = t.rd x := by
  obtain ⟨hpl, hform⟩ := plain_off ho (by omega)
  have hunit : ((targetOf a.addr).plain - 0x100) / 0x40 = u := by omega
  have hctrl : ((targetOf a.addr).plain - 0x100) % 0x40 = 0x10 := by omega
  have hx := webLoadGo_lands s a r sa h (by simp [hctrl]; omega)
  simp only [offer_plain hform, hunit] at hx
  obtain ⟨hw, hrd⟩ := lands_next (s := s) (a := a) (f := webLoadApply (4 * (targetOf a.addr).die + u) a.val) ht fun t htodo _ =>
    ⟨(webLoadApply_keeps State.todo (by simp) (fun _ _ _ => rfl) ..).trans htodo, webLoadApply_keeps State.part (by simp) (fun _ _ _ => rfl) ..⟩
  rw [hw] at hx hrd
  exact ⟨_, rfl, hx, hrd⟩

/-- Settles O40: the write stores AT in the unit's WEB_LOAD_CTRL and, with GO, arms the load of the unit's source. -/
theorem webLoadIsArmedByGo : Obligations.WebLoadIsArmedByGo := by
  intro s a r sa u h hu ho ht
  obtain ⟨t, htx, hx, hrd⟩ := webLoadGo_next h hu ho ht
  obtain ⟨hpl, -⟩ := plain_off ho (by omega)
  have hbase := unitB_of_blk_web h.blk hu
  generalize hi : 4 * (targetOf a.addr).die + u = i at htx hbase ⊢
  have hsa : sa = unitB i + R.WEB_LOAD_CTRL_AT.off := by
    rw [place_addr (by decide) h.place, hpl, hbase]; simp only [R.WEB_LOAD_CTRL_AT]; omega
  rw [← hbase]
  refine ⟨_, hx, ?_, fun j hj => ?_, ?_, fun x hne => ?_, ?_⟩
  · calc (t.source i).load
        = armedLoad i a.val (s.arrived a) := by rw [htx, webLoadApply_load]
      _ = armedLoad i a.val s := by simp only [armedLoad, stagedCoord, arr_g, source_arrived]
  · calc t.source j
        = (s.arrived a).source j := by rw [htx, webLoadApply_source_ne _ _ _ hj]
      _ = s.source j := source_arrived ..
  · rw [hrd, htx, webLoadApply_rd, hsa, State.rd_p_same, putBits_getLsbD _ _ _ _ _ (by decide), if_pos (by decide)]
    exact (bits_testBit ..).trans (by simp [R.WEB_LOAD_CTRL_AT])
  · rw [hrd, htx, webLoadApply_rd, State.rd_p_ne _ _ _ (hsa ▸ hne), arr_rd]
  · rw [State.keeps_gens, htx, webLoadApply_keeps State.gens (by simp) (fun _ _ _ => rfl), State.arrived, State.tlps_gens]

end Sys2Proof.Proofs

/-!
The statement about the narrowing of a pixel's value: how a 20-bit value is rounded and limited, and that each plane of a colour format stands so in
its own bits of the pixel.
-/
namespace Sys2Proof.Proofs
open Sys2Proof Sys2Proof.Machine Sys2Proof.Laws

/-! ### A value in n bits (R188) -/

/-- Below 20 bits a value is rounded half up by a shift to the right, and limited to the largest value of n bits. -/
theorem toBits_of_lt (v : Nat) {n : Nat} (hn : n < 20) : toBits v n = min ((v + 2 ^ (19 - n)) >>> (20 - n)) (2 ^ n - 1) := by
  rw [toBits, if_pos hn, Nat.shiftRight_eq_div_pow]

/-- In 20 bits a value stays. -/
theorem toBits_twenty (v : Nat) : toBits v 20 = v := if_neg (Nat.lt_irrefl 20)

/-- The limit keeps a narrowed value within its n bits. -/
theorem toBits_lt (v : Nat) {n : Nat} (hn : n < 20) : toBits v n < 2 ^ n := by
  rw [toBits_of_lt v hn]
  exact (min_le_right ..).trans_lt (Nat.sub_lt (Nat.two_pow_pos n) Nat.one_pos)

/-! ### The planes of a colour pixel (R189) -/

/-- The codes of the colour formats, each with the bits of one of its planes: RGB8, RGB16 and RGB10X. -/
def IsColourCode (f n : Nat) : Prop := (f = 0x10 ∧ n = 8) ∨ (f = 0x11 ∧ n = 16) ∨ (f = 0x12 ∧ n = 10)

theorem IsColourCode.lt_twenty {f n : Nat} : IsColourCode f n → n < 20 := by
  unfold IsColourCode; omega

/-- A colour pixel holds its three planes, narrowed, as digits of base 2 ^ n from the first up. -/
theorem fmtPixel_colour {f n : Nat} (h : IsColourCode f n) (a b c : Nat) :
    fmtPixel f [a, b, c] = toBits a n + 2 ^ n * (toBits b n + 2 ^ n * toBits c n) := by
  obtain ⟨rfl, rfl⟩ | ⟨rfl, rfl⟩ | ⟨rfl, rfl⟩ := h
  all_goals
    simp only [fmtPixel, List.getD_cons_zero, List.getD_cons_succ, Nat.reduceEqDiff, if_true, if_false]
    ring

/-- The two lowest digits of a number in base m, and what stands above them. -/
theorem digits_of_three {m x y : Nat} (hx : x < m) (hy : y < m) (z : Nat) :
    (x + m * (y + m * z)) % m = x ∧ (x + m * (y + m * z)) / m % m = y ∧ (x + m * (y + m * z)) / m / m = z := by
  have digit {r : Nat} (hr : r < m) (q : Nat) : (r + m * q) / m = q := by
    rw [Nat.add_mul_div_left _ _ (by omega), Nat.div_eq_of_lt hr, Nat.zero_add]
  rw [digit hx, digit hy, Nat.add_mul_mod_self_left, Nat.add_mul_mod_self_left, Nat.mod_eq_of_lt hx, Nat.mod_eq_of_lt hy]
  exact ⟨rfl, rfl, rfl⟩

/-- Settles O32: the shift rounds, the minimum limits, and since the limit keeps every plane within its n bits, each is read back from its own bits. -/
theorem narrowingRoundsAndSaturates : Obligations.NarrowingRoundsAndSaturates := by
  refine ⟨fun v n _ hn => toBits_of_lt v hn, toBits_twenty, fun f n h a b c => ?_⟩
  have hn : n < 20 := IsColourCode.lt_twenty h
  rw [fmtPixel_colour h, two_mul, pow_add, ← Nat.div_div_eq_div_mul]
  exact digits_of_three (toBits_lt a hn) (toBits_lt b hn) (toBits c n)

end Sys2Proof.Proofs

/-!
The statement about the deadline of a splice group: what a write of SPL_GRP_DEADLINE stores, which event it records, and what it leaves alone.
-/
namespace Sys2Proof.Proofs
open Sys2Proof Sys2Proof.Machine Sys2Proof.Laws

/-! ### Where the registers of a splice group lie (R2, R28) -/

/-- A die has one SPL block, at slot 0xB (R28). -/
theorem slot_of_slotBlk_spl {slot : Nat} (h : slotBlk slot = some .spl) : slot = 0xB := by
  have hslots : ∀ t < 0x78, slotBlk t = some .spl → t = 0xB := by decide
  exact hslots slot (slotBlk_lt h) h

/-- A target in an SPL block is the block of its die. -/
theorem base_of_blk_spl {x : Nat} (h : (targetOf x).blk = some .spl) : (targetOf x).base = splB (targetOf x).die := by
  by_cases hx : x < 0x20000000
  · simp only [targetOf, if_pos hx] at h ⊢
    have hdie : x / 0x4000000 ≠ 8 := by omega
    rw [Target.base, if_neg hdie, slot_of_slotBlk_spl h, splB]
  · simp only [targetOf, if_neg hx] at h
    exact absurd (globalBlk_mem h) (by decide)

/-- Group g of a die is group 8 * die + g of the part. -/
theorem grpB_of_die (die : Nat) {g : Nat} (hg : g < 8) : grpB (8 * die + g) = splB die + 0x40 * g := by
  rw [grpB, Nat.mul_add_div (by decide), Nat.div_eq_of_lt hg, Nat.add_zero, Nat.mul_add_mod, Nat.mod_eq_of_lt hg]

/-- SPL_EVT lies below the registers of the groups. -/
theorem grp_deadline_ne_spl_evt (g : Nat) : grpB g + R.SPL_GRP_DEADLINE_DEADLINE.off ≠ splB (g / 8) + R.SPL_EVT_E.off := by
  simp only [grpB, R.SPL_GRP_DEADLINE_DEADLINE, R.SPL_EVT_E]; omega

/-! ### What a write of SPL_GRP_DEADLINE does (R219) -/

/-- A group's deadline takes the written value, or DEADMIN where that is greater. -/
def storeRaised (g : Nat) (v : Word) (s : State) : State :=
  s.p (grpB g) R.SPL_GRP_DEADLINE_DEADLINE (max (bits v 23 0) (s.g (grpB g) R.SPL_GRP_DEADMIN_DEADMIN))

/-- The raised value is stored in every case, and one that had to be raised is recorded. -/
theorem splDeadlineApply_eq (g : Nat) (v : Word) (s : State) : splDeadlineApply g v s
    = if bits v 23 0 < s.g (grpB g) R.SPL_GRP_DEADMIN_DEADMIN then (storeRaised g v s).splEvt (g / 8) g R.SPL_EVT_DEADLINE_RAISED
      else storeRaised g v s := by
  unfold splDeadlineApply storeRaised
  dsimp only
  split_ifs with hlow
  · rw [max_eq_right hlow.le]
  · rw [max_eq_left (not_lt.mp hlow)]

theorem splDeadlineApply_keeps {β : Type} (f : State → β) (hw : ∀ s a v, f (State.wr s a v) = f s) (hp : ∀ s b x v, f (State.p s b x v) = f s)
    (g : Nat) (v : Word) (s : State) : f (splDeadlineApply g v s) = f s := by
  rw [splDeadlineApply_eq]
  split_ifs
  · exact (hw _ _ _).trans (hp _ _ _ _)
  · exact hp _ _ _ _

/-- Beside SPL_EVT the registers after the write are those with the raised value stored. -/
theorem splDeadlineApply_rd (g : Nat) (v : Word) (s : State) {x : Nat} (he : x ≠ splB (g / 8) + R.SPL_EVT_E.off) :
    (splDeadlineApply g v s).rd x = (storeRaised g v s).rd x := by
  rw [splDeadlineApply_eq]
  split_ifs
  · exact State.rd_evt_ne _ _ _ _ he
  · rfl

/-- Written value and DEADMIN have the width of the deadline, so the greater of them is stored whole. -/
theorem splDeadlineApply_deadline (g : Nat) (v : Word) (s : State) : (splDeadlineApply g v s).g (grpB g) R.SPL_GRP_DEADLINE_DEADLINE
    = max (bits v 23 0) (s.g (grpB g) R.SPL_GRP_DEADMIN_DEADMIN) := by
  have hfits : max (bits v 23 0) (s.g (grpB g) R.SPL_GRP_DEADMIN_DEADMIN) < 2 ^ R.SPL_GRP_DEADLINE_DEADLINE.width :=
    max_lt (bits_lt ..) (bits_lt ..)
  rw [State.g, splDeadlineApply_rd _ _ _ (grp_deadline_ne_spl_evt g)]
  exact (State.g_p_same s (grpB g) R.SPL_GRP_DEADLINE_DEADLINE _ (by decide)).trans (Nat.mod_eq_of_lt hfits)

/-- The record depends on what SPL_EVT held alone, for the deadline lies elsewhere. -/
theorem splDeadlineApply_evt (g : Nat) (v : Word) {s t : State} (h : t.rd (splB (g / 8) + R.SPL_EVT_E.off) = s.rd (splB (g / 8) + R.SPL_EVT_E.off)) :
    (splDeadlineApply g v t).rd (splB (g / 8) + R.SPL_EVT_E.off)
      = if bits v 23 0 < t.g (grpB g) R.SPL_GRP_DEADMIN_DEADMIN then (s.splEvt (g / 8) g R.SPL_EVT_DEADLINE_RAISED).rd (splB (g / 8) + R.SPL_EVT_E.off)
        else s.rd (splB (g / 8) + R.SPL_EVT_E.off) := by
  have hstored : (storeRaised g v t).rd (splB (g / 8) + R.SPL_EVT_E.off) = s.rd (splB (g / 8) + R.SPL_EVT_E.off) :=
    (State.rd_p_ne _ _ _ (grp_deadline_ne_spl_evt g).symm).trans h
  rw [splDeadlineApply_eq]
  split_ifs
  · exact rd_evt_congr hstored _ _
  · exact hstored

/-! ### The write (R219) -/

theorem splDeadlineWrite_lands : Lands .splDeadlineWrite .spl (fun o => 0x100 ≤ o && o < 0x300 && (o - 0x100) % 0x40 == 0xC) fun a r sa u =>
    splDeadlineApply (8 * (targetOf a.addr).die + ((targetOf a.addr).plain - 0x100) / 0x40) (u.offer a r sa) u :=
  landsR (fun _ _ => rfl) (by decide) fun a r sa u _ ho => by
    simp only [Bool.and_eq_true, decide_eq_true_eq, beq_iff_eq] at ho
    obtain ⟨⟨hlo, hhi⟩, hdeadline⟩ := ho
    have hhdr : (targetOf a.addr).plain ≠ 4 ∧ (targetOf a.addr).plain ≠ 0xC ∧ (targetOf a.addr).plain ≠ 0x1C := by omega
    simp [State.writeReg, State.writeOne, State.offer, hlo, hhi, hdeadline, hhdr]

/-- A permitted plain write of SPL_GRP_DEADLINE of group g of a die ends with the effect of the rule. -/
theorem splDeadlineWrite_next {s : State} {a : WAcc} {r : RegRow} {sa g : Nat} (h : Reaches s a .spl r sa) (hg : g < 8)
    (ho : (targetOf a.addr).off = 0x10C + 0x40 * g) (ht : s.todo = []) :
    ∃ t, t = splDeadlineApply (8 * (targetOf a.addr).die + g) a.val (s.arrived a)
      ∧ exec (.splDeadlineWrite a) s = .next (t.keeps (s.arrived a)) ∧ ∀ x, (t.keeps (s.arrived a)).rd x = t.rd x := by
  obtain ⟨hpl, hform⟩ := plain_off ho (by omega)
  have hgroup : ((targetOf a.addr).plain - 0x100) / 0x40 = g := by omega
  have hdeadline : ((targetOf a.addr).plain - 0x100) % 0x40 = 0xC := by omega
  have hx := splDeadlineWrite_lands s a r sa h (by simp [hdeadline]; omega)
  simp only [offer_plain hform, hgroup] at hx
  obtain ⟨hw, hrd⟩ := lands_next (s := s) (a := a) (f := splDeadlineApply (8 * (targetOf a.addr).die + g) a.val) ht fun t htodo _ =>
    ⟨(splDeadlineApply_keeps State.todo (by simp) (by simp) ..).trans htodo, splDeadlineApply_keeps State.part (by simp) (by simp) ..⟩
  rw [hw] at hx hrd
  exact ⟨_, rfl, hx, hrd⟩

/-- Settles O34: the write stores the greater of its value and DEADMIN, and then records a value that it had to raise. -/
theorem spliceDeadlineIsRaisedToItsMinimum : Obligations.SpliceDeadlineIsRaisedToItsMinimum := by
  intro s a r sa g h hg ho ht
  obtain ⟨t, htx, hx, hrd⟩ := splDeadlineWrite_next h hg ho ht
  obtain ⟨hpl, -⟩ := plain_off ho (by omega)
  have hdie : (8 * (targetOf a.addr).die + g) / 8 = (targetOf a.addr).die := by omega
  have hgrp := grpB_of_die (targetOf a.addr).die hg
  have hsa : sa = grpB (8 * (targetOf a.addr).die + g) + R.SPL_GRP_DEADLINE_DEADLINE.off := by
    rw [place_addr (by decide) h.place, hpl, hgrp, base_of_blk_spl h.blk]; simp only [R.SPL_GRP_DEADLINE_DEADLINE]; omega
  rw [base_of_blk_spl h.blk, ← hgrp]
  generalize 8 * (targetOf a.addr).die + g = i at htx hdie hsa ⊢
  rw [← hdie]
  refine ⟨_, hx, ?_, ?_, fun x hne he => ?_, ?_⟩
  · rw [hrd, htx, hsa, ← arr_g s a]
    exact splDeadlineApply_deadline ..
  · rw [hrd, htx, splDeadlineApply_evt _ _ (arr_rd s a _), arr_g, State.splEvt]
  · calc (t.keeps (s.arrived a)).rd x
        = (storeRaised i a.val (s.arrived a)).rd x := by rw [hrd, htx, splDeadlineApply_rd _ _ _ he]
      _ = (s.arrived a).rd x := State.rd_p_ne _ _ _ (hsa ▸ hne)
      _ = s.rd x := arr_rd ..
  · rw [State.keeps_grps, htx, splDeadlineApply_keeps State.grps (by simp) (by simp), State.arrived, State.tlps_grps]

end Sys2Proof.Proofs

/-!
The statement about acknowledgements that acknowledge nothing new: what the part does with a word that it ignores, and what a write of CSM_ACK with
such a word leaves alone.
-/
namespace Sys2Proof.Proofs
open Sys2Proof Sys2Proof.Machine Sys2Proof.Laws

/-! ### Where CSM_EVT lies (R2, R28) -/

/-- A die has one CSM block, at slot 0xC (R28). -/
theorem slot_of_slotBlk_csm {slot : Nat} (h : slotBlk slot = some .csm) : slot = 0xC := by
  have hslots : ∀ t < 0x78, slotBlk t = some .csm → t = 0xC := by decide
  exact hslots slot (slotBlk_lt h) h

/-- A target in a CSM block is the block of its die. -/
theorem base_of_blk_csm {x : Nat} (h : (targetOf x).blk = some .csm) : (targetOf x).base = csmB (targetOf x).die := by
  by_cases hx : x < 0x20000000
  · simp only [targetOf, if_pos hx] at h ⊢
    have hdie : x / 0x4000000 ≠ 8 := by omega
    rw [Target.base, if_neg hdie, slot_of_slotBlk_csm h, csmB]
  · simp only [targetOf, if_neg hx] at h
    exact absurd (globalBlk_mem h) (by decide)

/-! ### What the part does with a word that it ignores (R242) -/

/-- How far a sequence lies ahead of another, modulo 2 ^ 20. -/
def seqAhead (seq other : Nat) : Nat := (seq + 2 ^ 20 - other) % 2 ^ 20

/-- The SEQ of a 32-bit acknowledgement word has 20 bits. -/
theorem ackSeq_mod (v : Word) : v.toNat / 4096 % 2 ^ 20 = v.toNat / 4096 := Nat.mod_eq_of_lt (by omega)

/-- An event of a context is one of its home die's CSM_EVT. -/
theorem csmEvt_of_ctxDie {s : State} {c d : Nat} (h : s.ctxDie c = d) (f : Fld) :
    s.csmEvt c f = s.evt (csmB d) R.CSM_EVT_E [f] [(R.CSM_EVT_CONS, c)] := by
  rw [State.csmEvt, h]

section
variable {s : State} {d acked done : Nat} {v : Word} (hbound : s.cbound (v.toNat % 4096) = true) (hdie : s.ctxDie (v.toNat % 4096) = d)
  (hacked : s.cg (v.toNat % 4096) R.CSM_CTX_ACKED_SEQ = acked) (hdone : s.cg (v.toNat % 4096) R.CSM_CTX_DONE_SEQ = done)
include hbound hdie hacked

/-- A duplicate is ignored and counted. -/
theorem csmAckApply_stale (hstale : seqAhead (v.toNat / 4096) acked = 0 ∨ 2 ^ 19 ≤ seqAhead (v.toNat / 4096) acked) :
    csmAckApply d v s = s.bump (csmCnt d 6) := by
  unfold seqAhead at hstale
  unfold csmAckApply State.ackWord
  simp only [hbound, hdie, hacked, ackSeq_mod]
  rw [if_neg (by simp), if_pos (by simpa using hstale)]

include hdone

/-- A word beyond the last completed sequence is ignored, counted and recorded. -/
theorem csmAckApply_early (hne : seqAhead (v.toNat / 4096) acked ≠ 0) (hnew : seqAhead (v.toNat / 4096) acked < 2 ^ 19)
    (hbeyond : seqAhead done acked < seqAhead (v.toNat / 4096) acked) :
    csmAckApply d v s = (s.bump (csmCnt d 5)).evt (csmB d) R.CSM_EVT_E [R.CSM_EVT_ACK_AHEAD] [(R.CSM_EVT_CONS, v.toNat % 4096)] := by
  rw [← csmEvt_of_ctxDie (s := s.bump (csmCnt d 5)) hdie]
  unfold seqAhead at hne hnew hbeyond
  unfold csmAckApply State.ackWord
  simp only [hbound, hdie, hacked, hdone, ackSeq_mod]
  rw [if_neg (by simp), if_neg (by simpa using ⟨hne, hnew⟩), if_pos hbeyond]

end

/-! ### The write (R242) -/

theorem csmAckWrite_lands : Lands .csmAckWrite .csm (· == 0x44) fun a r sa u => csmAckApply (targetOf a.addr).die (u.offer a r sa) u :=
  landsR (fun _ _ => rfl) (by decide) fun a r sa u _ ho => by
    have hpl : (targetOf a.addr).plain = 0x44 := by simpa using ho
    simp [State.writeReg, State.writeOne, State.offer, hpl]

/-- A permitted plain write of CSM_ACK ends with the effect of the rule, where that calls for no fault reaction. -/
theorem csmAckWrite_next {s t : State} {a : WAcc} {r : RegRow} {sa : Nat} (h : Reaches s a .csm r sa) (ho : (targetOf a.addr).off = 0x44)
    (ht : csmAckApply (targetOf a.addr).die a.val (s.arrived a) = t) (hpart : t.part = s.part) (htodo : t.todo = []) :
    exec (.csmAckWrite a) s = .next (t.keeps (s.arrived a)) ∧ ∀ x, (t.keeps (s.arrived a)).rd x = t.rd x := by
  obtain ⟨hpl, hform⟩ := plain_off ho (by decide)
  have hx := csmAckWrite_lands s a r sa h (by simp [hpl])
  simp only [offer_plain hform] at hx
  subst ht
  have hw := written_nil (f := csmAckApply (targetOf a.addr).die a.val) htodo
  exact ⟨hx.trans (congrArg _ hw), fun x => hw ▸ written_rd hpart htodo x⟩

/-- The count of the request changes no context. -/
theorem arr_cg (s : State) (a : WAcc) (c : Nat) (f : Fld) : (s.arrived a).cg c f = s.cg c f := arr_g ..

theorem arr_cbound (s : State) (a : WAcc) (c : Nat) : (s.arrived a).cbound c = s.cbound c :=
  live_keep s a (fun u => u.cbound c) fun _ _ => rfl

theorem arr_ctxDie (s : State) (a : WAcc) (c : Nat) : (s.arrived a).ctxDie c = s.ctxDie c := by
  simp only [State.ctxDie, arr_cg]

/-- Settles O35: a word that is ignored is one count, and one that is early is one set event of CSM_EVT besides. -/
theorem staleOrEarlyAcknowledgementsAdvanceNothing : Obligations.StaleOrEarlyAcknowledgementsAdvanceNothing := by
  intro s a r sa h ho ht hb hd
  have hbound : (s.arrived a).cbound (a.val.toNat % 4096) = true := (arr_cbound ..).trans hb
  have hdie : (s.arrived a).ctxDie (a.val.toNat % 4096) = (targetOf a.addr).die := (arr_ctxDie ..).trans hd
  refine ⟨fun hstale => ?_, fun hne hnew hbeyond => ?_⟩
  · have hcount := csmAckApply_stale hbound hdie (arr_cg ..) hstale
    obtain ⟨hx, hrd⟩ := csmAckWrite_next h ho hcount (by simp [State.arrived]) (by simp [State.arrived, ht])
    exact ⟨_, hx, by simp [State.arrived], fun x => by rw [hrd, State.rd_bump, arr_rd]⟩
  · have hrecord := csmAckApply_early hbound hdie (arr_cg ..) (arr_cg ..) hne hnew hbeyond
    obtain ⟨hx, hrd⟩ := csmAckWrite_next h ho hrecord (by simp [State.arrived]) (by simp [State.arrived, ht])
    have hkept (x : Nat) : ((s.arrived a).bump (csmCnt (targetOf a.addr).die 5)).rd x = s.rd x := (State.rd_bump ..).trans (arr_rd ..)
    rw [base_of_blk_csm h.blk, csmEvt_of_ctxDie hd]
    refine ⟨_, hx, by simp [State.arrived], ?_, fun x hevt => ?_⟩
    · rw [hrd, rd_evt_congr (hkept _)]
    · rw [hrd, State.rd_evt_ne _ _ _ _ hevt, hkept]

end Sys2Proof.Proofs

/-!
The statement about DMA doorbells: which producer index a doorbell takes, where it stands then, and what the descriptor read that may follow leaves
alone.
-/
namespace Sys2Proof.Proofs
open Sys2Proof Sys2Proof.Machine Sys2Proof.Laws

/-! ### Where the registers of a DMA block and of its rings lie (R2, R28) -/

/-- A target in a block of a kind that is not package-global is the block that R28 assigns to its slot of one of the dies. -/
theorem target_of_die_blk {x : Nat} {b : Blk} (hb : b ∉ [Blk.knb, .prt, .fltp, .mbx]) (h : (targetOf x).blk = some b) :
    (targetOf x).die < 8 ∧ slotBlk (targetOf x).slot = some b ∧ (targetOf x).base = blkAddr (targetOf x).die (targetOf x).slot := by
  by_cases hx : x < 0x20000000
  · simp only [targetOf, if_pos hx] at h ⊢
    have hdie : x / 0x4000000 < 8 := by omega
    exact ⟨hdie, h, if_neg hdie.ne⟩
  · simp only [targetOf, if_neg hx] at h
    exact absurd (globalBlk_mem h) hb

/-- A die has one DMA block, at slot 0xE (R28). -/
theorem slot_of_slotBlk_dma {slot : Nat} (h : slotBlk slot = some .dma) : slot = 0xE := by
  have hslots : ∀ t < 0x78, slotBlk t = some .dma → t = 0xE := by decide
  exact hslots slot (slotBlk_lt h) h

/-- A target in a DMA block is the block of its die. -/
theorem base_of_blk_dma {x : Nat} (h : (targetOf x).blk = some .dma) : (targetOf x).die < 8 ∧ (targetOf x).base = dmaB (targetOf x).die := by
  obtain ⟨hdie, hslot, hbase⟩ := target_of_die_blk (by decide) h
  rw [slot_of_slotBlk_dma hslot] at hbase
  exact ⟨hdie, hbase⟩

/-- The storage of the rings lies above the blocks of every die. -/
theorem ring_ne_blk {d t o : Nat} (hd : d < 8) (ht : t < 0x400) (ho : o < 0x10000) (d' r o' : Nat) : ringBase d' r + o' ≠ blkAddr d t + o := by
  simp only [ringBase, blkAddr]; omega

theorem ring_ne_dma {d o : Nat} (hd : d < 8) (ho : o < 0x10000) (d' r o' : Nat) : ringBase d' r + o' ≠ dmaB d + o :=
  ring_ne_blk hd (by decide) ho d' r o'

/-- The doorbells of a DMA block lie below the block of the port, which follows it. -/
theorem pci_ne_doorbell (d o : Nat) {r : Nat} (hr : r < 1024) : pciB d + o ≠ dmaB d + 4 * r + R.DMA_DB_PI.off := by
  simp only [pciB, dmaB, blkAddr, R.DMA_DB_PI]; omega

/-! ### A descriptor read (R257, R261, R270) -/

/-- What a descriptor read of die d, put out or waiting for a tracker entry, keeps: it shows in DMA_TRK and DMA_EVT alone, and has to do with
no record and no context. -/
structure ReadKeeps (d : Nat) (s t : State) : Prop where
  part : t.part = s.part
  todo : t.todo = s.todo
  recs : t.recs = s.recs
  ctxs : t.ctxs = s.ctxs
  regs : ∀ x, x ≠ dmaB d + R.DMA_TRK_USED.off → x ≠ dmaB d + R.DMA_EVT_E.off → t.rd x = s.rd x

theorem ReadKeeps.refl (d : Nat) (s : State) : ReadKeeps d s s := ⟨rfl, rfl, rfl, rfl, fun _ _ _ => rfl⟩

theorem ReadKeeps.trans {d : Nat} {s t u : State} (h : ReadKeeps d s t) (h' : ReadKeeps d t u) : ReadKeeps d s u where
  part := h'.part.trans h.part
  todo := h'.todo.trans h.todo
  recs := h'.recs.trans h.recs
  ctxs := h'.ctxs.trans h.ctxs
  regs x htrk hevt := (h'.regs x htrk hevt).trans (h.regs x htrk hevt)

/-- USED and MAX are fields of one register. -/
theorem syncTrk_readKeeps (d : Nat) (s : State) : ReadKeeps d s (s.syncTrk d) where
  part := ps_keep State.part State.p_part ..
  todo := ps_keep State.todo State.p_todo ..
  recs := ps_keep State.recs State.p_recs ..
  ctxs := ps_keep State.ctxs State.p_ctxs ..
  regs _ htrk _ := (State.rd_p_ne _ R.DMA_TRK_MAX _ htrk).trans (State.rd_p_ne _ R.DMA_TRK_USED _ htrk)

/-- The request of a ring for descriptors is put out and counted as a packet of the port. -/
theorem readReq_readKeeps (d r a n : Nat) (f : Ring → Ring) (s : State) : ReadKeeps d s (((s.modRing d r f).readReq d a n).tlps d 1 0) where
  part := State.tlps_part ..
  todo := State.tlps_todo ..
  recs := State.tlps_recs ..
  ctxs := State.tlps_ctxs ..
  regs _ _ _ := State.rd_tlps ..

/-- An event of the DMA block, as of a request that finds no tracker entry. -/
theorem dmaEvt_readKeeps (d r : Nat) (f : Fld) (s : State) : ReadKeeps d s (s.dmaEvt d r f) where
  part := State.evt_part ..
  todo := State.evt_todo ..
  recs := State.evt_recs ..
  ctxs := State.evt_ctxs ..
  regs _ _ hevt := State.rd_evt_ne _ _ _ _ hevt

/-- Such a request takes its place among those that wait. -/
theorem trkWait_readKeeps (d : Nat) (l : Tbl (List Nat)) (s : State) : ReadKeeps d s { s with trkWait := l } :=
  ⟨rfl, rfl, rfl, rfl, fun _ _ _ => rfl⟩

theorem pumpRing_readKeeps (d r : Nat) (s : State) : ReadKeeps d s (s.pumpRing d r) := by
  unfold State.pumpRing
  dsimp only
  split_ifs
  · exact .refl d s
  · exact (dmaEvt_readKeeps ..).trans (trkWait_readKeeps ..)
  · exact (readReq_readKeeps ..).trans (syncTrk_readKeeps ..)

theorem pumpRing_of_not_canFetch {d r : Nat} {s : State} (h : s.canFetch d r = false) : s.pumpRing d r = s := by
  simp [State.pumpRing, h]

/-- The descriptor read that may follow a doorbell: of the descriptor that read with OWN clear, or else the next one. -/
def fetchPosted (d r : Nat) (s : State) : State := if (s.ring d r).waits then s.rereadDesc d r else s.pumpRing d r

theorem rereadDesc_readKeeps (d r : Nat) (s : State) : ReadKeeps d s (s.rereadDesc d r) := by
  have hnoted : ReadKeeps d s ((s.modRing d r fun x => { x with waits := false }).bump (dmaCnt d 4)) := ⟨rfl, rfl, rfl, rfl, fun _ _ _ => rfl⟩
  unfold State.rereadDesc
  split_ifs
  · exact hnoted.trans (pumpRing_readKeeps ..)
  · exact .refl d s

theorem fetchPosted_readKeeps (d r : Nat) (s : State) : ReadKeeps d s (fetchPosted d r s) := by
  unfold fetchPosted
  split_ifs
  · exact rereadDesc_readKeeps ..
  · exact pumpRing_readKeeps ..

/-- A ring that may not fetch begins no read. -/
theorem fetchPosted_of_not_canFetch {d r : Nat} {s : State} (h : s.canFetch d r = false) : fetchPosted d r s = s := by
  unfold fetchPosted
  split_ifs
  · simp [State.rereadDesc, h]
  · exact pumpRing_of_not_canFetch h

/-! ### A producer index is posted (R260) -/

section
variable {d r pi : Nat} {s : State}

theorem postPI_keeps {β : Type} (f : State → β) (hp : ∀ s b x v, f (State.p s b x v) = f s) : f (s.postPI d r pi) = f s :=
  (hp _ _ _ _).trans (hp _ _ _ _)

/-- The ring's index and its doorbell are the registers that a posted index changes. -/
theorem postPI_rd_ne {x : Nat} (hidx : x ≠ ringBase d r + R.DMA_RING_IDX_PI.off) (hdb : x ≠ dmaB d + 4 * r + R.DMA_DB_PI.off) :
    (s.postPI d r pi).rd x = s.rd x := by
  rw [State.postPI, State.rd_p_ne _ _ _ hdb, State.rd_p_ne _ _ _ hidx]

theorem postPI_g_ne {b : Nat} {f : Fld} (hidx : b + f.off ≠ ringBase d r + R.DMA_RING_IDX_PI.off)
    (hdb : b + f.off ≠ dmaB d + 4 * r + R.DMA_DB_PI.off) : (s.postPI d r pi).g b f = s.g b f := by
  rw [State.g, postPI_rd_ne hidx hdb, State.g]

theorem postPI_doorbell (hpi : pi < 2 ^ 16) : (s.postPI d r pi).g (dmaB d + 4 * r) R.DMA_DB_PI = pi :=
  (State.g_p_same _ _ R.DMA_DB_PI _ (by decide)).trans (Nat.mod_eq_of_lt hpi)

variable (hd : d < 8)
include hd

/-- The registers of the DMA block below its doorbells stay. -/
theorem postPI_rd_block {o : Nat} (ho : o < 0x1000) : (s.postPI d r pi).rd (dmaB d + o) = s.rd (dmaB d + o) :=
  postPI_rd_ne (ring_ne_dma hd (by omega) _ _ _).symm (by simp only [R.DMA_DB_PI]; omega)

variable (hr : r < 1024)
include hr

theorem ring_ne_doorbell (o : Nat) : ringBase d r + o ≠ dmaB d + 4 * r + R.DMA_DB_PI.off := by
  have hblock : 4 * r + R.DMA_DB_PI.off < 0x10000 := by simp only [R.DMA_DB_PI]; omega
  rw [Nat.add_assoc]
  exact ring_ne_dma hd hblock d r o

theorem postPI_pi (hpi : pi < 2 ^ 16) : (s.postPI d r pi).rg d r R.DMA_RING_IDX_PI = pi := by
  rw [State.rg, State.postPI, State.g_p_ne _ _ _ (ring_ne_doorbell hd hr _)]
  exact (State.g_p_same _ _ R.DMA_RING_IDX_PI _ (by decide)).trans (Nat.mod_eq_of_lt hpi)

/-- PI and CI are fields of one register. -/
theorem postPI_ci : (s.postPI d r pi).rg d r R.DMA_RING_IDX_CI = s.rg d r R.DMA_RING_IDX_CI := by
  rw [State.rg, State.postPI, State.g_p_ne _ _ _ (ring_ne_doorbell hd hr _), State.g_p_other _ _ _ (by decide), State.rg]

/-- Whether a ring may fetch does not depend on what it has posted. -/
theorem postPI_canFetch : (s.postPI d r pi).canFetch d r = s.canFetch d r := by
  have hstat : (s.postPI d r pi).ringSt d r = s.ringSt d r :=
    postPI_g_ne (by simp [R.DMA_RING_STAT_STATE, R.DMA_RING_IDX_PI]) (ring_ne_doorbell hd hr _)
  have hport {f : Fld} (hf : f.off < 0x10000) : (s.postPI d r pi).g (pciB d) f = s.g (pciB d) f :=
    postPI_g_ne (ring_ne_blk hd (by decide) hf d r _).symm (pci_ne_doorbell d _ hr)
  rw [State.canFetch, State.busUp, State.gb, State.gb, hstat, hport (by decide), hport (by decide)]
  rfl

end

/-! ### What a doorbell does (R260) -/

/-- A doorbell is refused for a ring that is not configured, and for an index beyond what its ring holds. -/
theorem doorbellBad_iff {s : State} {d r pi : Nat} : s.doorbellBad d r pi = true ↔ s.ringSt d r = 0
    ∨ s.ringN d r < (pi + 65536 - s.rg d r R.DMA_RING_IDX_CI) % 65536 ∨ s.ringN d r < (pi + 65536 - s.rg d r R.DMA_RING_IDX_PI) % 65536 := by
  simp [State.doorbellBad, or_assoc]

/-- The event of a refused doorbell, or the index posted and the descriptor read that follows. -/
theorem doorbellApply_eq (d r : Nat) (v : Word) (s : State) : doorbellApply d r v s
    = if s.doorbellBad d r (bits v 15 0) then s.dmaEvt d r R.DMA_EVT_DB_BAD else fetchPosted d r (s.postPI d r (bits v 15 0)) := rfl

/-! ### The write (R260) -/

theorem dmaDoorbell_lands : Lands .dmaDoorbell .dma (fun o => 0x1000 ≤ o && o < 0x2000) fun a r sa u =>
    doorbellApply (targetOf a.addr).die (((targetOf a.addr).plain - 0x1000) / 4) (u.offer a r sa) u :=
  landsR (fun _ _ => rfl) (by decide) fun a r sa u _ ho => by
    simp only [Bool.and_eq_true, decide_eq_true_eq] at ho
    obtain ⟨hlo, -⟩ := ho
    have hhdr : (targetOf a.addr).plain ≠ 4 ∧ (targetOf a.addr).plain ≠ 0xC ∧ (targetOf a.addr).plain ≠ 0x1C ∧ (targetOf a.addr).plain ≠ 0x128 := by
      omega
    simp [State.writeReg, State.writeOne, State.offer, hlo, hhdr]

/-- A permitted plain write of DMA_DB[k] ends with the effect of the rule, where that calls for no fault reaction. -/
theorem dmaDoorbell_next {s t : State} {a : WAcc} {r : RegRow} {sa k : Nat} (h : Reaches s a .dma r sa) (hk : k < 1024)
    (ho : (targetOf a.addr).off = 0x1000 + 4 * k) (ht : doorbellApply (targetOf a.addr).die k a.val (s.arrived a) = t) (hpart : t.part = s.part)
    (htodo : t.todo = []) : exec (.dmaDoorbell a) s = .next (t.keeps (s.arrived a)) ∧ ∀ x, (t.keeps (s.arrived a)).rd x = t.rd x := by
  obtain ⟨hpl, hform⟩ := plain_off ho (by omega)
  have hring : ((targetOf a.addr).plain - 0x1000) / 4 = k := by omega
  have hx := dmaDoorbell_lands s a r sa h (by simp [hpl]; omega)
  simp only [offer_plain hform, hring] at hx
  subst ht
  have hw := written_nil (f := doorbellApply (targetOf a.addr).die k a.val) htodo
  exact ⟨hx.trans (congrArg _ hw), fun x => hw ▸ written_rd hpart htodo x⟩

/-- The count of the request changes nothing that decides about a doorbell. -/
theorem arr_rg (s : State) (a : WAcc) (d r : Nat) (f : Fld) : (s.arrived a).rg d r f = s.rg d r f := arr_g ..

theorem arr_doorbellBad (s : State) (a : WAcc) (d r pi : Nat) : (s.arrived a).doorbellBad d r pi = s.doorbellBad d r pi :=
  live_keep s a (fun u => u.doorbellBad d r pi) fun _ _ => rfl

theorem arr_canFetch (s : State) (a : WAcc) (d r : Nat) : (s.arrived a).canFetch d r = s.canFetch d r :=
  live_keep s a (fun u => u.canFetch d r) fun _ _ => rfl

/-- A refused doorbell is one set event. -/
theorem dmaDoorbell_refused {s : State} {a : WAcc} {r : RegRow} {sa k : Nat} (h : Reaches s a .dma r sa) (hk : k < 1024)
    (ho : (targetOf a.addr).off = 0x1000 + 4 * k) (ht : s.todo = []) (hbad : s.doorbellBad (targetOf a.addr).die k (bits a.val 15 0) = true) :
    ∃ u, u = (s.arrived a).dmaEvt (targetOf a.addr).die k R.DMA_EVT_DB_BAD
      ∧ exec (.dmaDoorbell a) s = .next (u.keeps (s.arrived a)) ∧ ∀ x, (u.keeps (s.arrived a)).rd x = u.rd x := by
  have heff := doorbellApply_eq (targetOf a.addr).die k a.val (s.arrived a)
  rw [arr_doorbellBad, if_pos hbad] at heff
  have hevt := dmaEvt_readKeeps (targetOf a.addr).die k R.DMA_EVT_DB_BAD (s.arrived a)
  refine ⟨_, rfl, dmaDoorbell_next h hk ho heff (hevt.part.trans ?_) (hevt.todo.trans ?_)⟩
  · rw [State.arrived, State.tlps_part]
  · rw [State.arrived, State.tlps_todo, ht]

/-- A doorbell that is taken posts its index, and a descriptor read may follow. -/
theorem dmaDoorbell_taken {s : State} {a : WAcc} {r : RegRow} {sa k : Nat} (h : Reaches s a .dma r sa) (hk : k < 1024)
    (ho : (targetOf a.addr).off = 0x1000 + 4 * k) (ht : s.todo = []) (hgood : s.doorbellBad (targetOf a.addr).die k (bits a.val 15 0) = false) :
    ∃ p u, p = (s.arrived a).postPI (targetOf a.addr).die k (bits a.val 15 0) ∧ u = fetchPosted (targetOf a.addr).die k p
      ∧ exec (.dmaDoorbell a) s = .next (u.keeps (s.arrived a)) ∧ ∀ x, (u.keeps (s.arrived a)).rd x = u.rd x := by
  have heff := doorbellApply_eq (targetOf a.addr).die k a.val (s.arrived a)
  rw [arr_doorbellBad, hgood, if_neg Bool.false_ne_true] at heff
  have hread := fetchPosted_readKeeps (targetOf a.addr).die k ((s.arrived a).postPI (targetOf a.addr).die k (bits a.val 15 0))
  refine ⟨_, _, rfl, rfl, dmaDoorbell_next h hk ho heff (hread.part.trans ?_) (hread.todo.trans ?_)⟩
  · rw [postPI_keeps State.part State.p_part, State.arrived, State.tlps_part]
  · rw [postPI_keeps State.todo State.p_todo, State.arrived, State.tlps_todo, ht]

/-- Settles O36: a doorbell that fails a test is one set event; one that passes posts its index, and the read that may follow shows in DMA_TRK
and DMA_EVT alone. -/
theorem dmaDoorbellTakesOnlyAFittingIndex : Obligations.DmaDoorbellTakesOnlyAFittingIndex := by
  intro s a r sa k h hk ho ht
  obtain ⟨hd, hbase⟩ := base_of_blk_dma h.blk
  refine ⟨fun hbad => ?_, fun hconf hci hpi => ?_⟩
  · obtain ⟨u, hu, hx, hrd⟩ := dmaDoorbell_refused h hk ho ht (doorbellBad_iff.mpr hbad)
    rw [hbase]
    refine ⟨_, hx, ?_, fun x hevt => ?_, ?_⟩
    · rw [hrd, hu]
      exact rd_evt_congr (arr_rd ..) _ _
    · rw [hrd, hu]
      exact (State.rd_evt_ne _ _ _ _ hevt).trans (arr_rd ..)
    · rw [State.keeps_rings, hu, State.dmaEvt, State.evt_rings, State.arrived, State.tlps_rings]
  · have hgood : s.doorbellBad (targetOf a.addr).die k (bits a.val 15 0) = false := by
      rw [← Bool.not_eq_true, doorbellBad_iff]
      omega
    obtain ⟨p, u, hp, hu, hx, hrd⟩ := dmaDoorbell_taken h hk ho ht hgood
    generalize (targetOf a.addr).die = d at *
    have hread : ReadKeeps d p u := hu ▸ fetchPosted_readKeeps d k p
    have hpi16 : bits a.val 15 0 < 2 ^ 16 := bits_lt ..
    have hring {f : Fld} : (u.keeps (s.arrived a)).rg d k f = p.rg d k f := by
      rw [State.rg, State.g, hrd, hread.regs _ (ring_ne_dma hd (by decide) _ _ _) (ring_ne_dma hd (by decide) _ _ _)]
      rfl
    refine ⟨_, hx, ?_, ?_, ?_, fun x hidx hdb htrk hevt => ?_, fun hidle => ?_, ?_, ?_⟩
    · rw [hring, hp, postPI_pi hd hk hpi16]
    · rw [hring, hp, postPI_ci hd hk, arr_rg]
    · rw [State.g, hrd, hread.regs _ (by simp only [R.DMA_DB_PI, R.DMA_TRK_USED]; omega) (by simp only [R.DMA_DB_PI, R.DMA_EVT_E]; omega), hp]
      exact postPI_doorbell hpi16
    · rw [hrd, hread.regs x htrk hevt, hp, postPI_rd_ne hidx hdb, arr_rd]
    · have hup : u = p := hu.trans (fetchPosted_of_not_canFetch (by rw [hp, postPI_canFetch hd hk, arr_canFetch, hidle]))
      have hkept {o : Nat} (ho : o < 0x1000) : (u.keeps (s.arrived a)).rd (dmaB d + o) = s.rd (dmaB d + o) := by
        rw [hrd, hup, hp, postPI_rd_block hd ho, arr_rd]
      refine ⟨?_, ?_, hkept (by decide), hkept (by decide)⟩
      · rw [State.keeps_rings, hup, hp, postPI_keeps State.rings State.p_rings, State.arrived, State.tlps_rings]
      · rw [State.keeps_out, hup, hp, postPI_keeps State.out State.p_out, State.arrived, State.tlps_out]
    · rw [State.keeps_recs, hread.recs, hp, postPI_keeps State.recs State.p_recs, State.arrived, State.tlps_recs]
    · rw [State.keeps_ctxs, hread.ctxs, hp, postPI_keeps State.ctxs State.p_ctxs, State.arrived, State.tlps_ctxs]

end Sys2Proof.Proofs

/-!
The statements about received frames, Coil messages and the time counter: what a MAC does with a frame that is no message, what a volume's engine
does with a message that answers nothing, and how a change of INC takes effect.
-/
namespace Sys2Proof.Proofs
open Sys2Proof Sys2Proof.Machine Sys2Proof.Laws

/-! ### Events that call for no fault reaction (R316) -/

/-- An event that puts no fault reaction in hand ends as its effect left it. -/
theorem reacted_quiet {s : State} {f : State → State} (h : (f s).todo = []) : s.reacted f = (f s).keeps s := by
  rw [State.reacted, State.settle_nil _ h]

/-- An event that only counts ends with its counts. -/
theorem reacted_counts {s u : State} {f : State → State} {L : Tbl Nat} (hf : f s = u) (hu : u = { s with live := L }) (ht : s.todo = []) :
    s.reacted f = u := by
  subst hf
  rw [reacted_quiet (by rw [hu]; exact ht), hu]
  rfl

/-! ### Discarded frames (R274) -/

/-- A MAC whose link is down receives nothing (log entry 6). -/
theorem ethDiscardF_down {s : State} {d m : Nat} (h : s.ethUp d m = false) : ethDiscardF d m s = s := by
  simp [ethDiscardF, h]

theorem ethDiscardF_up {s : State} {d m : Nat} (h : s.ethUp d m = true) :
    ethDiscardF d m s = (s.bump (ethCnt d m 1)).bump (ethCnt d m 13) := by
  simp [ethDiscardF, h]

theorem ethFrameRxDiscard_happens (d m : Nat) : Happens (.ethFrameRxDiscard d m) d (m < 8) (ethDiscardF d m) := happens fun _ => rfl

/-- Settles O37: the discard is its two counts, or nothing where the link is down. -/
theorem discardedFramesAreOnlyCounted : Obligations.DiscardedFramesAreOnlyCounted := by
  intro s d m hd hm ht
  rw [ethFrameRxDiscard_happens d m s hd (by simpa using hm)]
  refine ⟨fun hup => congrArg _ ?_, fun hdown => congrArg _ ?_⟩
  · exact reacted_counts (ethDiscardF_up hup) rfl ht
  · exact reacted_counts (ethDiscardF_down hdown) rfl ht

/-! ### Messages to a volume's engine (R302) -/

section
variable {s : State} {v : Nat} {r : CoilRx}

theorem coilTake_down (h : s.ethUp r.die r.mac = false) (f : State → State) : s.coilTake v r f = s := by
  simp [State.coilTake, h]

/-- A wrong UDP checksum makes a message a frame to discard (R274). -/
theorem coilTake_sumBad (hup : s.ethUp r.die r.mac = true) (hsum : s.coilSumBad v r = true) (f : State → State) :
    s.coilTake v r f = (s.bump (ethCnt r.die r.mac 1)).bump (ethCnt r.die r.mac 13) := by
  rw [State.coilTake, if_neg (by simp [hup]), if_pos hsum, ethDiscardF_up hup]

/-- The frame of another message counts; what its header does not name ignores it. Counting the frame changes neither the volume nor what its target's
registers say the header has to hold. -/
theorem coilTake_bound (hup : s.ethUp r.die r.mac = true) (hsum : s.coilSumBad v r = false) (hbound : (s.vol v).bound.isSome = true)
    (f : State → State) : s.coilTake v r f
      = if s.coilNames v r then f (s.bump (ethCnt r.die r.mac 1)) else (s.bump (ethCnt r.die r.mac 1)).volCnt v 8 := by
  have hnone : ¬ (((s.bump (ethCnt r.die r.mac 1)).vol v).bound.isNone = true) := by
    rw [show (s.bump (ethCnt r.die r.mac 1)).vol v = s.vol v from rfl]
    simpa [Option.isSome_iff_ne_none] using hbound
  rw [State.coilTake, if_neg (by simp [hup]), if_neg (by simp [hsum])]
  exact if_neg hnone

/-! ### Responses (R306, R308) -/

/-- A write response whose XID is that of no current shard write is ignored and counted. -/
theorem writeRsp_unmatched {t xid : Nat} (status : Nat)
    (h : ∀ y ∈ (s.vol v).stripes, ∀ g ∈ y.shards, ¬(g.tgt = t ∧ g.xid = xid ∧ g.st ≠ .absent)) :
    s.writeRsp v t xid status = s.volCnt v 8 := by
  have hmiss : (s.vol v).stripes.find? (fun y => y.shards.any fun g => g.tgt == t && g.xid == xid && g.st != .absent) = none := by
    rw [List.find?_eq_none]
    intro y hy hany
    obtain ⟨g, hg, hhit⟩ := List.any_eq_true.mp hany
    simp only [Bool.and_eq_true, beq_iff_eq, bne_iff_ne] at hhit
    obtain ⟨⟨htgt, hxid⟩, hst⟩ := hhit
    exact h y hy g hg ⟨htgt, hxid, hst⟩
  unfold State.writeRsp
  dsimp only
  rw [hmiss]

/-- A message that the header check refuses (log entry 234), and a write response that answers no shard write, are the count of the frame and that of
the engine. -/
theorem coilResponseRxF_ignored (hup : s.ethUp r.die r.mac = true) (hsum : s.coilSumBad v r = false) (hbound : (s.vol v).bound.isSome = true)
    (hno : s.coilNames v r = false ∨ (leAt r.udp.bytes 3 1 = 2 ∧ ∀ y ∈ (s.vol v).stripes, ∀ g ∈ y.shards,
      ¬(g.tgt = r.tgt ∧ g.xid = leAt r.udp.bytes 12 4 ∧ g.st ≠ .absent))) :
    coilResponseRxF v r s = (s.bump (ethCnt r.die r.mac 1)).volCnt v 8 := by
  rw [coilResponseRxF, coilTake_bound hup hsum hbound]
  cases hnames : s.coilNames v r with
  | false => exact if_neg Bool.false_ne_true
  | true =>
    obtain ⟨htype, hmiss⟩ := hno.resolve_left (by simp [hnames])
    simp only [if_true, htype, if_neg (show ¬ 2 = 6 by decide)]
    exact writeRsp_unmatched _ hmiss

end

theorem coilResponseRx_occurs (v : Nat) (r : CoilRx) : Occurs (.coilResponseRx v r) (v < 16) (coilResponseRxF v r) := occurs fun _ => rfl

/-- Settles O39: such a message is the counts of its frame, or nothing where the link is down. -/
theorem coilResponseForNoWriteIsOnlyCounted : Obligations.CoilResponseForNoWriteIsOnlyCounted := by
  intro s v r hv ht
  rw [coilResponseRx_occurs v r s (by simpa using hv)]
  refine ⟨fun hdown => congrArg _ ?_, fun hup hsum => congrArg _ ?_, fun hup hsum hbound hno => congrArg _ ?_⟩
  · exact reacted_counts (coilTake_down hdown _) rfl ht
  · exact reacted_counts (coilTake_sumBad hup hsum _) rfl ht
  · exact reacted_counts (coilResponseRxF_ignored hup hsum hbound hno) rfl ht

/-! ### One update for each element of a list -/

/-- What the update of each element of the list keeps is kept. -/
theorem each_keep_mem {α β γ : Type} (f : α → γ) {g : β → α → α} {l : List β} (hf : ∀ e ∈ l, ∀ a, f (g e a) = f a) (a : α) :
    f (each l g a) = f a := by
  induction l generalizing a with
  | nil => rfl
  | cons e l ih => exact (ih (fun x hx => hf x (List.mem_cons_of_mem _ hx)) _).trans (hf e List.mem_cons_self a)

/-- What every update preserves holds at the end where it held before. -/
theorem each_preserves {α β : Type} {P : α → Prop} {g : β → α → α} (hkeep : ∀ e a, P a → P (g e a)) (l : List β) (a : α) (ha : P a) :
    P (each l g a) := by
  induction l generalizing a with
  | nil => exact ha
  | cons e l ih => exact ih _ (hkeep e a ha)

/-- What the update of one element brings about, and that of no element undoes, holds at the end. -/
theorem each_establishes {α β : Type} {P : α → Prop} {g : β → α → α} {l : List β} {d : β} (hd : d ∈ l) (hset : ∀ a, P (g d a))
    (hkeep : ∀ e a, P a → P (g e a)) (a : α) : P (each l g a) := by
  obtain ⟨l₁, l₂, rfl⟩ := List.append_of_mem hd
  rw [each_append]
  exact each_preserves hkeep l₂ _ (hset _)

theorem mem_upDies {s : State} {d : Nat} : d ∈ s.upDies ↔ d < s.nd ∧ s.dieUp d = true := by
  simp [State.upDies]

/-! ### A new increment (R284, R285) -/

/-- A die's TIME_INC registers show an increment. -/
def showInc (v d : Nat) (s : State) : State := s.ps (timeI d) [(R.TIME_INC_LO_FRAC, v), (R.TIME_INC_HI_NS, v / 2 ^ 32)]

theorem setInc_eq (s : State) (v : Nat) : s.setInc v = each s.upDies (showInc v) { s with clock := { s.clock with inc := v } } := rfl

/-- The TIME_INC registers of one die are none of another's. -/
theorem timeI_ne {d e o o' : Nat} (h : e ≠ d) (ho : o < 0x1000000) (ho' : o' < 0x1000000) : timeI d + o ≠ timeI e + o' := by
  simp only [timeI, indBase]; omega

theorem showInc_rd_ne {v d x : Nat} (hlo : x ≠ timeI d + R.TIME_INC_LO_FRAC.off) (hhi : x ≠ timeI d + R.TIME_INC_HI_NS.off) (s : State) :
    (showInc v d s).rd x = s.rd x :=
  ps_rd_ne _ s _ x (by simpa using ⟨hlo, hhi⟩)

/-- TIME_INC_LO holds the fraction, the low 32 bits of the increment. -/
theorem showInc_lo (v d : Nat) (s : State) : (showInc v d s).g (timeI d) R.TIME_INC_LO_FRAC = v % 2 ^ 32 :=
  (State.g_p_ne _ _ _ (by simp [R.TIME_INC_LO_FRAC, R.TIME_INC_HI_NS])).trans (State.g_p_same s (timeI d) R.TIME_INC_LO_FRAC v (by decide))

theorem showInc_lo_ne {v d e : Nat} (h : e ≠ d) (s : State) :
    (showInc v e s).g (timeI d) R.TIME_INC_LO_FRAC = s.g (timeI d) R.TIME_INC_LO_FRAC := by
  rw [State.g, showInc_rd_ne (timeI_ne h (by decide) (by decide)) (timeI_ne h (by decide) (by decide)), State.g]

/-- A new increment changes the clock and registers alone. -/
theorem setInc_keeps {β : Type} (f : State → β) (hp : ∀ s b x v, f (State.p s b x v) = f s) (s : State) (v : Nat) :
    f (s.setInc v) = f { s with clock := { s.clock with inc := v } } := by
  rw [setInc_eq]
  exact each_keep f _ (fun d => ps_keep f hp (timeI d) _) _ _

theorem setInc_rd_ne {s : State} {v x : Nat}
    (h : ∀ d < s.nd, x ≠ timeI d + R.TIME_INC_LO_FRAC.off ∧ x ≠ timeI d + R.TIME_INC_HI_NS.off) : (s.setInc v).rd x = s.rd x := by
  rw [setInc_eq]
  refine each_keep_mem (fun u : State => u.rd x) (fun d hd u => ?_) _
  obtain ⟨hdie, -⟩ := mem_upDies.mp hd
  obtain ⟨hlo, hhi⟩ := h d hdie
  exact showInc_rd_ne hlo hhi u

theorem setInc_lo {s : State} {v d : Nat} (hd : d < s.nd) (hup : s.dieUp d = true) :
    (s.setInc v).g (timeI d) R.TIME_INC_LO_FRAC = v % 2 ^ 32 := by
  rw [setInc_eq]
  refine each_establishes (P := fun u : State => u.g (timeI d) R.TIME_INC_LO_FRAC = v % 2 ^ 32) (mem_upDies.mpr ⟨hd, hup⟩) (showInc_lo v d) ?_ _
  intro e u hu
  by_cases he : e = d
  · exact he ▸ showInc_lo v e u
  · exact (showInc_lo_ne he u).trans hu

/-! ### A change of INC on the sideband (R285) -/

/-- The oldest change leaves the sideband; a value of INC is then in force. -/
theorem timeChangeApplyF_inc {s : State} {v : Nat} {rest : List TimeChg} (h : s.clock.changes = .inc v :: rest) :
    timeChangeApplyF s = ({ s with clock := { s.clock with changes := rest } } : State).setInc v := by
  unfold timeChangeApplyF
  rw [h]

theorem timeChangeApply_occurs : Occurs .timeChangeApply true timeChangeApplyF := occurs fun _ => rfl

/-- Settles O38: the effect is the new increment, in the counter and in TIME_INC of the dies that run. -/
theorem timeIncrementChangesInItsTurn : Obligations.TimeIncrementChangesInItsTurn := by
  intro s v rest hchg ht
  obtain ⟨u, hu⟩ : ∃ u : State, u = { s with clock := { s.clock with changes := rest } } := ⟨_, rfl⟩
  have heff : timeChangeApplyF s = u.setInc v := hu ▸ timeChangeApplyF_inc hchg
  have hkept {β : Type} (f : State → β) (hp : ∀ s b x v, f (State.p s b x v) = f s) (hc : ∀ (s : State) c, f { s with clock := c } = f s) :
      f (u.setInc v) = f s := (setInc_keeps f hp u v).trans ((hc u _).trans (hu ▸ hc s _))
  have hx : exec .timeChangeApply s = .next ((u.setInc v).keeps s) := by
    rw [timeChangeApply_occurs s rfl, reacted_quiet, heff]
    rw [heff, hkept State.todo State.p_todo fun _ _ => rfl, ht]
  have hrd (x : Nat) : ((u.setInc v).keeps s).rd x = (u.setInc v).rd x := State.rd_keeps _ _ (hkept State.part State.p_part fun _ _ => rfl) x
  have hnd : u.nd = s.nd := by rw [hu]; rfl
  refine ⟨_, hx, ?_, fun d hd hup => ?_, fun x hne => ?_, ?_, ?_, ?_, ?_⟩
  · rw [State.keeps_clock, setInc_keeps State.clock State.p_clock, hu]
  · rw [State.g, hrd]
    exact setInc_lo (hnd ▸ hd) (by rw [hu]; exact hup)
  · rw [hrd, setInc_rd_ne (hnd ▸ hne), hu]
    rfl
  · exact hkept State.chans State.p_chans fun _ _ => rfl
  · exact hkept State.gens State.p_gens fun _ _ => rfl
  · exact hkept State.launches State.p_launches fun _ _ => rfl
  · exact hkept State.out State.p_out fun _ _ => rfl

end Sys2Proof.Proofs

/-!
The statements about fault sources: what an event of a source at severity LOG records.
-/
namespace Sys2Proof.Proofs
open Sys2Proof Sys2Proof.Machine Sys2Proof.Laws

/-! ### A count (R316) -/

theorem cnt_bump_same (s : State) (a n : Nat) : (s.bump a n).cnt a = s.cnt a + n := by
  simp [State.cnt, State.bump, tmod, tgetD]

theorem cnt_bump_ne (s : State) {a x : Nat} (n : Nat) (h : x ≠ a) : (s.bump a n).cnt x = s.cnt x := by
  simp [State.cnt, State.bump, tmod, tgetD, tget_tset_ne _ _ h]

/-! ### Where the registers of a source lie (R314) -/

theorem flt_below_src (d src inst : Nat) : fltB d + 0x80 < srcBase d src inst := by
  unfold fltB blkAddr srcBase
  omega

theorem fltp_below_src (d src inst : Nat) {o : Nat} (h : o < 0x10000) : fltpBase + o < srcBase d src inst := by
  unfold fltpBase srcBase
  omega

theorem srcStat_ne_srcInfo (b : Nat) : b + R.FLT_SRC_STAT_E.off ≠ b + R.FLT_SRC_INFO_INFO.off := by
  simp [R.FLT_SRC_STAT_E, R.FLT_SRC_INFO_INFO]

/-! ### The record of a source whose PEND is clear (R316, R318) -/

/-- The state in which the die and the source have counted an event. -/
def srcCounted (d src inst : Nat) (s : State) : State := (s.bump (fltB d + 0x80)).bump (srcBase d src inst + R.FLT_SRC_CNT_COUNT.off)

section
variable {s : State} {d src inst : Nat} (info : Nat)

theorem srcCounted_src : (srcCounted d src inst s).cnt (srcBase d src inst + R.FLT_SRC_CNT_COUNT.off)
    = s.cnt (srcBase d src inst + R.FLT_SRC_CNT_COUNT.off) + 1 := by
  have hbelow := flt_below_src d src inst
  rw [srcCounted, cnt_bump_same, cnt_bump_ne s 1 (by omega)]

theorem srcCounted_die : (srcCounted d src inst s).cnt (fltB d + 0x80) = s.cnt (fltB d + 0x80) + 1 := by
  have hbelow := flt_below_src d src inst
  rw [srcCounted, cnt_bump_ne _ 1 (by omega), cnt_bump_same]

/-- PEND is the one flag of FLT_SRC_STAT. -/
theorem srcStat_no_flag (h : s.gb (srcBase d src inst) R.FLT_SRC_STAT_PEND = false) :
    (s.rd (srcBase d src inst + R.FLT_SRC_STAT_E.off)).toNat &&& R.FLT_SRC_STAT_E.mask = 0 := by
  have hpend : bits (s.rd (srcBase d src inst + R.FLT_SRC_STAT_E.off)) 0 0 = 0 := bne_eq_false_iff_eq.mp h
  exact (Nat.and_one_is_mod _).trans (by simpa [bits] using hpend)

variable (h : s.gb (srcBase d src inst) R.FLT_SRC_STAT_PEND = false)
include h

theorem srcRecord_clear : s.srcRecord d src inst info
    = ((srcCounted d src inst s).evt (srcBase d src inst) R.FLT_SRC_STAT_E [R.FLT_SRC_STAT_PEND]
        [(R.FLT_SRC_STAT_LEVEL, s.g (srcBase d src inst) R.FLT_SRC_SEV_SEV)]).p (srcBase d src inst) R.FLT_SRC_INFO_INFO info := by
  have hclear : ¬ (srcCounted d src inst s).gb (srcBase d src inst) R.FLT_SRC_STAT_PEND = true := by
    rw [show (srcCounted d src inst s).gb = s.gb from rfl, h]
    exact Bool.false_ne_true
  exact if_neg hclear

theorem srcRecord_pend : (s.srcRecord d src inst info).gb (srcBase d src inst) R.FLT_SRC_STAT_PEND = true := by
  rw [srcRecord_clear info h, State.gb, State.g_p_ne _ _ _ (srcStat_ne_srcInfo _)]
  exact evt_gb rfl rfl (by decide)

theorem srcRecord_level : (s.srcRecord d src inst info).g (srcBase d src inst) R.FLT_SRC_STAT_LEVEL
    = s.g (srcBase d src inst) R.FLT_SRC_SEV_SEV % 8 := by
  obtain ⟨-, -, -, hlatch, -⟩ := setEventAdvancesTheSequence (srcCounted d src inst s) (srcBase d src inst) R.FLT_SRC_STAT_E R.FLT_SRC_STAT_PEND
    R.FLT_SRC_STAT_LEVEL (s.g (srcBase d src inst) R.FLT_SRC_SEV_SEV) (by decide) (by decide) (by decide) (by decide) (by decide)
  rw [srcRecord_clear info h, State.g_p_ne _ _ _ (srcStat_ne_srcInfo _)]
  exact (hlatch (srcStat_no_flag h)).1

theorem srcRecord_info (hinfo : info < 2 ^ 32) : (s.srcRecord d src inst info).g (srcBase d src inst) R.FLT_SRC_INFO_INFO = info := by
  rw [srcRecord_clear info h, State.g_p_same _ _ _ _ (by decide)]
  exact Nat.mod_eq_of_lt hinfo

theorem srcRecord_rd_ne {x : Nat} (hstat : x ≠ srcBase d src inst + R.FLT_SRC_STAT_E.off)
    (hinfo : x ≠ srcBase d src inst + R.FLT_SRC_INFO_INFO.off) : (s.srcRecord d src inst info).rd x = s.rd x := by
  rw [srcRecord_clear info h, State.rd_p_ne _ _ _ hinfo, State.rd_evt_ne _ _ _ _ hstat]
  rfl

theorem srcRecord_minlev : (s.srcRecord d src inst info).g fltpBase R.FLT_IRQ_MINLEV = s.g fltpBase R.FLT_IRQ_MINLEV := by
  have hbelow := fltp_below_src d src inst (o := R.FLT_IRQ_MINLEV.off) (by decide)
  rw [State.g, srcRecord_rd_ne info h (by omega) (by omega), State.g]

/-- Beside registers, its record changes the counts alone. -/
theorem srcRecord_keeps {β : Type} (f : State → β) (hp : ∀ s b x v, f (State.p s b x v) = f s) (hw : ∀ s a v, f (State.wr s a v) = f s)
    (hb : ∀ s a n, f (State.bump s a n) = f s) : f (s.srcRecord d src inst info) = f s := by
  rw [srcRecord_clear info h, hp, State.evt, hw, srcCounted, hb, hb]

/-! ### An event at LOG (R316) -/

/-- Below ATTEND nothing is listed, no escalation time runs and no reaction is put in hand; below MINLEV no interrupt is called for. -/
theorem raise_logged (hd : d < s.nd) (hsrc : srcValid d src inst = true) (hsev : s.g (srcBase d src inst) R.FLT_SRC_SEV_SEV = 0)
    (hmin : 0 < s.g fltpBase R.FLT_IRQ_MINLEV) : s.raise d src inst info = s.srcRecord d src inst info := by
  have hquiet : ¬ (s.srcRecord d src inst info).g fltpBase R.FLT_IRQ_MINLEV ≤ 0 := by
    rw [srcRecord_minlev info h]
    exact Nat.not_le.mpr hmin
  unfold State.raise
  simp [hd, hsrc, h, hsev, hquiet]

end

/-- Settles O41: the event is its record. -/
theorem loggedEventIsOnlyRecorded : Obligations.LoggedEventIsOnlyRecorded := by
  intro s d src inst info hd hsrc hpend hsev hmin hinfo
  have hcnt (x : Nat) : (s.srcRecord d src inst info).cnt x = (srcCounted d src inst s).cnt x := by
    rw [srcRecord_clear info hpend]
    rfl
  rw [raise_logged info hpend hd hsrc hsev hmin]
  refine ⟨srcRecord_pend info hpend, ?_, srcRecord_info info hpend hinfo, (hcnt _).trans srcCounted_src, (hcnt _).trans srcCounted_die,
    fun x hstat hreg => srcRecord_rd_ne info hpend hstat hreg, ?_, ?_, ?_⟩
  · rw [srcRecord_level info hpend, hsev]
  · exact srcRecord_keeps info hpend State.todo State.p_todo State.wr_todo State.bump_todo
  · exact srcRecord_keeps info hpend State.out State.p_out State.wr_out State.bump_out
  · exact srcRecord_keeps info hpend State.srcs State.p_srcs State.wr_srcs State.bump_srcs

end Sys2Proof.Proofs

/-!
The statements about how commands are carried out: a step is the command at the front of the queue, and no command changes which part it is or the
commands behind it.
-/
namespace Sys2Proof.Proofs
open Sys2Proof Sys2Proof.Machine Sys2Proof.Laws

/-! ### The command at the front -/

theorem step_of_pending {s : State} {c : Instr} {rest : List Instr} (h : s.pending = c :: rest) : step s = exec c (s.queue rest) := by
  simp [step, h]

/-- Settles O1: a command put at the front leaves the queue that stood behind it. -/
theorem stepRunsFrontCommand : Obligations.StepRunsFrontCommand :=
  ⟨fun _ _ _ h => step_of_pending h, fun s c => step_of_pending (s := s.push c) (rest := s.pending) rfl⟩

/-! ### What every command keeps -/

/-- Two states of one part with one queue of waiting commands. -/
structure SameQueue (s t : State) : Prop where
  part : t.part = s.part
  pending : t.pending = s.pending

theorem SameQueue.refl (s : State) : SameQueue s s := ⟨rfl, rfl⟩

theorem SameQueue.trans {s t u : State} (h : SameQueue s t) (k : SameQueue t u) : SameQueue s u :=
  ⟨k.part.trans h.part, k.pending.trans h.pending⟩

theorem SameQueue.keeps (s u : State) : SameQueue s (u.keeps s) := ⟨rfl, rfl⟩

theorem having_sameQueue {s t : State} {has : Bool} {f : State → State} (h : s.having has f = .next t) : SameQueue s t := by
  obtain ⟨-, rfl⟩ := State.having_next h
  exact .keeps s _

theorem onPart_sameQueue {s t : State} {has : Bool} {f : State → State} (h : s.onPart has f = .next t) : SameQueue s t := having_sameQueue h

theorem onDie_sameQueue {s t : State} {d : Nat} {has : Bool} {f : State → State} (h : s.onDie d has f = .next t) : SameQueue s t :=
  having_sameQueue h

theorem onBlock_sameQueue {s t : State} {base : Nat} {f : State → State} (h : s.onBlock base f = .next t) : SameQueue s t := having_sameQueue h

theorem cmdRun_sameQueue {opc w k : Nat} {body : Nat → Nat → State → Rsp} {s t : State} (h : cmdRun opc body w k s = .next t) : SameQueue s t :=
  having_sameQueue h

theorem onReset_sameQueue {s t : State} {f : State → State} (h : s.onReset f = .next t) : SameQueue s t := by
  obtain rfl := State.onReset_next h
  exact ⟨rfl, rfl⟩

theorem access_sameQueue {s t : State} {x : Access} {ok : Bool} (h : s.access x ok = .next t) : SameQueue s t := by
  obtain ⟨hpart, hpending, -, -⟩ := accessWords_spec s x
  obtain rfl | rfl := State.access_cases h
  · exact .refl _
  · exact ⟨hpart, hpending⟩

/-- A write of an indirect register is an access of a port, after which the queue of the block may drain. -/
theorem indRegWrite_sameQueue {s t : State} {x : WAcc} {b : Blk} {p : Nat → Bool} (h : s.indRegWrite x b p = .next t) : SameQueue s t := by
  unfold State.indRegWrite at h
  dsimp only at h
  split at h
  · split at h
    · next u hu =>
      injection h with h
      subst h
      exact (access_sameQueue hu).trans (.keeps _ _)
    · exact access_sameQueue h
  · exact access_sameQueue h

theorem txbCtlWrite_sameQueue {s t : State} {x : WAcc} {bit : Nat} (h : s.txbCtlWrite x bit = .next t) : SameQueue s t :=
  indRegWrite_sameQueue h

theorem opctlWrite_sameQueue {s t : State} {x : WAcc} {bit : Nat} (h : s.opctlWrite x bit = .next t) : SameQueue s t :=
  indRegWrite_sameQueue h

theorem supplyExcursion_sameQueue {d : Nat} {r : RailLevel} {s t : State} (h : execSupplyExcursion d r s = .next t) : SameQueue s t := by
  unfold execSupplyExcursion at h
  split at h
  · exact onReset_sameQueue h
  · exact onDie_sameQueue h

/-- Every command is a commit's completion or a reset, an access of a port, a write of an indirect register, an event of the package, of a block or
of a die, or else a mailbox command. -/
theorem exec_sameQueue {c : Instr} {s t : State} (h : exec c s = .next t) : SameQueue s t := by
  cases c
  all_goals dsimp only [exec] at h
  case prtCommitComplete | coldReset | warmReset => exact onReset_sameQueue h
  case supplyExcursion => exact supplyExcursion_sameQueue h
  case registerWrite | aliasWrite | seqClear | blockEnableWrite | counterSnapshot | indDataRead | indDataWrite | commandAreaWrite
      | dmaRingCtlRestart | dmaRingCtlHalt | prtCommit | mbxDoorbell | mbxRelease | lnqLpWrite | lnqPrbsInject | holdmaxClear | strDeadlineWrite
      | webLoadGo | trgArm | qmaxClear | splDeadlineWrite | csmAckWrite | dmaDoorbell | fltSevWrite | fltSrcInjGo | fltTmrInjGo | mfpCfgWrite =>
    exact access_sameQueue h
  case timeIncWrite | timeStepGo | calGo | qGetWrite | objCfgWrite | canTimingWrite => exact indRegWrite_sameQueue h
  case txbRequest | txbAbort => exact txbCtlWrite_sameQueue h
  case canOpctlSleep | canOpctlWake | canOpctlRecover | canOpctlDetect => exact opctlWrite_sameQueue h
  case commandStart | leaderTakeover | knotBookRewrite | recordExpire | contextFree | bindingEffect | ptpMessageRx | ptpMessageTx
      | secondsRollover | calendarSetApply | timeChangeApply | stripeSealTimeout | coilResponseRx | shardTimeout | durableTimeout | targetProbe
      | rebuildStripe | replaceCopyStripe | faultIrqHoldoffEnd | referenceLoss | portReset | resetRelease | bootReady | testLogicReset
      | jtagBypass | jtagIdcode | jtagSamplePreload | jtagExtest | jtagClamp | jtagHighz | jtagExtestPulse | jtagExtestTrain | ptpAnnounceTimeout
      | coilReadDataRx =>
    exact onPart_sameQueue h
  case blockQuiesce | indWriteApply | indAccessTimeout => exact onBlock_sameQueue h
  case tmrScrub | clusterRestart | clusterDeclaredFailed | laneCalDone | laneAligned | alignLoss | backgroundCalStep | transmitRequest | headWake
      | laneExitDone | cdrLoss | selfCheckDone | synthUnlock | spareTxAligned | swapRxActive | codewordRx | nakRepeat | ackSend | linkFlitRx
      | tunnelRspRx | tunnelTimeout | eventFlitRx | csi2PacketRx | lineDeadline | linkDown | streamRemoval | encoderEdge | encoderStall
      | replicaEdgeUpdate | srcLost | timeAlignLoss | triggerFire | timeTrigger | outputWindowStart | outputWindowEnd | delayLineExchange
      | sliceLineRead | lineRelease | takeoverDone | stagedSetApply | staRecordDrain | staConfigApply | handoffPacketRx | splLineDeadline
      | splCloseTimeout | composeWaitExpiry | splGroupApply | schedulerGrant | descriptorFetch | ownClearRefetch | flushReadIssue
      | flushReadComplete | busError | ringInterrupt | trackerEntryGrant | pcieLinkDown | busMasterDisable | functionLevelReset | pcieLinkDegraded
      | ethStatusRx | ethReceiptTimeout | stalledResend | ethLinkDown | ethLinkUp | arpRequestRx | launchDue | ppsInEdge | faultEvent
      | hbmSweepDone | sramScrub | faultEscalation | heartbeatMiss | tempThreshold | canFrameRx | canDetectDwellExpiry | canArbitrationStart
      | canTxAttemptEnd | canRecoveryDone | canSleepEntry | canWakeEvent | canIntegrationDone | mfpFunctionSwitch | lanesReadyTimeout | pcieLinkUp
      | pciConfigWrite | canRxError | prbsCheckerRelock | ethFrameRxDiscard | composeStopWaitExpiry =>
    exact onDie_sameQueue h
  all_goals exact cmdRun_sameQueue h

/-- Settles O5: whatever its kind, a command ends on the part and the queue on which it began. -/
theorem commandsKeepPartAndQueue : Obligations.CommandsKeepPartAndQueue := fun _ _ _ h =>
  have hk := exec_sameQueue h
  ⟨hk.part, hk.pending⟩

end Sys2Proof.Proofs

/-!
The statements that every command of a family completes: each row by its kind, a write of a register, a write of an indirect register, a mailbox
command, or an event of a die or of the package.
-/
namespace Sys2Proof.Proofs
open Sys2Proof Sys2Proof.Machine Sys2Proof.Laws

/-! ### Writes of registers with a rule of their own -/

theorem lnqLpWrite_lands : Lands .lnqLpWrite .lnq (· == 0x48) fun a r sa u =>
    lnqLpApply (targetOf a.addr).base (targetOf a.addr).die ((targetOf a.addr).slot - 0x20) (u.offer a r sa) u :=
  landsR (fun _ _ => rfl) (by decide) fun a r sa u _ ho => by
    have hpl : (targetOf a.addr).plain = 0x48 := by simpa using ho
    simp [State.writeReg, State.writeLnq, State.offer, hpl]

theorem lnqPrbsInject_lands : Lands .lnqPrbsInject .lnq (· == 0x50) fun a r sa u =>
    lnqPrbsApply (targetOf a.addr).base (targetOf a.addr).die ((targetOf a.addr).slot - 0x20) (u.offer a r sa) u :=
  landsR (fun _ _ => rfl) (by decide) fun a r sa u _ ho => by
    have hpl : (targetOf a.addr).plain = 0x50 := by simpa using ho
    simp [State.writeReg, State.writeLnq, State.offer, hpl]

theorem holdmaxClear_lands : Lands .holdmaxClear .lnq (fun o => 0x60 ≤ o && o < 0x70) fun a _ sa u =>
    if plainForm a then holdmaxApply sa a.val u else u :=
  landsR (fun _ _ => rfl) (by decide) fun a r sa u _ ho => by
    simp only [Bool.and_eq_true, decide_eq_true_eq] at ho
    obtain ⟨hlo, hhi⟩ := ho
    have hhdr : (targetOf a.addr).plain ≠ 4 ∧ (targetOf a.addr).plain ≠ 0xC ∧ (targetOf a.addr).plain ≠ 0x1C := by omega
    have hquad : (targetOf a.addr).plain ≠ 0x40 ∧ (targetOf a.addr).plain ≠ 0x48 ∧ (targetOf a.addr).plain ≠ 0x50 := by omega
    simp [State.writeReg, State.writeLnq, plainForm, hlo, hhi, hhdr, hquad]

theorem trgArm_lands : Lands .trgArm .trg (fun o => 0x100 ≤ o && o < 0x300 && (o - 0x100) % 0x40 == 0x24) fun a _ _ u =>
    if plainForm a then trgArmApply (8 * (targetOf a.addr).die + ((targetOf a.addr).plain - 0x100) / 0x40) a.val u else u :=
  landsR (fun _ _ => rfl) (by decide) fun a r sa u _ ho => by
    simp only [Bool.and_eq_true, decide_eq_true_eq, beq_iff_eq] at ho
    obtain ⟨⟨hlo, hhi⟩, harm⟩ := ho
    have hhdr : (targetOf a.addr).plain ≠ 4 ∧ (targetOf a.addr).plain ≠ 0xC ∧ (targetOf a.addr).plain ≠ 0x1C := by omega
    simp [State.writeReg, State.writeTrg, plainForm, hlo, hhi, harm, hhdr]

theorem qmaxClear_lands : Lands .qmaxClear .sta (· == 0x44) fun a _ _ u => if plainForm a then qmaxApply (targetOf a.addr).die a.val u else u :=
  landsR (fun _ _ => rfl) (by decide) fun a r sa u _ ho => by
    have hpl : (targetOf a.addr).plain = 0x44 := by simpa using ho
    simp [State.writeReg, State.writeOne, plainForm, hpl]

theorem fltSevWrite_lands : Lands .fltSevWrite .flt (fun o => o == 0x100 || o == 0x104) fun a r sa u =>
    fltSevApply (targetOf a.addr).die (u.g (targetOf a.addr).base R.FLT_SEL_SRC) (u.g (targetOf a.addr).base R.FLT_SEL_INST)
      (targetOf a.addr).plain (u.offer a r sa) u :=
  landsR (fun _ _ => rfl) (by decide) fun a r sa u _ ho => by
    have hpl : (targetOf a.addr).plain = 0x100 ∨ (targetOf a.addr).plain = 0x104 := by simpa using ho
    obtain hpl | hpl := hpl <;> simp [State.writeReg, State.writeFlt, State.offer, hpl]

theorem fltSrcInjGo_lands : Lands .fltSrcInjGo .flt (· == 0x11C) fun a r sa u =>
    fltSrcInjApply (targetOf a.addr).die (u.g (targetOf a.addr).base R.FLT_SEL_SRC) (u.g (targetOf a.addr).base R.FLT_SEL_INST)
      (u.offer a r sa) u :=
  landsR (fun _ _ => rfl) (by decide) fun a r sa u _ ho => by
    have hpl : (targetOf a.addr).plain = 0x11C := by simpa using ho
    simp [State.writeReg, State.writeFlt, State.offer, hpl]

theorem fltTmrInjGo_lands : Lands .fltTmrInjGo .flt (· == 0x4C) fun a r sa u =>
    u.writeFlt (targetOf a.addr) sa r (formOf (targetOf a.addr).off) a.val (u.offer a r sa) (u.grantOf a.port a.rid).level :=
  landsR (fun _ _ => rfl) (by decide) fun a r sa u _ ho => by
    have hpl : (targetOf a.addr).plain = 0x4C := by simpa using ho
    simp [State.writeReg, State.offer, hpl]

theorem mfpCfgWrite_lands : Lands .mfpCfgWrite .mfp (fun o => 0x100 ≤ o && o < 0x1C0) fun a r sa u =>
    mfpCfgApply (targetOf a.addr).die (((targetOf a.addr).plain - 0x100) / 4) (u.offer a r sa) u :=
  landsR (fun _ _ => rfl) (by decide) fun a r sa u _ ho => by
    simp only [Bool.and_eq_true, decide_eq_true_eq] at ho
    obtain ⟨hlo, hhi⟩ := ho
    have hhdr : (targetOf a.addr).plain ≠ 4 ∧ (targetOf a.addr).plain ≠ 0xC ∧ (targetOf a.addr).plain ≠ 0x1C := by omega
    simp [State.writeReg, State.writeOne, State.offer, hlo, hhdr]

/-- A plain write of DMA_RING_CTL acts on the selected ring; the two rows of the table differ in the command bit alone (R269). -/
theorem ringCtl_access {s : State} {a : WAcc} {r : RegRow} {sa : Nat} (h : Reaches s a .dma r sa) (ho : (targetOf a.addr).off = 0x128) {bit : Nat}
    (hv : a.val.getLsbD bit = true) : s.access (accWrite a) (accAt a .dma (· == 0x128) && a.val.getLsbD bit)
      = .next (s.written a fun u => ringCtlApply (targetOf a.addr).die (u.g (targetOf a.addr).base R.DMA_SEL_RING) a.val u) := by
  obtain ⟨hpl, hform⟩ := plain_off ho (by decide)
  refine lands h _ ?_ (notCommit h (by decide)) fun u _ => ?_
  · simp [accAt, h.blk, h.aligned, hpl, hv]
  · simp [State.writeReg, State.writeOne, hpl, hform]

/-! ### Writes of indirect registers -/

/-- A row that is a write of the indirect registers it names is posted and drained for each of them. -/
theorem indRegWrite_posts {c : WAcc → Instr} {b : Blk} {p : State → WAcc → Nat → Bool} (hb : b ≠ .prt)
    (hc : ∀ a s, exec (c a) s = s.indRegWrite a b (p s a)) : Posts c b p :=
  posts hc (fun _ _ _ => id) hb

theorem txbCtlWrite_posts {c : WAcc → Instr} {bit : Nat} (hc : ∀ a s, exec (c a) s = s.txbCtlWrite a bit) :
    Posts c .can fun _ a i => a.val.getLsbD bit && 0x100 ≤ i && i < 0x220 && (i - 0x100) % 0x60 == 4 :=
  indRegWrite_posts (by decide) hc

theorem opctlWrite_posts {c : WAcc → Instr} {bit : Nat} (hc : ∀ a s, exec (c a) s = s.opctlWrite a bit) :
    Posts c .can fun _ a i => a.val.getLsbD bit && i == 0x10 :=
  indRegWrite_posts (by decide) hc

/-! ### A supply leaves its window (R363) -/

/-- A core supply out of its window resets the part. -/
theorem supplyExcursion_resets (s : State) (die rail level : Nat) (hd : die < s.nd) (hr : rail < 2) (hl : railOk rail level = false) :
    exec (.supplyExcursion die ⟨rail, level⟩) s = .next ((coldResetF s).own s) := by
  simp [exec, execSupplyExcursion, hd, hr, hl, State.onReset, State.reaching]

/-- Another supply, or one inside its window, is an event of its die. -/
theorem supplyExcursion_completes (s : State) (die rail level : Nat) (hd : s.dieUp die = true) (hr : 2 ≤ rail ∨ railOk rail level = true)
    (hlt : rail < 10) : exec (.supplyExcursion die ⟨rail, level⟩) s = .next (s.reacted (supplyExcursionF die rail level)) := by
  have hkept : (decide (rail < 2) && decide (die < s.nd) && !railOk rail level) = false := by
    obtain h | h := hr
    · simp [not_lt.mpr h]
    · simp [h]
  simp only [exec, execSupplyExcursion, hkept]
  exact State.onDie_up _ hd (decide_eq_true hlt)

/-! ### Every row of each family completes -/

/-- Settles O48: events of a lane or of a lane group, the writes of a lane quad's registers, and the commands of the lanes. -/
theorem laneCommandsComplete : Obligations.LaneCommandsComplete :=
  ⟨fun _ _ _ => happens fun _ => rfl, fun _ _ => happens fun _ => rfl, fun _ _ => happens fun _ => rfl, fun _ _ _ => happens fun _ => rfl,
    fun _ _ _ => happens fun _ => rfl, fun _ _ => happens fun _ => rfl, fun _ _ => happens fun _ => rfl, lnqLpWrite_lands, lnqPrbsInject_lands,
    holdmaxClear_lands, fun _ _ => happens fun _ => rfl, fun _ _ _ => happens fun _ => rfl, fun _ _ => happens fun _ => rfl,
    fun _ _ => happens fun _ => rfl, fun _ _ => happens fun _ => rfl, carries fun _ _ _ => rfl, carries fun _ _ _ => rfl, carries fun _ _ _ => rfl,
    fun _ _ _ => carries fun _ _ _ => rfl, carries fun _ _ _ => rfl, fun _ => carries fun _ _ _ => rfl, carries fun _ _ _ => rfl,
    fun _ => carries fun _ _ _ => rfl, fun _ _ _ => happens fun _ => rfl⟩

/-- Settles O49: events of a lane or of a channel, the write of STR_DEADLINE, and the commands of the links. -/
theorem strandCommandsComplete : Obligations.StrandCommandsComplete :=
  ⟨fun _ _ _ => happens fun _ => rfl, fun _ _ => happens fun _ => rfl, fun _ _ => happens fun _ => rfl, fun _ _ _ => happens fun _ => rfl,
    fun _ _ _ _ _ => happens fun _ => rfl, fun _ _ => happens fun _ => rfl, fun _ _ _ => happens fun _ => rfl, fun _ _ => happens fun _ => rfl,
    fun _ => happens fun _ => rfl, fun _ => happens fun _ => rfl, fun _ => happens fun _ => rfl, strDeadlineWrite_lands, carries fun _ _ _ => rfl,
    carries fun _ _ _ => rfl, carries fun _ _ _ => rfl, carries fun _ _ _ => rfl, carries fun _ _ _ => rfl, carries fun _ _ _ => rfl,
    carries fun _ _ _ => rfl⟩

/-- Settles O50: events of an encoder unit, of a generator or of an output, the load of a coordinate and ARM, and the commands of both blocks. -/
theorem webCommandsComplete : Obligations.WebCommandsComplete :=
  ⟨fun _ _ _ => happens fun _ => rfl, webLoadGo_lands, fun _ _ => happens fun _ => rfl,
    fun _ _ _ hd hs => State.onDie_up _ hd (decide_eq_true hs), fun _ _ _ hd hs => State.onDie_up _ hd (decide_eq_true hs),
    fun _ => happens fun _ => rfl, fun _ => happens fun _ => rfl, fun _ => happens fun _ => rfl, trgArm_lands, fun _ _ => happens fun _ => rfl,
    fun _ _ => happens fun _ => rfl, fun _ _ => happens fun _ => rfl, carries fun _ _ _ => rfl, carries fun _ _ _ => rfl, carries fun _ _ _ => rfl,
    carries fun _ _ _ => rfl, carries fun _ _ _ => rfl, carries fun _ _ _ => rfl, carries fun _ _ _ => rfl, carries fun _ _ _ => rfl,
    carries fun _ _ _ => rfl, carries fun _ _ _ => rfl⟩

/-- Settles O51: events of a slice or of a channel, and the commands of both blocks. -/
theorem correctionCommandsComplete : Obligations.CorrectionCommandsComplete :=
  ⟨fun _ _ _ => happens fun _ => rfl, fun _ _ => happens fun _ => rfl, fun _ _ _ _ => happens fun _ => rfl, fun _ => happens fun _ => rfl,
    carries fun _ _ _ => rfl, fun _ => carries fun _ _ _ => rfl, carries fun _ _ _ => rfl, carries fun _ _ _ => rfl, carries fun _ _ _ => rfl,
    carries fun _ _ _ => rfl, carries fun _ _ _ => rfl, carries fun _ _ _ => rfl, carries fun _ _ _ => rfl⟩

/-- Settles O52: events of a die or of a channel, the write of STA_QMAX, and the commands of the statistics. -/
theorem statisticsCommandsComplete : Obligations.StatisticsCommandsComplete :=
  ⟨fun _ _ => happens fun _ => rfl, fun _ => happens fun _ => rfl, qmaxClear_lands, carries fun _ _ _ => rfl, carries fun _ _ _ => rfl,
    carries fun _ _ _ => rfl⟩

/-- Settles O53: events of a die or of a group, the write of a group's deadline, and the commands of the splice engine. -/
theorem spliceCommandsComplete : Obligations.SpliceCommandsComplete :=
  ⟨fun _ _ => happens fun _ => rfl, fun _ => happens fun _ => rfl, fun _ => happens fun _ => rfl, fun _ => happens fun _ => rfl,
    fun _ => happens fun _ => rfl, splDeadlineWrite_lands, carries fun _ _ _ => rfl, carries fun _ _ _ => rfl, carries fun _ _ _ => rfl,
    carries fun _ _ _ => rfl, carries fun _ _ _ => rfl, carries fun _ _ _ => rfl, fun _ => happens fun _ => rfl⟩

/-- Settles O54: grants on a die, events of a context of the package, the write of CSM_ACK, and the commands of the consumers. -/
theorem consumerCommandsComplete : Obligations.ConsumerCommandsComplete :=
  ⟨fun _ _ _ => happens fun _ => rfl, fun _ _ => occurs fun _ => rfl, csmAckWrite_lands, fun _ => occurs fun _ => rfl,
    fun _ => occurs fun _ => rfl, carries fun _ _ _ => rfl, carries fun _ _ _ => rfl, carries fun _ _ _ => rfl, carries fun _ _ _ => rfl,
    carries fun _ _ _ => rfl, carries fun _ _ _ => rfl⟩

/-- Settles O55: events of a ring or of a port, the doorbell and the two command bits of DMA_RING_CTL, and the commands of both blocks. -/
theorem dmaCommandsComplete : Obligations.DmaCommandsComplete :=
  ⟨dmaDoorbell_lands, fun _ _ _ => happens fun _ => rfl, fun _ _ _ => happens fun _ => rfl, fun _ _ => happens fun _ => rfl,
    fun _ _ => happens fun _ => rfl, fun _ _ _ => happens fun _ => rfl, fun _ _ => happens fun _ => rfl,
    fun _ _ _ _ h ho hv => ringCtl_access h ho hv, fun _ _ _ _ h ho hv => ringCtl_access h ho hv, fun _ => happens fun _ => rfl,
    fun _ => happens fun _ => rfl, fun _ => happens fun _ => rfl, fun _ => happens fun _ => rfl, fun _ _ _ => happens fun _ => rfl,
    carries fun _ _ _ => rfl, carries fun _ _ _ => rfl, carries fun _ _ _ => rfl, carries fun _ _ _ => rfl, carries fun _ _ _ => rfl,
    carries fun _ _ _ => rfl, fun _ _ _ _ => happens fun _ => rfl, fun _ _ => happens fun _ => rfl⟩

/-- Settles O56: events of a MAC or of a flow, events of the package time, three indirect writes, and the commands of both blocks. -/
theorem ethernetCommandsComplete : Obligations.EthernetCommandsComplete :=
  ⟨fun _ _ _ _ => happens fun _ => rfl, fun _ _ _ => happens fun _ => rfl, fun _ _ _ => happens fun _ => rfl, fun _ _ => happens fun _ => rfl,
    fun _ _ => happens fun _ => rfl, fun _ _ _ _ => happens fun _ => rfl, fun _ _ _ => happens fun _ => rfl, fun _ => occurs fun _ => rfl,
    fun _ => occurs fun _ => rfl, occurs fun _ => rfl, occurs fun _ => rfl, occurs fun _ => rfl, indRegWrite_posts (by decide) fun _ _ => rfl,
    indRegWrite_posts (by decide) fun _ _ => rfl, indRegWrite_posts (by decide) fun _ _ => rfl, fun _ => happens fun _ => rfl,
    carries fun _ _ _ => rfl, carries fun _ _ _ => rfl, carries fun _ _ _ => rfl, carries fun _ _ _ => rfl, fun _ => carries fun _ _ _ => rfl,
    carries fun _ _ _ => rfl, carries fun _ _ _ => rfl, carries fun _ _ _ => rfl, carries fun _ _ _ => rfl, carries fun _ _ _ => rfl,
    carries fun _ _ _ => rfl, fun _ _ => happens fun _ => rfl, occurs fun _ => rfl⟩

/-- Settles O57: every event of a volume is one of the package; the rest are commands. -/
theorem coilCommandsComplete : Obligations.CoilCommandsComplete :=
  ⟨fun _ => occurs fun _ => rfl, fun _ _ => occurs fun _ => rfl, fun _ _ _ => occurs fun _ => rfl, fun _ _ _ => occurs fun _ => rfl,
    fun _ _ => occurs fun _ => rfl, fun _ => occurs fun _ => rfl, fun _ => occurs fun _ => rfl, carries fun _ _ _ => rfl, carries fun _ _ _ => rfl,
    fun _ => carries fun _ _ _ => rfl, carries fun _ _ _ => rfl, fun _ => carries fun _ _ _ => rfl, carries fun _ _ _ => rfl,
    carries fun _ _ _ => rfl, carries fun _ _ _ => rfl, fun _ _ => occurs fun _ => rfl⟩

/-- Settles O58: events of a source or of a die, the severities and the two injections of an FLT block, and the commands of the faults. -/
theorem faultCommandsComplete : Obligations.FaultCommandsComplete :=
  ⟨fun _ _ _ _ => happens fun _ => rfl, fun _ => happens fun _ => rfl, fun _ _ _ _ _ => happens fun _ => rfl, fun _ _ _ => happens fun _ => rfl,
    occurs fun _ => rfl, fltSevWrite_lands, fltSrcInjGo_lands, fltTmrInjGo_lands, fun _ => happens fun _ => rfl, fun _ _ _ => happens fun _ => rfl,
    occurs fun _ => rfl, carries fun _ _ _ => rfl, carries fun _ _ _ => rfl, carries fun _ _ _ => rfl, carries fun _ _ _ => rfl,
    carries fun _ _ _ => rfl, fun _ => carries fun _ _ _ => rfl, carries fun _ _ _ => rfl⟩

/-- Settles O59: events of a controller, its indirect writes, and the commands of the controllers. -/
theorem canCommandsComplete : Obligations.CanCommandsComplete :=
  ⟨fun _ _ => happens fun _ => rfl, fun _ => happens fun _ => rfl, fun _ => happens fun _ => rfl, fun _ _ => happens fun _ => rfl,
    fun _ => happens fun _ => rfl, fun _ _ => happens fun _ => rfl, fun _ _ => happens fun _ => rfl, fun _ => happens fun _ => rfl,
    txbCtlWrite_posts fun _ _ => rfl, txbCtlWrite_posts fun _ _ => rfl, opctlWrite_posts fun _ _ => rfl, opctlWrite_posts fun _ _ => rfl,
    opctlWrite_posts fun _ _ => rfl, opctlWrite_posts fun _ _ => rfl, indRegWrite_posts (by decide) fun _ _ => rfl,
    indRegWrite_posts (by decide) fun _ _ => rfl, indRegWrite_posts (by decide) fun _ _ => rfl, carries fun _ _ _ => rfl, carries fun _ _ _ => rfl,
    carries fun _ _ _ => rfl, carries fun _ _ _ => rfl, carries fun _ _ _ => rfl, carries fun _ _ _ => rfl, carries fun _ _ _ => rfl,
    carries fun _ _ _ => rfl, carries fun _ _ _ => rfl, fun _ _ => happens fun _ => rfl⟩

/-- Settles O60: resets by their own effect, a supply by its window, and events of a pin, of the package or of a TAP where the part has it. -/
theorem startupCommandsComplete : Obligations.StartupCommandsComplete :=
  ⟨supplyExcursion_resets, supplyExcursion_completes, mfpCfgWrite_lands, fun _ _ _ => happens fun _ => rfl, carries fun _ _ _ => rfl,
    carries fun _ _ _ => rfl, carries fun _ _ _ => rfl, carries fun _ _ _ => rfl, fun _ => rfl, fun _ _ => rfl,
    fun _ _ _ hd => State.onPart_has _ (decide_eq_true hd), fun _ _ _ => occurs fun _ => rfl, occurs fun _ => rfl, fun _ => happens fun _ => rfl,
    occurs fun _ => rfl, fun _ _ _ => State.onPart_has _, fun _ _ => State.onPart_has _, fun _ _ => State.onPart_has _,
    fun _ _ => State.onPart_has _, fun _ _ => State.onPart_has _, fun _ _ => State.onPart_has _, fun _ _ => State.onPart_has _,
    fun _ _ => State.onPart_has _⟩

end Sys2Proof.Proofs

/-!
The statements about registers that keep a maximum: what the clearing writes of LNQ_HOLDMAX and STA_QMAX clear, and what they leave alone.
-/
namespace Sys2Proof.Proofs
open Sys2Proof Sys2Proof.Machine Sys2Proof.Laws

/-! ### LNQ_HOLDMAX (R90) -/

theorem holdmaxApply_keeps {β : Type} (f : State → β) (hw : ∀ s a v, f (State.wr s a v) = f s) (a : Nat) (v : Word) (s : State) :
    f (holdmaxApply a v s) = f s := by
  unfold holdmaxApply
  split
  · exact hw _ _ _
  · rfl

theorem holdmaxApply_rd_same (a : Nat) (v : Word) (s : State) : (holdmaxApply a v s).rd a = if v.getLsbD 31 then 0 else s.rd a := by
  simp only [holdmaxApply, bit_one]
  split
  · exact State.rd_wr_same ..
  · rfl

theorem holdmaxApply_rd_ne {a x : Nat} (h : x ≠ a) (v : Word) (s : State) : (holdmaxApply a v s).rd x = s.rd x := by
  unfold holdmaxApply
  split
  · exact State.rd_wr_ne _ _ h
  · rfl

/-- A permitted plain write of a lane's LNQ_HOLDMAX ends with the effect of the rule. -/
theorem holdmaxClear_next {s : State} {a : WAcc} {r : RegRow} {sa : Nat} (h : Reaches s a .lnq r sa) (hlo : 0x60 ≤ (targetOf a.addr).off)
    (hhi : (targetOf a.addr).off < 0x70) (ht : s.todo = []) : ∃ u, u = holdmaxApply sa a.val (s.arrived a)
      ∧ exec (.holdmaxClear a) s = .next (u.keeps (s.arrived a)) ∧ ∀ x, (u.keeps (s.arrived a)).rd x = u.rd x := by
  obtain ⟨hpl, hform⟩ := plain_off (a := a) rfl (by omega)
  have hx := holdmaxClear_lands s a r sa h (by simp [hpl, hlo, hhi])
  simp only [plainForm, hform, beq_self_eq_true, if_true] at hx
  obtain ⟨hw, hrd⟩ := lands_next (s := s) (a := a) (f := holdmaxApply sa a.val) ht fun u hu _ =>
    ⟨(holdmaxApply_keeps State.todo (by simp) ..).trans hu, holdmaxApply_keeps State.part (by simp) ..⟩
  rw [hw] at hx hrd
  exact ⟨_, rfl, hx, hrd⟩

/-- Settles O30: the write stores 0 in the lane's register or nothing at all. -/
theorem holdmaxClearsOnlyTheLanesRecord : Obligations.HoldmaxClearsOnlyTheLanesRecord := by
  intro s a r sa h hlo hhi ht
  obtain ⟨u, hu, hx, hrd⟩ := holdmaxClear_next h hlo hhi ht
  refine ⟨_, hx, ?_, fun x hne => ?_, ?_, ?_, ?_⟩
  · rw [hrd, hu, holdmaxApply_rd_same, arr_rd]
  · rw [hrd, hu, holdmaxApply_rd_ne hne, arr_rd]
  · rw [State.keeps_lanes, hu, holdmaxApply_keeps State.lanes (by simp), State.arrived, State.tlps_lanes]
  · rw [State.keeps_links, hu, holdmaxApply_keeps State.links (by simp), State.arrived, State.tlps_links]
  · rw [State.keeps_out, hu, holdmaxApply_keeps State.out (by simp), State.arrived, State.tlps_out]

/-! ### STA_QMAX (R204) -/

/-- A die has one STA block, at slot 0xA (R28). -/
theorem slot_of_slotBlk_sta {slot : Nat} (h : slotBlk slot = some .sta) : slot = 0xA := by
  have hslots : ∀ t < 0x78, slotBlk t = some .sta → t = 0xA := by decide
  exact hslots slot (slotBlk_lt h) h

/-- A target in a STA block is the block of its die. -/
theorem base_of_blk_sta {x : Nat} (h : (targetOf x).blk = some .sta) : (targetOf x).base = staB (targetOf x).die := by
  obtain ⟨-, hslot, hbase⟩ := target_of_die_blk (by decide) h
  rw [hbase, slot_of_slotBlk_sta hslot, staB]

theorem qmaxApply_keeps {β : Type} (f : State → β) (hp : ∀ s b x v, f (State.p s b x v) = f s) (d : Nat) (v : Word) (s : State) :
    f (qmaxApply d v s) = f s := by
  unfold qmaxApply
  split
  · exact hp _ _ _ _
  · rfl

theorem qmaxApply_max (d : Nat) (v : Word) (s : State) : (qmaxApply d v s).g (staB d) R.STA_QMAX_MAX
    = if v.getLsbD 31 then 0 else s.g (staB d) R.STA_QMAX_MAX := by
  simp only [qmaxApply, bit_one]
  split
  · exact State.g_p_same s (staB d) R.STA_QMAX_MAX 0 (by decide)
  · rfl

theorem qmaxApply_rd_ne {d x : Nat} (h : x ≠ staB d + R.STA_QMAX_MAX.off) (v : Word) (s : State) : (qmaxApply d v s).rd x = s.rd x := by
  unfold qmaxApply
  split
  · exact State.rd_p_ne _ _ _ h
  · rfl

/-- A permitted plain write of STA_QMAX ends with the effect of the rule. -/
theorem qmaxClear_next {s : State} {a : WAcc} {r : RegRow} {sa : Nat} (h : Reaches s a .sta r sa) (ho : (targetOf a.addr).off = 0x44)
    (ht : s.todo = []) : ∃ u, u = qmaxApply (targetOf a.addr).die a.val (s.arrived a)
      ∧ exec (.qmaxClear a) s = .next (u.keeps (s.arrived a)) ∧ ∀ x, (u.keeps (s.arrived a)).rd x = u.rd x := by
  obtain ⟨hpl, hform⟩ := plain_off ho (by decide)
  have hx := qmaxClear_lands s a r sa h (by simp [hpl])
  simp only [plainForm, hform, beq_self_eq_true, if_true] at hx
  obtain ⟨hw, hrd⟩ := lands_next (s := s) (a := a) (f := qmaxApply (targetOf a.addr).die a.val) ht fun u hu _ =>
    ⟨(qmaxApply_keeps State.todo (by simp) ..).trans hu, qmaxApply_keeps State.part (by simp) ..⟩
  rw [hw] at hx hrd
  exact ⟨_, rfl, hx, hrd⟩

/-- Settles O33: the write stores 0 in MAX or nothing at all. -/
theorem queueMaximumClearsOnlyWhenAsked : Obligations.QueueMaximumClearsOnlyWhenAsked := by
  intro s a r sa h ho ht
  obtain ⟨u, hu, hx, hrd⟩ := qmaxClear_next h ho ht
  obtain ⟨hpl, -⟩ := plain_off ho (by decide)
  have hbase := base_of_blk_sta h.blk
  have hsa : sa = staB (targetOf a.addr).die + R.STA_QMAX_MAX.off := by rw [place_addr (by decide) h.place, hpl, hbase]; rfl
  refine ⟨_, hx, ?_, fun x hne => ?_, ?_, ?_⟩
  · rw [hbase, State.g, hrd, hu, ← arr_g s a]
    exact qmaxApply_max ..
  · rw [hrd, hu, qmaxApply_rd_ne (hsa ▸ hne), arr_rd]
  · rw [State.keeps_stas, hu, qmaxApply_keeps State.stas (by simp), State.arrived, State.tlps_stas]
  · rw [State.keeps_chans, hu, qmaxApply_keeps State.chans (by simp), State.arrived, State.tlps_chans]

end Sys2Proof.Proofs

/-!
The statement about MFP_CFG settings that no pin can take: which event a refused setting records, and that the pins keep theirs.
-/
namespace Sys2Proof.Proofs
open Sys2Proof Sys2Proof.Machine Sys2Proof.Laws

/-! ### Refused settings (R366) -/

/-- A die has one MFP block, at slot 0x13 (R28). -/
theorem slot_of_slotBlk_mfp {slot : Nat} (h : slotBlk slot = some .mfp) : slot = 0x13 := by
  have hslots : ∀ t < 0x78, slotBlk t = some .mfp → t = 0x13 := by decide
  exact hslots slot (slotBlk_lt h) h

/-- A target in an MFP block is the block of its die. -/
theorem base_of_blk_mfp {x : Nat} (h : (targetOf x).blk = some .mfp) : (targetOf x).base = mfpB (targetOf x).die := by
  obtain ⟨-, hslot, hbase⟩ := target_of_die_blk (by decide) h
  rw [hbase, slot_of_slotBlk_mfp hslot, mfpB]

/-- A setting that is refused is recorded with its pin. -/
def pinRefused (d p : Nat) (f : Fld) (s : State) : State := s.evt (mfpB d) R.MFP_EVT_E [f] [(R.MFP_EVT_PIN, p)]

theorem mfpCfgApply_undefined {v : Word} (h : funcOk (bits v 5 0) (bits v 11 8) = false) (d p : Nat) (s : State) :
    mfpCfgApply d p v s = pinRefused d p R.MFP_EVT_FUNC_BAD s := by
  simp [mfpCfgApply, pinRefused, h]

theorem mfpCfgApply_held {d p : Nat} {v : Word} {s : State} (h : funcOk (bits v 5 0) (bits v 11 8) = true)
    (hheld : s.inputHeld d p (bits v 5 0) (bits v 11 8) = true) : mfpCfgApply d p v s = pinRefused d p R.MFP_EVT_CONFLICT s := by
  simp [mfpCfgApply, pinRefused, h, hheld]

theorem inputHeld_arrived (s : State) (a : WAcc) (d p f i : Nat) : (s.arrived a).inputHeld d p f i = s.inputHeld d p f i := by
  simp only [State.inputHeld, arr_g]

/-- A permitted plain write of MFP_CFG whose setting is refused ends with the record alone. -/
theorem mfpCfgWrite_refused {s : State} {a : WAcc} {r : RegRow} {sa p : Nat} (h : Reaches s a .mfp r sa) (hp : p < 48)
    (ho : (targetOf a.addr).off = 0x100 + 4 * p) (ht : s.todo = []) {f : Fld}
    (hrefused : mfpCfgApply (targetOf a.addr).die p a.val (s.arrived a) = pinRefused (targetOf a.addr).die p f (s.arrived a)) :
    ∃ t, exec (.mfpCfgWrite a) s = .next t
      ∧ t.rd ((targetOf a.addr).base + R.MFP_EVT_E.off)
          = (s.evt (targetOf a.addr).base R.MFP_EVT_E [f] [(R.MFP_EVT_PIN, p)]).rd ((targetOf a.addr).base + R.MFP_EVT_E.off)
      ∧ ∀ x, x ≠ (targetOf a.addr).base + R.MFP_EVT_E.off → t.rd x = s.rd x := by
  obtain ⟨hpl, hform⟩ := plain_off ho (by omega)
  have hpin : ((targetOf a.addr).plain - 0x100) / 4 = p := by omega
  have hx := mfpCfgWrite_lands s a r sa h (by simp [hpl]; omega)
  simp only [offer_plain hform, hpin] at hx
  have hrd : ∀ x, (s.written a (mfpCfgApply (targetOf a.addr).die p a.val)).rd x = (pinRefused (targetOf a.addr).die p f (s.arrived a)).rd x := by
    intro x
    rw [← hrefused]
    refine written_rd ?_ ?_ x
    · rw [hrefused]; simp [pinRefused, State.arrived]
    · rw [hrefused]; simp [pinRefused, State.arrived, ht]
  rw [base_of_blk_mfp h.blk]
  refine ⟨_, hx, ?_, fun x hne => ?_⟩
  · rw [hrd]
    exact rd_evt_congr (arr_rd s a _) _ _
  · rw [hrd, pinRefused, State.rd_evt_ne _ _ _ _ hne, arr_rd]

/-- Settles O44: the two refusals differ in the event that they record. -/
theorem pinSettingsThatConflictAreRefused : Obligations.PinSettingsThatConflictAreRefused := by
  intro s a r sa p h hp ho ht
  constructor
  · intro hbad
    exact mfpCfgWrite_refused h hp ho ht (mfpCfgApply_undefined hbad _ _ _)
  · intro hok hheld
    exact mfpCfgWrite_refused h hp ho ht (mfpCfgApply_held hok ((inputHeld_arrived ..).trans hheld))

end Sys2Proof.Proofs

/-!
The statement about the transmit buffers of a CAN controller: what a write of TXB_CTL with ABORT does to a buffer whose REQ is 1, and that other
writes of its words are discarded.
-/
namespace Sys2Proof.Proofs
open Sys2Proof Sys2Proof.Machine Sys2Proof.Laws

/-! ### A CAN event and its interrupt -/

/-- The event's interrupt changes no register. -/
theorem canEvt_rd (s : State) (d : Nat) (f : Fld) (x : Nat) : (s.canEvt d f).rd x = (s.evt (canB d) R.CAN_EVT_E [f]).rd x := by
  unfold State.canEvt
  dsimp only
  split
  · exact State.msix_keeps (fun t => t.rd x) (by simp) (by simp) (fun _ _ => rfl) ..
  · rfl

theorem canEvt_rd_ne (s : State) {d x : Nat} (f : Fld) (h : x ≠ canB d + R.CAN_EVT_E.off) : (s.canEvt d f).rd x = s.rd x :=
  (canEvt_rd ..).trans (State.rd_evt_ne _ _ _ _ h)

/-- The indirect registers of the buffers lie above the blocks of their die. -/
theorem txb_ne_canEvt (d b o : Nat) : txbB d b + o ≠ canB d + R.CAN_EVT_E.off := by
  simp only [txbB, canI, indBase, canB, blkAddr, R.CAN_EVT_E]; omega

theorem canEvt_g_txb (s : State) (d b : Nat) (e f : Fld) : (s.canEvt d e).g (txbB d b) f = s.g (txbB d b) f := by
  rw [State.g, canEvt_rd_ne _ _ (txb_ne_canEvt d b f.off), State.g]

/-! ### The end of a buffer (R344, R345) -/

/-- An outcome that ends a buffer is stored in TXB_STAT. -/
theorem outcome_txOut {o : Nat} (s : State) (d b : Nat) (ho : o < 16) : (s.outcome d b o).txOut d b = o := by
  have hps : ∀ (u : State) x, (u.ps (txbB d b) [(R.TXB_STAT_SEQ, x), (R.TXB_STAT_OUTCOME, o)]).g (txbB d b) R.TXB_STAT_OUTCOME = o := fun u x =>
    (State.g_p_same _ (txbB d b) R.TXB_STAT_OUTCOME o (by decide)).trans (Nat.mod_eq_of_lt ho)
  unfold State.txOut State.outcome
  dsimp only
  split
  · exact hps _ _
  · exact (State.g_p_ne _ _ _ (by simp [R.TXB_STAT_OUTCOME, R.TXB_CTL_REQ])).trans (hps _ _)

/-- Every outcome but PENDING and ACTIVE clears REQ. -/
theorem outcome_req {o : Nat} (s : State) (d b : Nat) (h1 : o ≠ 1) (h2 : o ≠ 2) : (s.outcome d b o).gb (txbB d b) R.TXB_CTL_REQ = false := by
  have hcleared : (s.outcome d b o).g (txbB d b) R.TXB_CTL_REQ = 0 := by
    simp only [State.outcome, h1, h2, decide_false, Bool.or_self, Bool.false_eq_true, if_false]
    exact State.g_p_same _ (txbB d b) R.TXB_CTL_REQ 0 (by decide)
  rw [State.gb, hcleared]
  rfl

/-- A buffer that ends ABORTED, without a fault source's event. -/
theorem txFail_aborted (s : State) (d b : Nat) : s.txFail d b 5 = (s.outcome d b 5).canEvt d R.CAN_EVT_TX_FAIL := by
  simp [State.txFail]

/-! ### A write of TXB_CTL while REQ is 1 (R345) -/

section
variable {s : State} {d b : Nat} (hreq : s.gb (txbB d b) R.TXB_CTL_REQ = true) {v : Word}
include hreq

theorem txbCtlApply_abort_waiting (hv : v.getLsbD 30 = true) (hout : s.txOut d b ≠ 2) : txbCtlApply d b v s = s.txFail d b 5 := by
  simp [txbCtlApply, hreq, (bit_one v 30).mpr hv, hout]

theorem txbCtlApply_abort_active (hv : v.getLsbD 30 = true) (hout : s.txOut d b = 2) :
    txbCtlApply d b v s = s.modCan d fun x => { x with abort := true } := by
  simp [txbCtlApply, hreq, (bit_one v 30).mpr hv, hout]

theorem txbCtlApply_locked (hv : v.getLsbD 30 = false) : txbCtlApply d b v s = s.canEvt d R.CAN_EVT_TXB_LOCKED := by
  have hbit : ¬bits v 30 30 = 1 := mt (bit_one v 30).mp (ne_true_of_eq_false hv)
  simp only [txbCtlApply, if_pos hreq, if_neg hbit]

theorem txbWordApply_locked (a : Nat) (v : Word) : txbWordApply d b a v s = s.canEvt d R.CAN_EVT_TXB_LOCKED := if_pos hreq

end

/-- Settles O42: ABORT ends a buffer that waits and marks one that is active; without it the buffer is locked. -/
theorem abortEndsAPendingBufferAtOnce : Obligations.AbortEndsAPendingBufferAtOnce := by
  intro s d b v hreq
  refine ⟨fun hv hout => ?_, fun hv hout => ?_, fun hv x hx => ?_, fun a x hx => ?_⟩
  · rw [txbCtlApply_abort_waiting hreq hv hout, txFail_aborted]
    constructor
    · exact (canEvt_g_txb ..).trans (outcome_txOut s d b (by decide))
    · rw [State.gb, canEvt_g_txb]
      exact outcome_req s d b (by decide) (by decide)
  · rw [txbCtlApply_abort_active hreq hv hout]
    refine ⟨fun x => rfl, ?_⟩
    simp [State.modCan, State.setCan, tgetD]
  · rw [txbCtlApply_locked hreq hv, canEvt_rd_ne _ _ hx]
  · rw [txbWordApply_locked hreq, canEvt_rd_ne _ _ hx]

end Sys2Proof.Proofs

/-!
The statements about boundary scan and resets: Test-Logic-Reset, what a cold reset leaves, and what a warm reset keeps.
-/
namespace Sys2Proof.Proofs
open Sys2Proof Sys2Proof.Machine Sys2Proof.Laws

/-! ### Test-Logic-Reset (R378, R379) -/

/-- The instructions of the TAPs with those of the first n on IDCODE. -/
def selectIdcode (n : Nat) (l : Tbl TapIr) : Tbl TapIr := upTo n (fun k l => tset l k .idcode) l

theorem upTo_succ {α : Type} (n : Nat) (f : Nat → α → α) (a : α) : upTo (n + 1) f a = f n (upTo n f a) := by
  simp [upTo, List.range_succ]

theorem tget_selectIdcode (n : Nat) (l : Tbl TapIr) (k : Nat) : tget (selectIdcode n l) k = if k < n then some .idcode else tget l k := by
  induction n with
  | zero => rfl
  | succ n ih =>
    rw [selectIdcode, upTo_succ]
    by_cases hk : k = n
    · rw [hk, tget_tset_same, if_pos (Nat.lt_succ_self n)]
    · rw [tget_tset_ne _ _ hk]
      refine ih.trans (if_congr ?_ rfl rfl)
      omega

theorem testLogicResetF_eq (s : State) : testLogicResetF s = { s with taps := selectIdcode (s.nd + 1) s.taps } := by
  have hupTo : ∀ n, upTo n (fun k (u : State) => { u with taps := tset u.taps k .idcode }) s = { s with taps := selectIdcode n s.taps } := by
    intro n
    induction n with
    | zero => rfl
    | succ n ih => rw [selectIdcode, upTo_succ, upTo_succ, ih]; rfl
  exact hupTo _

theorem testLogicReset_occurs : Occurs .testLogicReset true testLogicResetF := occurs fun _ => rfl

/-- Settles O45: the TAPs are the package's and those of the dies, numbered from 0 to the number of dies. -/
theorem testLogicResetSelectsIdcode : Obligations.TestLogicResetSelectsIdcode := by
  intro s ht
  have hx : exec .testLogicReset s = .next { s with taps := selectIdcode (s.nd + 1) s.taps } := by
    rw [testLogicReset_occurs s rfl, reacted_quiet (by rw [testLogicResetF_eq]; exact ht), testLogicResetF_eq]
    rfl
  refine ⟨_, hx, fun k hk => ?_, fun k hk => ?_, rfl⟩
  · exact (tget_selectIdcode _ _ k).trans (if_pos (Nat.lt_succ_of_le hk))
  · exact (tget_selectIdcode _ _ k).trans (if_neg (by omega))

/-! ### A cold reset (R370) -/

/-- A cold reset leaves the reset state but for which part it is, what it put out, and the queue, boundary scan, flash and one-time-programmable
store of the part. -/
theorem coldReset_next (s : State) : exec .coldReset s = .next
    { State.reset with
      part := s.part, free := s.free, out := s.out ++ [.alive false], pending := s.pending, jtagCe := s.jtagCe, taps := s.taps,
      boot := s.inReset.boot } := rfl

/-- Settles O3: every field that the statement clears stands as in the reset state, and a register that no table lists reads its reset value. -/
theorem coldResetLeavesResetValues : Obligations.ColdResetLeavesResetValues := by
  intro s
  refine ⟨_, coldReset_next s, fun _ => rfl, fun _ => rfl, fun _ _ => rfl, fun _ => rfl, ?_⟩
  exact ⟨rfl, rfl, rfl, rfl, rfl, rfl, rfl, rfl, rfl, rfl, rfl, rfl, rfl, rfl, rfl, rfl, rfl, rfl, rfl, rfl, rfl, rfl, rfl, rfl, rfl, rfl,
    rfl, rfl, rfl, rfl, rfl, rfl, rfl, rfl, rfl⟩

/-! ### A warm reset (R370) -/

/-- The part in a warm reset before its dies restore what they keep. -/
def inWarmReset (s : State) : State :=
  { s.inReset with remaps := s.remaps, boot := { s.inReset.boot with nextSlot := s.boot.nextSlot } }

/-- A die restores SYS_TEMP.PEAK and its count of warm resets, which advances, and shows the cause. -/
def restoreDie (s : State) (cause d : Nat) (t : State) : State :=
  t.ps (sysB d) [(R.SYS_TEMP_PEAK, s.g (sysB d) R.SYS_TEMP_PEAK), (R.SYS_RESET_CAUSE_COUNT, s.g (sysB d) R.SYS_RESET_CAUSE_COUNT + 1),
    (R.SYS_RESET_CAUSE_CAUSE, cause)]

theorem warmReset_eq (s : State) (cause : Nat) : s.warmReset cause = each (List.range s.nd) (restoreDie s cause) (inWarmReset s) := rfl

theorem warmReset_keeps {β : Type} (f : State → β) (hp : ∀ s b x v, f (State.p s b x v) = f s) (s : State) (cause : Nat) :
    f (s.warmReset cause) = f (inWarmReset s) := by
  rw [warmReset_eq]
  exact each_keep f _ (fun d => ps_keep f hp (sysB d) _) _ _

/-- What a die shows after a warm reset. -/
structure DieRestored (s : State) (cause d : Nat) (t : State) : Prop where
  peak : t.g (sysB d) R.SYS_TEMP_PEAK = s.g (sysB d) R.SYS_TEMP_PEAK
  count : t.g (sysB d) R.SYS_RESET_CAUSE_COUNT = (s.g (sysB d) R.SYS_RESET_CAUSE_COUNT + 1) % 2 ^ R.SYS_RESET_CAUSE_COUNT.width
  cause : t.g (sysB d) R.SYS_RESET_CAUSE_CAUSE = cause % 2 ^ R.SYS_RESET_CAUSE_CAUSE.width

theorem restoreDie_restores (s : State) (cause d : Nat) (t : State) : DieRestored s cause d (restoreDie s cause d t) where
  peak := by
    refine (State.g_p_ne _ _ _ (by simp [R.SYS_TEMP_PEAK, R.SYS_RESET_CAUSE_CAUSE])).trans ?_
    refine (State.g_p_ne _ _ _ (by simp [R.SYS_TEMP_PEAK, R.SYS_RESET_CAUSE_COUNT])).trans ?_
    refine (State.g_p_same t (sysB d) R.SYS_TEMP_PEAK _ (by decide)).trans (Nat.mod_eq_of_lt (bits_lt ..))
  count := (State.g_p_other _ R.SYS_RESET_CAUSE_CAUSE _ (.inr (by decide))).trans (State.g_p_same _ (sysB d) R.SYS_RESET_CAUSE_COUNT _ (by decide))
  cause := State.g_p_same _ (sysB d) R.SYS_RESET_CAUSE_CAUSE _ (by decide)

/-- The SYS registers of one die are none of another's. -/
theorem sysB_ne {d e o o' : Nat} (h : e ≠ d) (ho : o < 0x4000000) (ho' : o' < 0x4000000) : sysB d + o ≠ sysB e + o' := by
  simp only [sysB, blkAddr]; omega

theorem restoreDie_g_ne {d e : Nat} (h : e ≠ d) (s : State) (cause : Nat) (t : State) (f : Fld) (hf : f.off < 0x4000000) :
    (restoreDie s cause e t).g (sysB d) f = t.g (sysB d) f := by
  rw [State.g, restoreDie, ps_rd_ne, State.g]
  simp [sysB_ne h hf, R.SYS_TEMP_PEAK, R.SYS_RESET_CAUSE_COUNT, R.SYS_RESET_CAUSE_CAUSE]

/-- What one die has restored, the others leave as it is. -/
theorem DieRestored.restoreDie {s t : State} {cause d : Nat} (e : Nat) (h : DieRestored s cause d t) :
    DieRestored s cause d (restoreDie s cause e t) := by
  by_cases he : e = d
  · subst he
    exact restoreDie_restores s cause e t
  · exact ⟨(restoreDie_g_ne he _ _ _ _ (by decide)).trans h.peak, (restoreDie_g_ne he _ _ _ _ (by decide)).trans h.count,
      (restoreDie_g_ne he _ _ _ _ (by decide)).trans h.cause⟩

theorem warmReset_restored {s : State} {d : Nat} (hd : d < s.nd) (cause : Nat) : DieRestored s cause d (s.warmReset cause) := by
  rw [warmReset_eq]
  exact each_establishes (List.mem_range.mpr hd) (restoreDie_restores s cause d) (fun e _ h => h.restoreDie e) _

/-- RSTn resets a part that runs. -/
theorem warmReset_rstn {s : State} (h : s.boot.released = true) : exec (.warmReset .rstn) s = .next ((s.warmReset 1).own s) := by
  have hf : warmResetF .rstn s = s.warmReset 1 := if_pos h
  rw [show exec (.warmReset .rstn) s = .next ((warmResetF .rstn s).own s) from rfl, hf]

/-- Settles O4: every die restores what it keeps, and the rest stands as in reset. -/
theorem warmResetKeepsRemapsPeakAndCount : Obligations.WarmResetKeepsRemapsPeakAndCount := by
  intro s hs
  have hpart : (s.warmReset 1).part = s.part := warmReset_keeps State.part (by simp) s 1
  have hslots : (s.warmReset 1).slots = [] := warmReset_keeps State.slots (by simp) s 1
  have hjournal : (s.warmReset 1).journal = [] := warmReset_keeps State.journal (by simp) s 1
  have hboot : (s.warmReset 1).boot = (inWarmReset s).boot := warmReset_keeps State.boot (by simp) s 1
  have hg : ∀ b f, ((s.warmReset 1).own s).g b f = (s.warmReset 1).g b f := fun b f => by rw [State.g, State.rd_own _ _ hpart, State.g]
  refine ⟨_, warmReset_rstn hs, ?_, fun d hd => ?_, fun w k => ?_, fun k => ?_, ?_, ?_, warmReset_prt s 1, ?_⟩
  · exact warmReset_keeps State.remaps (by simp) s 1
  · obtain ⟨hpeak, hcount, hcause⟩ := warmReset_restored hd 1
    rw [hg, hg, hg]
    exact ⟨hpeak, hcount, hcause⟩
  · rw [State.slot, State.own_slots, hslots]; rfl
  · rw [State.own_journal, hjournal]; rfl
  · exact warmReset_keeps State.chans (by simp) s 1
  · exact warmReset_keeps State.recs (by simp) s 1
  · rw [State.own_boot, hboot]
    exact ⟨rfl, rfl, rfl, rfl⟩

end Sys2Proof.Proofs
